-- ==== Sys2Proof/Word.lean ====
section
/-! DEFINITION. Words, bytes and object addresses: the plain types of the engine's values (R5, R6, R11, R241). -/

namespace Sys2Proof

/-- A byte on the wire or in a memory. -/
abbrev Byte := BitVec 8

/-- A 32-bit word: object addresses, signal addresses, samples and X/Y memory words. -/
abbrev Word := BitVec 32

/-- One instruction word of a DSP core (R203). -/
abbrev DspWord := BitVec 64

/-- The value of one element of the object dictionary (R241). Every numeric type is held as the integer it
stands for (signed for I32, Q31, GAIN and DB16, unsigned otherwise); TIME80 is held as its 80-bit wire integer,
seconds in [47:0] and nanoseconds in [79:48]; STRING32 and DOMAIN are byte strings. -/
inductive Val where
  | int (z : Int)
  | bytes (b : List Byte)
deriving DecidableEq, Repr

/-- The integer of a numeric value; a byte string reads as 0. -/
def Val.toInt : Val → Int
  | .int z => z
  | .bytes _ => 0

/-- The natural number of a numeric value; negative values and byte strings read as 0. -/
def Val.toNat (v : Val) : Nat := v.toInt.toNat

/-- The byte string of a STRING32 or DOMAIN value; a number has none. -/
def Val.toBytes : Val → List Byte
  | .int _ => []
  | .bytes b => b

@[simp] theorem Val.toInt_int (z : Int) : (Val.int z).toInt = z := rfl
@[simp] theorem Val.toBytes_bytes (b : List Byte) : (Val.bytes b).toBytes = b := rfl

/-- The object address `area.object.element` (R11): area [31:24], object [23:8], element [7:0]. -/
def addrOf (area object element : Nat) : Nat := area * 16777216 + object * 256 + element

/-- The area of an object address. -/
def areaOf (a : Nat) : Nat := a / 16777216 % 256
/-- The object of an object address. -/
def objectOf (a : Nat) : Nat := a / 256 % 65536
/-- The element of an object address. -/
def elementOf (a : Nat) : Nat := a % 256

end Sys2Proof
end

