-- ==== Sys2Proof/Machine/Run.lean ====
section
/-! DEFINITION. The running state of the signal path that a snapshot carries (R498): crosspoint ramps and descriptors, limiters,
meters and loudness meters, strips, loudspeaker models, and the snapshot itself, which SNAPSHOT_RECEIVED brings. -/

namespace Sys2Proof.Machine

/-- A sparse table: strictly rising keys, no entry equal to the value that an unlisted key reads as. -/
abbrev Tab (α : Type) := List (Nat × α)

/-- The ramp state of one crosspoint (R88) and the ramp it follows. -/
structure XRamp where
  moving : Bool
  desc : Nat
  start : Nat
  len : Nat
  shape : Nat
deriving DecidableEq, Repr

/-- An earlier stretch of a crosspoint's gain: from its first sample until the next stretch begins (R94). -/
structure Seg where
  start : Nat
  len : Nat
  shape : Nat
  g0 : Int
  g1 : Int
deriving DecidableEq, Repr

/-- A ramp descriptor reserved under R90 and numbered under R602. -/
structure Resv where
  start : Nat
  len : Nat
  shape : Nat
  /-- The changes that hold it, first accepted first. -/
  changes : List Nat
  /-- Its number, once given. -/
  num : Option Nat
  members : Nat
  /-- Whether its first crosspoint has started, and whether it is free from the next boundary (R91). -/
  begun : Bool
deriving DecidableEq, Repr

/-- The final limiter of one destination (R100): its gain in units of 2^-31 and the samples of its look-ahead. -/
structure Lim where
  gain : Nat
  line : List Int
deriving DecidableEq, Repr

/-- The running measurements of a meter point (R108, R109). -/
structure Meter where
  /-- Largest true peak of the last round. -/
  tpeak : Nat
  /-- Peak hold, and the count of samples at which it was set. -/
  hold : Nat
  holdAt : Nat
  /-- Squares of the samples in the RMS window, newest first, without the zeros at its old end; the count of samples from
  which the window runs, its length in ms, and the sample from whose boundary on it restarts. -/
  squares : List Nat
  from_ : Nat
  window : Option Nat
  restartAt : Option Nat
  /-- The last 11 samples, newest first, for the oversampling filter. -/
  tail : List Int
deriving DecidableEq, Repr

/-- The running state of a loudness meter (R110, R111): samples since its reset, the largest true peak, the K-weighting
filter of each entry, the weighted energies of the last 3 s, newest first, and the energies of the 400 ms blocks and of
the 3 s windows taken every 100 ms since the reset. -/
structure Loud where
  samples : Nat
  tpMax : Nat
  filt : Tab (List Int)
  energy : List Nat
  blocks : List Nat
  shorts : List Nat
deriving DecidableEq, Repr

/-- A strip gain ramp (R134): gains in units of 2^-27; `moving` is cleared when it ends. -/
structure SRamp where
  start : Nat
  len : Nat
  shape : Nat
  g0 : Int
  g1 : Int
  moving : Bool
deriving DecidableEq, Repr

/-- A stage morph (R135); `ended` is set when it ends. -/
structure Morph where
  start : Nat
  len : Nat
  /-- Values of the stage's elements before the morph, for the old copy of the stage. -/
  old : List (Nat × Val)
  ended : Bool
deriving DecidableEq, Repr

/-- The copies of a stage (R135): the state of the one with the settings in effect, and of the old one while they
morph. A channel of the filters and the EQ has its own; gate and compressor have one for the strip or pair (R124). -/
structure StageRun where
  cur : List Int
  old : List Int
deriving DecidableEq, Repr

/-- The running state of a strip. -/
structure StripRun where
  /-- Ramps by gain (the element's number; 0x142 for the right gain of `pan`), newest first; a gain with none rests at
  that of its value. -/
  ramps : Tab (List SRamp)
  /-- Morphs by stage, newest first: 0 delay, 1 filters, 2 EQ, 3 gate, 4 compressor. -/
  morphs : Tab (List Morph)
  /-- Instances by stage * 2 + channel, and those prepared for armed changes: change and stage (R145). -/
  stages : Tab StageRun
  prepared : List (Nat × Nat)
  onBackup : Bool
  /-- Whether the primary was lost for the whole of the last round (R132). -/
  lost : Bool
  /-- Sample on which the crossfade to the backup begins, once it is due (R132). -/
  backupAt : Option Nat
  /-- The delay lines of left and right, newest sample first (R135). -/
  line : List Int
  lineR : List Int
  /-- What the strip's job of the round leaves for `st_status` (R128): that it ran, the gate open at the end, the compressor
  reducing gain. -/
  ran : Bool
  gateOpen : Bool
  compActive : Bool
deriving DecidableEq, Repr

/-- The protection of a power stage channel (R522 to R525): the model in force and the numbers of its objects 00 to 0D; voltage,
velocity, displacement and current of the last sample, in units of 2^-64 V, m/s, m and A; the rise of the coil over the
magnet and of the magnet over the ambient, in units of 2^-64 K; the thermal attenuation, in units of 1/28,224,000 dB; the
limiter's gain in units of 2^-31; and the last 32 samples after the thermal gain, newest first, each with the excursion
predicted for it. `peaks` holds the largest excursions of the last second with their sample counts, newest first. -/
structure Speaker where
  model : Nat
  pars : List Int
  u : Int
  v : Int
  x : Int
  i : Int
  coil : Int
  mag : Int
  att : Nat
  gain : Nat
  line : List (Int × Nat)
  seen : Nat
  peaks : List (Nat × Nat)
  /-- The lowest gain of the round in progress, in units of 2^-31, and whether the limiter and the thermal gain limit. -/
  lowest : Nat
  limits : Bool
  hot : Bool
deriving DecidableEq, Repr

/-- The copy of the ACTIVE's state that step 2 of a resync sends (R498): its round, the X and Y regions of each job by cluster
and core, its regions with write rights in the cluster store and in DRAM, the banks, ramps and descriptors, limiters,
meters and loudness meters, the generators' filters, the strips, the ASRC bank and the loudspeaker models. -/
structure Snapshot where
  round : Nat
  xs : List (Nat × Nat × Nat × List Word)
  ys : List (Nat × Nat × Nat × List Word)
  store : List (Nat × Nat × List Byte)
  dram : List (Nat × List Byte)
  inEffect : Tab Int
  incoming : Tab Int
  staged : Tab (List (Nat × Int))
  xramps : Tab XRamp
  before : Tab (List Seg)
  resv : List Resv
  lims : Tab Lim
  meters : Tab Meter
  louds : Tab Loud
  count : Nat
  pink : Tab (List (Int × Int))
  strips : Tab StripRun
  /-- The ASRC groups: state, ratio, fades, positions, counts and rates, and the samples of their channels. -/
  agState : List Nat
  agRatio : List Nat
  asrcFade : Tab Nat
  asrcLoss : Tab Nat
  asrcPos : Tab Nat
  asrcSeen : Tab Nat
  asrcRate : Tab Nat
  asrcIn : Tab (List Int)
  speakers : Tab Speaker
deriving DecidableEq, Repr

end Sys2Proof.Machine
end

