-- ==== Sys2Proof/Syntax.lean ====
section
/-! DEFINITION. The commands of the block: `Instr` has one constructor for every row of spec/opcode_table.json.
A command that is not a DSP core instruction carries `t`, the moment at which it happens, in ns since the CTL domain
powered up (log entry 1). A DSP core instruction names the core that executes it (R203). -/

namespace Sys2Proof

/-! ### DSP core instructions (R203 to R228) -/

/-- A data register `D0`-`D15`. -/
abbrev DReg := Fin 16
/-- An accumulator `A0`-`A3`. -/
abbrev Acc := Fin 4
/-- A pointer `P0`-`P7`. -/
abbrev Ptr := Fin 8

/-- The post-modify step of R211. -/
inductive Mod where | keep | inc | dec | byN
deriving DecidableEq, Repr

/-- The condition codes of R212; 0xF is reserved. -/
inductive Cond where | al | eq | ne | mi | pl | cs | cc | vs | nv | gt | ge | lt | le | ss | gs
deriving DecidableEq, Repr

/-- The registers that `rd` and `ra` of MOV, LDI and ADDI can name (R210). -/
inductive Reg where
  | d (i : Fin 16) | p (i : Fin 8) | n (i : Fin 8) | l (i : Fin 8) | b (i : Fin 8) | lc (i : Fin 4)
  | sr | cyc | job
deriving DecidableEq, Repr

/-- A MAC slot (R206, R213). -/
inductive SlotOp where
  | nop
  | mac (s : Bool) (an : Acc) (da db : DReg)
  | msu (s : Bool) (an : Acc) (da db : DReg)
  | mpy (s : Bool) (an : Acc) (da db : DReg)
  | mpyn (s : Bool) (an : Acc) (da db : DReg)
  | macr (s : Bool) (an : Acc) (da db : DReg)
  | ftap (s : Bool) (an : Acc)
  | adda (s : Bool) (an am : Acc)
  | suba (s : Bool) (an am : Acc)
  | clr (an : Acc)
  | mova (an am : Acc)
deriving DecidableEq, Repr

/-- The X move of the normal form (R207). -/
inductive XMove where
  | none
  | load (dn : DReg) (px : Ptr) (m : Mod)
  | store (dn : DReg) (px : Ptr) (m : Mod)
deriving DecidableEq, Repr

/-- The Y move of the normal form (R207). -/
inductive YMove where
  | none
  | load (dn : DReg) (py : Ptr) (m : Mod)
deriving DecidableEq, Repr

/-- The X and Y fields of a bundle: the normal form, or the FTAP form with the pointers of both slots (R207). -/
inductive Moves where
  | normal (x : XMove) (y : YMove)
  | ftap (pa pb : Ptr) (mx : Mod) (pc pd : Ptr) (my : Mod)
deriving DecidableEq, Repr

/-- An F1 compute bundle (R205): two MAC slots and the moves. -/
structure Bundle where
  s0 : SlotOp
  s1 : SlotOp
  mv : Moves
deriving DecidableEq, Repr

/-- What a bundle holds beside the slot that a command names: the other slot and the moves. -/
structure Beside where
  other : SlotOp
  mv : Moves
deriving DecidableEq, Repr

/-- One instruction of a DSP core (R203, R213, R218, R219). -/
inductive DspInsn where
  | f1 (b : Bundle)
  | nop
  | endJob
  | mov (rd ra : Reg)
  | add (s : Bool) (rd ra rb : DReg)
  | sub (s : Bool) (rd ra rb : DReg)
  | neg (s : Bool) (rd ra : DReg)
  | abs (s : Bool) (rd ra : DReg)
  | min (rd ra rb : DReg)
  | max (rd ra rb : DReg)
  | and (rd ra rb : DReg)
  | or (rd ra rb : DReg)
  | xor (rd ra rb : DReg)
  | not (rd ra : DReg)
  | cmp (ra rb : DReg)
  | asl (s : Bool) (rd ra : DReg) (sh : Fin 32)
  | asr (rd ra : DReg) (sh : Fin 32)
  | asrr (rd ra : DReg) (sh : Fin 32)
  | lsl (rd ra : DReg) (sh : Fin 32)
  | lsr (rd ra : DReg) (sh : Fin 32)
  | ash (s : Bool) (rd ra rb : DReg)
  | ext (s : Bool) (rd : DReg) (an : Acc) (sh : BitVec 6)
  | norm (rd : DReg) (an : Acc)
  | lda (an : Acc) (ra : DReg)
  | ldag (an : Acc) (ra : DReg)
  | ldah (an : Acc) (ra : DReg)
  | ldal (an : Acc) (ra : DReg)
  | stag (rd : DReg) (an : Acc)
  | stah (rd : DReg) (an : Acc)
  | stal (rd : DReg) (an : Acc)
  | sha (s : Bool) (an : Acc) (sh : BitVec 6)
  | clra (an : Acc)
  | divs (rd ra rb : DReg)
  | mpyr (s : Bool) (rd ra rb : DReg)
  | lg2 (rd ra : DReg)
  | ex2 (s : Bool) (rd ra : DReg)
  | sty (pn : Ptr) (rb : DReg) (m : Mod)
  | jmp (c : Cond) (tgt : BitVec 13)
  | call (c : Cond) (tgt : BitVec 13)
  | ret (c : Cond)
  | loop (count : BitVec 16) (body : BitVec 13)
  | loopv (dn : DReg) (body : BitVec 13)
  | leave (c : Cond)
  | ldi (rd : Reg) (imm : Word)
  | addi (s : Bool) (rd : Reg) (imm : Word)
  | andi (rd : DReg) (imm : Word)
  | ori (rd : DReg) (imm : Word)
  | xori (rd : DReg) (imm : Word)
  | cmpi (rd : DReg) (imm : Word)
  | ldia (an : Acc) (imm : Word)
  | mpyri (s : Bool) (rd : DReg) (imm : Word)
deriving DecidableEq, Repr

/-- A core: cluster 0-7 and core 0-8, core 8 being the relief core (R161). -/
structure CoreId where
  c : Fin 8
  j : Fin 9
deriving DecidableEq, Repr

/-! ### The host side -/

/-- Where an operation comes from: a session, a multicast group, the service SPI, or a request that the partner
forwarded with the role of its session (R245, R255, R271, R477). -/
inductive Src where
  | session (n : Nat)
  | group (g : Nat)
  | spi
  | peer (fid role : Nat)
deriving DecidableEq, Repr

/-- Who asks: the source, and the `seq` and `op_id` of the record (R257, R259). -/
structure Who where
  src : Src
  seq : Nat
  opId : Nat
deriving DecidableEq, Repr

/-- An operation record of a BOP message (R259): the 12-byte head and the body. -/
structure Rec where
  op : Nat
  typ : Nat
  opId : Nat
  oflags : Nat
  status : Nat
  addr : Word
  body : List Byte
deriving DecidableEq, Repr

/-- One chunk of a DOMAIN value (R264). -/
structure Chunk where
  off : Nat
  total : Nat
  data : List Byte
deriving DecidableEq, Repr

/-! ### The audio, network, time and link side -/

/-- A frame that arrives on a serial port (R291 to R299): whether it has the expected length and starts within 0.5 smp of
where the port expects it; the measured frame rate in 0.01 Hz; the level of DIN at the rising and at the falling edge of
BCLK in each BCLK period from the frame start on; and, in AES3, the audio bits of each subframe, the subframes with a parity
error or a biphase violation, and a channel status block of 24 bytes that ends with the frame. -/
structure SapFrame where
  good : Bool
  rate : Nat
  din : List (Bool × Bool)
  words : List Word
  badSlots : List Nat
  csBlock : Option (List Byte)
deriving DecidableEq, Repr

/-- What a received Ethernet frame carries (R328, R329, R340); a BOP frame has a UDP destination port. A PTP event message has
its transport (0 IPv4, 1 IPv6, 2 Ethernet), its correctionField in units of 2^-16 ns, its UDP checksum, and the two octets that
follow it over IPv6 (R402, R403). -/
inductive FrameKind where
  | ptpEvent (transport : Nat) (corr : Int) (udp pad : Nat) | ptpOther | bop (host dst : Nat) (data : List Byte) | stream (i : Nat) | neighbour | other
deriving DecidableEq, Repr

/-- A received frame (R328 to R333, R339): addresses as 48-bit numbers, its length with FCS, whether the FCS holds,
its VLAN tag, its DSCP and what it carries. -/
structure Frame where
  dst : Nat
  srcMac : Nat
  len : Nat
  fcsOk : Bool
  vlan : Option Nat
  dscp : Nat
  kind : FrameKind
deriving DecidableEq, Repr

/-- A received media packet (R342 to R348): addressing, RTP fields, UDP checksum verdict, payload length, and for each
sample instant the words of its channels, `none` where an AM824 subframe fails its parity. -/
structure Packet where
  dst : List Byte
  dport : Nat
  srcIp : List Byte
  pt : Nat
  ssrc : Nat
  seq : Nat
  ts : Nat
  udpOk : Bool
  len : Nat
  samples : List (List (Option Int))
deriving DecidableEq, Repr

/-- A request that the engine answers on a port by itself (R341). -/
inductive Neighbour where
  | arp (target : Nat) | solicit (target : Nat) | echo (target : Nat) | query (group : Nat)
deriving DecidableEq, Repr

/-- A PTP message's data that the engine works from (R400 to R405, R409). -/
structure PtpMaster where
  portId : Nat
  gmId : Nat
  gmClass : Nat
  gmAcc : Nat
  gmVar : Nat
  priority1 : Nat
  priority2 : Nat
  steps : Nat
deriving DecidableEq, Repr

/-- The header of a received PTP message: its domain, its sourcePortIdentity and sequence, its correctionField in units of
2^-16 ns (R402). -/
structure PtpHead where
  domain : Nat
  src : Nat
  seq : Nat
  corr : Int
deriving DecidableEq, Repr

/-- An Announce message: its header and the data of its master (R402, R405). -/
structure PtpAnnounce where
  head : PtpHead
  master : PtpMaster
deriving DecidableEq, Repr

/-- A Delay_Resp message: its header, requestingPortIdentity and the timestamp in it, in ns (R402). -/
structure PtpDelay where
  head : PtpHead
  req : Nat
  stamp : Nat
deriving DecidableEq, Repr

/-- A Pdelay_Resp message with twoStepFlag, or the follow-up of one, where `final` is true (R402). -/
structure PtpPdelay where
  head : PtpHead
  req : Nat
  stamp : Nat
  twoStep : Bool
  final : Bool
deriving DecidableEq, Repr

/-- The PTP messages that the engine sends (R402). -/
inductive PtpSend where
  | sync | announce | delayReq | pdelayReq
deriving DecidableEq, Repr

/-- The clock sources whose failure R418 and R435 number. -/
inductive ClockSource where
  | xo | audref | pll0 | pll1 | pll2 | pll3 | dpll | netPll | casPll
deriving DecidableEq, Repr

/-- A time section of a coach link (R371): the sender's fields, and the local arrival time of its start block. -/
structure TimeSection where
  engine : Nat
  round : Nat
  fs : Nat
  b : Nat
  quality : Nat
  driving : Bool
  twin : Bool
  claim : Nat
  tgId : Nat
  t1 : Nat
  t3 : Nat
  t4 : Nat
  mapCrc : Nat
  arrival : Nat
deriving DecidableEq, Repr

/-- The items of a courier section (R479). A change item carries the writes of one accepted change; a reference stands for an
item that travels in bulk. -/
inductive CourierItem where
  | heartbeat (round played role health ref claim : Nat)
  | digest (round crc : Nat)
  | asrc (round : Nat) (groups : List (Nat × Nat × Nat))
  | change (id eff fid : Nat) (writes : List (Nat × Val))
  | request (fid role : Nat) (r : Rec)
  | response (fid : Nat) (r : Rec)
  | identity (feature fw fmt fs b engine tg : Nat)
  | bulkRef (typ id len : Nat)
deriving DecidableEq, Repr

/-- The unit at one end of a DMA transfer (R180): the core's X or Y memory, the cluster store or DRAM. -/
inductive DmaSpace where | x | y | store | dram
deriving DecidableEq, Repr

/-- A DMA transfer (R180): `rows` rows of `len` words, `stride` words apart, at each end. -/
structure DmaXfer where
  src : DmaSpace
  srcAt : Nat
  srcStride : Nat
  dst : DmaSpace
  dstAt : Nat
  dstStride : Nat
  len : Nat
  rows : Nat
deriving DecidableEq, Repr

/-- The consumers of a destination pigeonhole that leave the engine (R77). -/
inductive Output where
  | serial (i : Nat) | net (i : Nat) | coach (i : Nat) | psc (i : Nat)
deriving DecidableEq, Repr

/-- The morphed stages of a strip (R133). -/
inductive Stage where | delay | filter | eq | gate | comp
deriving DecidableEq, Repr

/-- The service classes of R445. -/
inductive DramClass where | express | first | second | bulk
deriving DecidableEq, Repr

/-- A DRAM request (R445 to R454): class, byte address in the user area, the bytes to write or the number to read,
whether it hits an open row, whether the controller must hold it, the error that the ECC finds (0 none, 1 corrected,
2 uncorrectable), and the pending change whose arming it serves. -/
structure DramReq where
  cls : DramClass
  addr : Nat
  write : Option (List Byte)
  len : Nat
  hit : Bool
  wait : Bool
  ecc : Nat
  arms : Option Nat
deriving DecidableEq, Repr

/-- A crossbar burst (R462 to R468): master, address, 16-byte beats, and the access. -/
structure Burst where
  master : Nat
  addr : Nat
  len : Nat
  write : Option (List Byte)
  fetch : Bool
deriving DecidableEq, Repr

/-- What CLAIM_IO shows in a claim window (R488 to R490): the idle check, whether a line that this engine pulls low reads high,
and for each of the 19 slots whether another engine pulls the line low. -/
structure ClaimLine where
  idleLow : Bool
  stuckHigh : Bool
  others : List Bool
deriving DecidableEq, Repr

/-- The UDP datagram that carries a BOP message (R252, R253): its destination port, its DSCP, whether it is an IP fragment, and its
data. -/
structure Udp where
  dst : Nat
  dscp : Nat
  fragment : Bool
  data : List Byte
deriving DecidableEq, Repr

/-- A pulse on an input pin: when it begins to count, and its width in ns (R581, R582). -/
structure Pulse where
  time : Nat
  width : Nat
deriving DecidableEq, Repr

/-- A playing of an output: the tray position that is due (R57), and the bits that the sense streams of a power-stage channel carry in
that sample period, voltage and current (R506). -/
structure Play where
  pos : Nat
  sense : List (Bool × Bool)
deriving DecidableEq, Repr

/-- An edge of a reference input, rising or falling (R407). -/
structure RefTick where
  code : Nat
  falling : Bool
deriving DecidableEq, Repr

/-- A courier section: the chunks of it that arrived bad, and its items (R365, R479). -/
structure CourierSection where
  bad : List Nat
  items : List CourierItem
deriving DecidableEq, Repr

/-- A rail and its voltage in units of 0.1 mV (R537, R571). -/
structure Supply where
  rail : Nat
  volts : Nat
deriving DecidableEq, Repr

/-- The end of a boot: when, what the mode registers of the devices on each DRAM channel say in GB, whether every channel trained
(R438), and the slots in which a read found an error, none where the flash does not respond (R541). -/
structure BootEnd where
  time : Nat
  sizes : List Nat
  trained : Bool
  flash : Option (List Nat)
deriving DecidableEq, Repr

/-- A check of an image slot: when it ends, and whether the slot was read without error (R552, R553). -/
structure SlotCheck where
  time : Nat
  read : Bool
deriving DecidableEq, Repr

/-- The commands of the engine, one constructor for each row of spec/opcode_table.json, in its order. -/
inductive Instr where
  /-- BOP_MESSAGE (R257). -/
  | bopMessage (t : Nat) (port host : Nat) (data : Udp)
  /-- SESSION_OPEN (R266). -/
  | sessionOpen (t : Nat) (port slot nonce : Nat)
  /-- READ (R260). -/
  | read (t : Nat) (w : Who) (r : Rec)
  /-- WRITE (R262). -/
  | write (t : Nat) (w : Who) (r : Rec)
  /-- WRITE_AT (R263). -/
  | writeAt (t : Nat) (w : Who) (r : Rec)
  /-- SUBSCRIBE (R276). -/
  | subscribe (t : Nat) (w : Who) (r : Rec)
  /-- ENVELOPE_OPEN (R154). -/
  | envelopeOpen (t : Nat) (w : Who) (r : Rec)
  /-- ENVELOPE_SEAL (R155). -/
  | envelopeSeal (t : Nat) (w : Who) (r : Rec)
  /-- ENVELOPE_DROP (R154). -/
  | envelopeDrop (t : Nat) (w : Who) (r : Rec)
  /-- RECALL (R153). -/
  | recall (t : Nat) (w : Who) (r : Rec)
  /-- SPI_READ (R256). -/
  | spiRead (t : Nat) (addr : Word) (typ len off : Nat)
  /-- SPI_WRITE (R256). -/
  | spiWrite (t : Nat) (addr : Word) (typ len off : Nat) (data : List Byte)
  /-- WRITE_ELEMENT (R242). -/
  | writeElement (t : Nat) (w : Who) (addr : Word) (v : Val)
  /-- SRC_SIGNAL (R75). -/
  | srcSignal (t : Nat) (w : Who) (p : Nat) (sig : Word)
  /-- DST_TARGET (R81). -/
  | dstTarget (t : Nat) (w : Who) (d : Nat) (v : Word)
  /-- DST_PASS (R76). -/
  | dstPass (t : Nat) (w : Who) (d v : Nat)
  /-- XP_GAIN (R85). -/
  | xpGain (t : Nat) (w : Who) (src d : Nat) (g : Word)
  /-- ST_PROGRAM (R137). -/
  | stProgram (t : Nat) (w : Who) (bus : Bool) (n v : Nat)
  /-- ST_OUT_PH (R130). -/
  | stOutPh (t : Nat) (w : Who) (bus : Bool) (n v : Nat)
  /-- LD_START (R111). -/
  | ldStart (t : Nat) (w : Who) (l : Nat)
  /-- LD_STOP (R111). -/
  | ldStop (t : Nat) (w : Who) (l : Nat)
  /-- LD_RESET (R111). -/
  | ldReset (t : Nat) (w : Who) (l : Nat)
  /-- M_CLEAR (R109). -/
  | mClear (t : Nat) (w : Who) (p : Nat)
  /-- SCENE_DATA (R152). -/
  | sceneData (t : Nat) (w : Who) (n : Nat) (k : Chunk)
  /-- IMG_DATA (R235). -/
  | imgData (t : Nat) (w : Who) (c : Nat) (k : Chunk)
  /-- IMG_ACTIVATE (R236). -/
  | imgActivate (t : Nat) (w : Who) (c : Nat)
  /-- PEND_CANCEL (R146). -/
  | pendCancel (t : Nat) (w : Who) (i : Nat)
  /-- CORE_RETIRE (R198). -/
  | coreRetire (t : Nat) (w : Who) (k : CoreId)
  /-- CORE_RESTORE (R197). -/
  | coreRestore (t : Nat) (w : Who) (k : CoreId)
  /-- CL_AUDIT_ENABLE (R200). -/
  | clAuditEnable (t : Nat) (w : Who) (c v : Nat)
  /-- CL_CLEAR (R200). -/
  | clClear (t : Nat) (w : Who) (c : Nat)
  /-- JOB_CLEAR (R239). -/
  | jobClear (t : Nat) (w : Who) (c j pos : Nat)
  /-- SCHED_CLEAR (R52). -/
  | schedClear (t : Nat) (w : Who)
  /-- SO_CLEAR (R116). -/
  | soClear (t : Nat) (w : Who)
  /-- DISP_CLEAR (R158). -/
  | dispClear (t : Nat) (w : Who)
  /-- LOG_CLEAR (R251). -/
  | logClear (t : Nat) (w : Who)
  /-- BOP_CLEAR (R286). -/
  | bopClear (t : Nat) (w : Who)
  /-- DISAGREE_CLEAR (R247). -/
  | disagreeClear (t : Nat) (w : Who)
  /-- SESSION_CLOSE (R267). -/
  | sessionClose (t : Nat) (w : Who)
  /-- KEY_VALUE (R265). -/
  | keyValue (t : Nat) (w : Who) (slot : Nat) (k : Chunk)
  /-- KEY_ROLE (R265). -/
  | keyRole (t : Nat) (w : Who) (slot v : Nat)
  /-- SP_ENABLE (R297). -/
  | spEnable (t : Nat) (w : Who) (p v : Nat)
  /-- SHADOW_WRITE (R303). -/
  | shadowWrite (t : Nat) (w : Who) (p : Nat) (e : Fin 4) (v : Word)
  /-- SP_APPLY_AT (R304). -/
  | spApplyAt (t : Nat) (w : Who) (p a : Nat)
  /-- SP_CLEAR (R319). -/
  | spClear (t : Nat) (w : Who) (p : Nat)
  /-- SAP_START_ARM (R307). -/
  | sapStartArm (t : Nat) (w : Who)
  /-- SAP_START_DISARM (R320). -/
  | sapStartDisarm (t : Nat) (w : Who)
  /-- RING_STOP (R321). -/
  | ringStop (t : Nat) (w : Who) (r : Nat)
  /-- RING_START (R321). -/
  | ringStart (t : Nat) (w : Who) (r : Nat)
  /-- RING_START_WITH_TRIGGER (R321). -/
  | ringStartWithTrigger (t : Nat) (w : Who) (r : Nat)
  /-- AG_SOURCE (R324). -/
  | agSource (t : Nat) (w : Who) (g : Nat) (bandwidth : Bool) (v : Nat)
  /-- AG_CLEAR (R323). -/
  | agClear (t : Nat) (w : Who) (g : Nat)
  /-- RX_ENABLE (R346). -/
  | rxEnable (t : Nat) (w : Who) (i v : Nat)
  /-- TX_ENABLE (R346). -/
  | txEnable (t : Nat) (w : Who) (i v : Nat)
  /-- RX_CLEAR (R361). -/
  | rxClear (t : Nat) (w : Who) (i : Nat)
  /-- TX_CLEAR (R362). -/
  | txClear (t : Nat) (w : Who) (i : Nat)
  /-- PORT_CLEAR (R358). -/
  | portClear (t : Nat) (w : Who) (p : Nat)
  /-- TXR_THRESHOLD_RESET (R360). -/
  | txrThresholdReset (t : Nat) (w : Who) (p r : Nat)
  /-- CL_CLEAR_LINK (R392). -/
  | clClearLink (t : Nat) (w : Who) (l : Nat)
  /-- TIME_SET (R397). -/
  | timeSet (t : Nat) (w : Who) (v : Nat)
  /-- PTP_PROFILE (R398). -/
  | ptpProfile (t : Nat) (w : Who) (v : Nat)
  /-- REF_PRIO_WRITE (R410). -/
  | refPrioWrite (t : Nat) (w : Who) (i v : Nat)
  /-- DRAM_ENGINE_SEGS (R469). -/
  | dramEngineSegs (t : Nat) (w : Who) (v : Nat)
  /-- DRAM_CLEAR (R469). -/
  | dramClear (t : Nat) (w : Who)
  /-- DRAM_WIN_DATA (R472). -/
  | dramWinData (t : Nat) (w : Who) (wr : Bool) (off len : Nat) (k : Chunk)
  /-- SRAM_CLEAR (R473). -/
  | sramClear (t : Nat) (w : Who)
  /-- TH_CLEAR (R563). -/
  | thClear (t : Nat) (w : Who)
  /-- PD_ON (R535). -/
  | pdOn (t : Nat) (w : Who) (i v : Nat)
  /-- TW_RANK (R497). -/
  | twRank (t : Nat) (w : Who) (v : Nat)
  /-- TW_RESYNC (R500). -/
  | twResync (t : Nat) (w : Who)
  /-- TW_CLEAR (R501). -/
  | twClear (t : Nat) (w : Who)
  /-- PSC_ON (R521). -/
  | pscOn (t : Nat) (w : Who) (n v : Nat)
  /-- PSC_TEST (R517). -/
  | pscTest (t : Nat) (w : Who) (n : Nat)
  /-- PSC_UNLATCH (R521). -/
  | pscUnlatch (t : Nat) (w : Who) (n : Nat)
  /-- PSC_CLEAR (R529). -/
  | pscClear (t : Nat) (w : Who) (n : Nat)
  /-- REQUEST_DORMANT (R540). -/
  | requestDormant (t : Nat) (w : Who)
  /-- REQUEST_CONFIGURE (R533). -/
  | requestConfigure (t : Nat) (w : Who)
  /-- REQUEST_RUN (R533). -/
  | requestRun (t : Nat) (w : Who)
  /-- REQUEST_SERVICE (R533). -/
  | requestService (t : Nat) (w : Who)
  /-- RESET_REQUEST (R536). -/
  | resetRequest (t : Nat) (w : Who)
  /-- SETTINGS_SAVE (R544). -/
  | settingsSave (t : Nat) (w : Who)
  /-- SETTINGS_FACTORY (R545). -/
  | settingsFactory (t : Nat) (w : Who)
  /-- UPD_DATA (R552). -/
  | updData (t : Nat) (w : Who) (k : Chunk)
  /-- UPD_VERIFY (R552). -/
  | updVerify (t : Nat) (w : Who)
  /-- UPD_ACTIVATE (R553). -/
  | updActivate (t : Nat) (w : Who)
  /-- UPD_CONFIRM (R555). -/
  | updConfirm (t : Nat) (w : Who)
  /-- UPD_ABORT (R551). -/
  | updAbort (t : Nat) (w : Who)
  /-- SEC_OWNER_HASH (R558). -/
  | secOwnerHash (t : Nat) (w : Who) (k : Chunk)
  /-- SEC_OWNER_REQ (R558). -/
  | secOwnerReq (t : Nat) (w : Who)
  /-- SEC_DEBUG_OFF (R558). -/
  | secDebugOff (t : Nat) (w : Who)
  /-- CTL_REMAP (R466). -/
  | ctlRemap (t : Nat) (master : Nat) (v : Word)
  /-- RGN_WRITE (R467). -/
  | rgnWrite (t : Nat) (via m i reg : Nat) (v : Word)
  /-- SLOT_NOP (R213). -/
  | slotNop (k : CoreId) (slot : Fin 2) (r : Beside)
  /-- MAC (R213). -/
  | mac (k : CoreId) (slot : Fin 2) (s : Bool) (an : Acc) (da db : DReg) (r : Beside)
  /-- MSU (R213). -/
  | msu (k : CoreId) (slot : Fin 2) (s : Bool) (an : Acc) (da db : DReg) (r : Beside)
  /-- MPY (R213). -/
  | mpy (k : CoreId) (slot : Fin 2) (s : Bool) (an : Acc) (da db : DReg) (r : Beside)
  /-- MPYN (R213). -/
  | mpyn (k : CoreId) (slot : Fin 2) (s : Bool) (an : Acc) (da db : DReg) (r : Beside)
  /-- MACR (R213). -/
  | macr (k : CoreId) (slot : Fin 2) (s : Bool) (an : Acc) (da db : DReg) (r : Beside)
  /-- FTAP (R216). -/
  | ftap (k : CoreId) (slot : Fin 2) (s : Bool) (an : Acc) (r : Beside)
  /-- ADDA (R213). -/
  | adda (k : CoreId) (slot : Fin 2) (s : Bool) (an am : Acc) (r : Beside)
  /-- SUBA (R213). -/
  | suba (k : CoreId) (slot : Fin 2) (s : Bool) (an am : Acc) (r : Beside)
  /-- CLR (R213). -/
  | clr (k : CoreId) (slot : Fin 2) (an : Acc) (r : Beside)
  /-- MOVA (R213). -/
  | mova (k : CoreId) (slot : Fin 2) (an am : Acc) (r : Beside)
  /-- X_LOAD (R207). -/
  | xLoad (k : CoreId) (dn : DReg) (px : Ptr) (m : Mod) (s0 s1 : SlotOp) (y : YMove)
  /-- X_STORE (R207). -/
  | xStore (k : CoreId) (dn : DReg) (px : Ptr) (m : Mod) (s0 s1 : SlotOp) (y : YMove)
  /-- Y_LOAD (R207). -/
  | yLoad (k : CoreId) (dn : DReg) (py : Ptr) (m : Mod) (s0 s1 : SlotOp) (x : XMove)
  /-- NOP (R218). -/
  | nop (k : CoreId) (w : DspWord)
  /-- END (R227). -/
  | endJob (k : CoreId)
  /-- MOV (R218). -/
  | mov (k : CoreId) (rd ra : Reg)
  /-- ADD (R218). -/
  | add (k : CoreId) (s : Bool) (rd ra rb : DReg)
  /-- SUB (R218). -/
  | sub (k : CoreId) (s : Bool) (rd ra rb : DReg)
  /-- NEG (R218). -/
  | neg (k : CoreId) (s : Bool) (rd ra : DReg)
  /-- ABS (R218). -/
  | abs (k : CoreId) (s : Bool) (rd ra : DReg)
  /-- MIN (R218). -/
  | min (k : CoreId) (rd ra rb : DReg)
  /-- MAX (R218). -/
  | max (k : CoreId) (rd ra rb : DReg)
  /-- AND (R218). -/
  | and (k : CoreId) (rd ra rb : DReg)
  /-- OR (R218). -/
  | or (k : CoreId) (rd ra rb : DReg)
  /-- XOR (R218). -/
  | xor (k : CoreId) (rd ra rb : DReg)
  /-- NOT (R218). -/
  | not (k : CoreId) (rd ra : DReg)
  /-- CMP (R218). -/
  | cmp (k : CoreId) (ra rb : DReg)
  /-- ASL (R218). -/
  | asl (k : CoreId) (s : Bool) (rd ra : DReg) (sh : Fin 32)
  /-- ASR (R218). -/
  | asr (k : CoreId) (rd ra : DReg) (sh : Fin 32)
  /-- ASRR (R218). -/
  | asrr (k : CoreId) (rd ra : DReg) (sh : Fin 32)
  /-- LSL (R218). -/
  | lsl (k : CoreId) (rd ra : DReg) (sh : Fin 32)
  /-- LSR (R218). -/
  | lsr (k : CoreId) (rd ra : DReg) (sh : Fin 32)
  /-- ASH (R218). -/
  | ash (k : CoreId) (s : Bool) (rd ra rb : DReg)
  /-- EXT (R185). -/
  | ext (k : CoreId) (s : Bool) (rd : DReg) (an : Acc) (sh : BitVec 6)
  /-- NORM (R218). -/
  | norm (k : CoreId) (rd : DReg) (an : Acc)
  /-- LDA (R176). -/
  | lda (k : CoreId) (an : Acc) (ra : DReg)
  /-- LDAG (R218). -/
  | ldag (k : CoreId) (an : Acc) (ra : DReg)
  /-- LDAH (R218). -/
  | ldah (k : CoreId) (an : Acc) (ra : DReg)
  /-- LDAL (R218). -/
  | ldal (k : CoreId) (an : Acc) (ra : DReg)
  /-- STAG (R218). -/
  | stag (k : CoreId) (rd : DReg) (an : Acc)
  /-- STAH (R218). -/
  | stah (k : CoreId) (rd : DReg) (an : Acc)
  /-- STAL (R218). -/
  | stal (k : CoreId) (rd : DReg) (an : Acc)
  /-- SHA (R218). -/
  | sha (k : CoreId) (s : Bool) (an : Acc) (sh : BitVec 6)
  /-- CLRA (R218). -/
  | clra (k : CoreId) (an : Acc)
  /-- DIVS (R220). -/
  | divs (k : CoreId) (rd ra rb : DReg)
  /-- MPYR (R218). -/
  | mpyr (k : CoreId) (s : Bool) (rd ra rb : DReg)
  /-- LG2 (R221). -/
  | lg2 (k : CoreId) (rd ra : DReg)
  /-- EX2 (R222). -/
  | ex2 (k : CoreId) (s : Bool) (rd ra : DReg)
  /-- STY (R218). -/
  | sty (k : CoreId) (pn : Ptr) (rb : DReg) (m : Mod)
  /-- JMP (R218). -/
  | jmp (k : CoreId) (c : Cond) (tgt : BitVec 13)
  /-- CALL (R218). -/
  | call (k : CoreId) (c : Cond) (tgt : BitVec 13)
  /-- RET (R218). -/
  | ret (k : CoreId) (c : Cond)
  /-- LOOP (R223). -/
  | loop (k : CoreId) (count : BitVec 16) (body : BitVec 13)
  /-- LOOPV (R223). -/
  | loopv (k : CoreId) (dn : DReg) (body : BitVec 13)
  /-- LEAVE (R225). -/
  | leave (k : CoreId) (c : Cond)
  /-- LDI (R219). -/
  | ldi (k : CoreId) (rd : Reg) (imm : Word)
  /-- ADDI (R219). -/
  | addi (k : CoreId) (s : Bool) (rd : Reg) (imm : Word)
  /-- ANDI (R219). -/
  | andi (k : CoreId) (rd : DReg) (imm : Word)
  /-- ORI (R219). -/
  | ori (k : CoreId) (rd : DReg) (imm : Word)
  /-- XORI (R219). -/
  | xori (k : CoreId) (rd : DReg) (imm : Word)
  /-- CMPI (R219). -/
  | cmpi (k : CoreId) (rd : DReg) (imm : Word)
  /-- LDIA (R219). -/
  | ldia (k : CoreId) (an : Acc) (imm : Word)
  /-- MPYRI (R219). -/
  | mpyri (k : CoreId) (s : Bool) (rd : DReg) (imm : Word)
  /-- ROUND_PULSE (R43). -/
  | roundPulse (t : Nat)
  /-- ROUND_START (R44). -/
  | roundStart (t : Nat)
  /-- PHASE_COMPLETE (R44). -/
  | phaseComplete (t : Nat) (ph : Nat)
  /-- JOB_START (R179). -/
  | jobStart (t : Nat) (c j pos : Nat)
  /-- TRAY_INPUT_WRITE (R179). -/
  | trayInputWrite (t : Nat) (c j pos : Nat)
  /-- TRAY_OUTPUT_READ (R179). -/
  | trayOutputRead (t : Nat) (c j pos : Nat)
  /-- DMA_TRANSFER (R180). -/
  | dmaTransfer (t : Nat) (k : CoreId) (ch : Nat) (x : DmaXfer)
  /-- DMA_COMPLETE (R181). -/
  | dmaComplete (t : Nat) (c ch : Nat)
  /-- SOURCE_ADD (R97). -/
  | sourceAdd (t : Nat) (passB : Bool) (p : Nat)
  /-- PASS_COMPLETE (R98). -/
  | passComplete (t : Nat) (passB : Bool)
  /-- RAMP_END (R93). -/
  | rampEnd (t : Nat) (src d : Nat)
  /-- STRIP_RAMP_END (R134). -/
  | stripRampEnd (t : Nat) (bus : Bool) (n e : Nat)
  /-- MORPH_END (R135). -/
  | morphEnd (t : Nat) (bus : Bool) (n : Nat) (st : Stage)
  /-- OUTPUT_PLAY (R57). -/
  | outputPlay (t : Nat) (o : Output) (j : Play)
  /-- REANCHOR (R65). -/
  | reanchor (t : Nat)
  /-- PENDING_ARM (R145). -/
  | pendingArm (t : Nat) (id : Nat)
  /-- COMMIT_POINT (R148). -/
  | commitPoint (t : Nat) (id : Nat)
  /-- CHANGE_APPLY (R144). -/
  | changeApply (t : Nat) (id : Nat)
  /-- ENVELOPE_TIMEOUT (R156). -/
  | envelopeTimeout (t : Nat) (e : Nat)
  /-- ASSEMBLY_TIMEOUT (R264). -/
  | assemblyTimeout (t : Nat) (src : Src)
  /-- SESSION_TIMEOUT (R267). -/
  | sessionTimeout (t : Nat) (n : Nat)
  /-- SUBSCRIPTION_PERIOD (R276). -/
  | subscriptionPeriod (t : Nat) (sub : Nat)
  /-- PUBLICATION (R112). -/
  | publication (t : Nat) (l : Nat)
  /-- BACKUP_SWITCH (R132). -/
  | backupSwitch (t : Nat) (n : Nat)
  /-- IMAGE_TAKE_EFFECT (R237). -/
  | imageTakeEffect (t : Nat) (c : Nat)
  /-- IMAGE_LOAD_DONE (R237). -/
  | imageLoadDone (t : Nat) (c : Nat)
  /-- AUDIT_MIRROR (R192). -/
  | auditMirror (t : Nat) (c : Nat)
  /-- AUDIT_ROUND (R192). -/
  | auditRound (t : Nat) (c : Nat) (dmaBytes : Nat) (differs : Option Nat)
  /-- RELIEF_TAKEOVER (R195). -/
  | reliefTakeover (t : Nat) (c : Nat)
  /-- RELIEF_SELF_TEST (R194). -/
  | reliefSelfTest (t : Nat) (c : Nat) (ok : Bool)
  /-- DOMAIN_POWER_UP (R601). -/
  | domainPowerUp (t : Nat) (i : Nat)
  /-- DOMAIN_POWER_DOWN (R34). -/
  | domainPowerDown (t : Nat) (i : Nat)
  /-- SAP_FRAME_IN (R301). -/
  | sapFrameIn (t : Nat) (p : Nat) (f : SapFrame)
  /-- SAP_FRAME_OUT (R302). -/
  | sapFrameOut (t : Nat) (p : Nat)
  /-- GATE_TIMEOUT (R306). -/
  | gateTimeout (t : Nat) (p : Nat) (out : Bool) (slot : Nat)
  /-- START_IN_EDGE (R308). -/
  | startInEdge (e : Pulse)
  /-- START_TRIGGER_FIRE (R308). -/
  | startTriggerFire (t : Nat)
  /-- ASRC_GROUP_LOCK (R316). -/
  | asrcGroupLock (t : Nat) (g : Nat) (rate : Nat)
  /-- FRAME_RECEIVE (R333). -/
  | frameReceive (t : Nat) (p : Nat) (f : Frame)
  /-- STREAM_PACKET_RECEIVE (R349). -/
  | streamPacketReceive (t : Nat) (leg i : Nat) (k : Packet)
  /-- ARP_ND_ICMP (R341). -/
  | arpNdIcmp (t : Nat) (p : Nat) (q : Neighbour)
  /-- FRAME_TRANSMIT (R334). -/
  | frameTransmit (t : Nat) (p : Nat) (underrun : Bool)
  /-- STREAM_PACKET_SEND (R354). -/
  | streamPacketSend (t : Nat) (i n : Nat)
  /-- ADDRESS_AGING (R329). -/
  | addressAging (t : Nat) (mac : Nat)
  /-- PORT_M_SLOW_DOWN (R336). -/
  | portMSlowDown (t : Nat)
  /-- PORT_M_RESTORE (R336). -/
  | portMRestore (t : Nat)
  /-- PHY_LINK_CHANGE (R327). -/
  | phyLinkChange (t phy : Nat) (link : Option Nat)
  /-- SYNC (R405). -/
  | sync (t : Nat) (p : Nat) (h : PtpHead) (origin : Nat) (twoStep : Bool)
  /-- FOLLOW_UP (R402). -/
  | followUp (t : Nat) (p : Nat) (h : PtpHead) (origin : Nat)
  /-- ANNOUNCE (R405). -/
  | announce (t : Nat) (p : Nat) (m : PtpAnnounce)
  /-- DELAY_REQ (R402). -/
  | delayReq (t : Nat) (p : Nat) (h : PtpHead)
  /-- DELAY_RESP (R402). -/
  | delayResp (t : Nat) (p : Nat) (m : PtpDelay)
  /-- PDELAY_REQ (R402). -/
  | pdelayReq (t : Nat) (p : Nat) (h : PtpHead)
  /-- PDELAY_RESP (R402). -/
  | pdelayResp (t : Nat) (p : Nat) (m : PtpPdelay)
  /-- PTP_MESSAGE_SEND (R402). -/
  | ptpMessageSend (t : Nat) (p : Nat) (m : PtpSend)
  /-- ANNOUNCE_TIMEOUT (R405). -/
  | announceTimeout (t : Nat) (p : Nat)
  /-- SYNC_TIMEOUT (R405). -/
  | syncTimeout (t : Nat) (p : Nat)
  /-- REF_EDGE (R407). -/
  | refEdge (t : Nat) (e : RefTick)
  /-- REF_MISSING_PERIOD (R408). -/
  | refMissingPeriod (t : Nat) (code : Nat)
  /-- REF_MEASURE_WINDOW (R408). -/
  | refMeasureWindow (t : Nat) (code : Nat) (err : Int)
  /-- CLASS_Q_QUALIFY (R409). -/
  | classQQualify (t : Nat) (code : Nat)
  /-- REF_REVERT (R410). -/
  | refRevert (t : Nat) (i : Nat)
  /-- DPLL_LOCK (R412). -/
  | dpllLock (t : Nat)
  /-- PULSE_OUTPUT_EDGE (R414). -/
  | pulseOutputEdge (t : Nat) (o : Nat) (high : Bool)
  /-- CLOCK_FAILURE (R418). -/
  | clockFailure (t : Nat) (k : ClockSource)
  /-- CLOCK_RETURN (R421). -/
  | clockReturn (t : Nat) (k : ClockSource)
  /-- REFERENCE_WAIT_EXPIRY (R421). -/
  | referenceWaitExpiry (t : Nat)
  /-- XO_JUDGEMENT (R416). -/
  | xoJudgement (t : Nat) (good : Bool)
  /-- AUDREF_JUDGEMENT (R416). -/
  | audrefJudgement (t : Nat) (good : Bool)
  /-- PLL_LOCK (R417). -/
  | pllLock (t : Nat) (k : ClockSource)
  /-- DVFS_RAISE (R425). -/
  | dvfsRaise (t : Nat) (ack : Bool)
  /-- DVFS_LOWER (R425). -/
  | dvfsLower (t : Nat) (ack : Bool)
  /-- DVFS_SETTLE (R426). -/
  | dvfsSettle (t : Nat)
  /-- BLOCK_LOCK (R364). -/
  | blockLock (t : Nat) (l : Nat) (locked : Bool)
  /-- TIME_SECTION (R371). -/
  | timeSection (t : Nat) (l : Nat) (x : TimeSection)
  /-- TIME_SECTION_TIMEOUT (R374). -/
  | timeSectionTimeout (t : Nat) (l : Nat)
  /-- COURIER_SECTION (R479). -/
  | courierSection (t : Nat) (x : CourierSection)
  /-- SUMS_SECTION (R382). -/
  | sumsSection (t : Nat) (l r : Nat) (bad : List Nat) (sums : List (Nat × List Int))
  /-- CHANNELS_SECTION (R378). -/
  | channelsSection (t : Nat) (l r first : Nat) (bad : List Nat) (chans : List (List Int))
  /-- TUNNEL_SECTION (R389). -/
  | tunnelSection (t : Nat) (l : Nat) (bad : List Nat) (msgs : List (List Byte))
  /-- COURIER_BULK_SECTION (R479). -/
  | courierBulkSection (t : Nat) (bad : List Nat) (data : List Byte)
  /-- SECTION_SEND (R369). -/
  | sectionSend (t : Nat) (l : Nat)
  /-- SUM_WAIT_EXPIRY (R383). -/
  | sumWaitExpiry (t : Nat) (b : Nat)
  /-- HEARTBEAT (R479). -/
  | heartbeat (t : Nat) (round played role health ref claim : Nat)
  /-- DIGEST (R482). -/
  | digest (t : Nat) (round crc : Nat)
  /-- ASRC_POSITIONS (R318): of each group its number, its input position and its state. -/
  | asrcPositions (t : Nat) (round : Nat) (groups : List (Nat × Nat × Nat))
  /-- CHANGE (R479). -/
  | change (t : Nat) (id eff fid : Nat) (writes : List (Nat × Val))
  /-- FORWARDED_REQUEST (R477). -/
  | forwardedRequest (t : Nat) (fid role : Nat) (r : Rec)
  /-- FORWARDED_RESPONSE (R477). -/
  | forwardedResponse (t : Nat) (fid : Nat) (r : Rec)
  /-- IDENTITY (R476). -/
  | identity (t : Nat) (feature fw fmt fs b engine tg : Nat)
  /-- HB_PULSE (R484). -/
  | hbPulse (e : Pulse)
  /-- PATH_SILENT (R484). -/
  | pathSilent (t : Nat) (path : Nat)
  /-- COURIER_WAIT_EXPIRY (R480). -/
  | courierWaitExpiry (t : Nat) (round : Nat)
  /-- CLAIM_WINDOW (R488). -/
  | claimWindow (t : Nat) (line : ClaimLine)
  /-- HANDOVER (R492). -/
  | handover (t : Nat)
  /-- DRIVER_ENABLE (R492). -/
  | driverEnable (t : Nat)
  /-- WATCHDOG_LAPSE (R483). -/
  | watchdogLapse (t : Nat)
  /-- ALONE_WAIT_EXPIRY (R475). -/
  | aloneWaitExpiry (t : Nat)
  /-- RESYNC_SETTINGS_RECEIVED (R498). -/
  | resyncSettingsReceived (t : Nat) (settings : List (Nat × Val))
  /-- SNAPSHOT (R498). -/
  | snapshot (t : Nat)
  /-- SNAPSHOT_RECEIVED (R498). -/
  | snapshotReceived (t : Nat) (x : Machine.Snapshot)
  /-- REPLAY_DONE (R498). -/
  | replayDone (t : Nat)
  /-- RESYNC_VERIFY_DONE (R498). -/
  | resyncVerifyDone (t : Nat)
  /-- DRAM_REQUEST (R446). -/
  | dramRequest (t : Nat) (q : DramReq)
  /-- PROMOTION (R446). -/
  | promotion (t : Nat) (ch : Nat) (seq : Nat)
  /-- REFRESH (R449). -/
  | refresh (t : Nat) (ch bank : Nat)
  /-- RETRAIN (R450). -/
  | retrain (t : Nat) (ch : Nat)
  /-- ROW_REDIRECT (R455). -/
  | rowRedirect (t : Nat) (ch row : Nat)
  /-- POST_PACKAGE_REPAIR (R455). -/
  | postPackageRepair (t : Nat) (ch row : Nat) (resource : Bool)
  /-- PATROL_SCRUB (R456). -/
  | patrolScrub (t : Nat) (ch addr ecc : Nat)
  /-- BIST_REGION (R459). -/
  | bistRegion (t : Nat) (island mem region : Nat) (fault : Nat)
  /-- CROSSBAR_ACCESS (R464). -/
  | crossbarAccess (t : Nat) (b : Burst)
  /-- REMAP_SWAP (R466). -/
  | remapSwap (t : Nat)
  /-- OVER_CURRENT (R518). -/
  | overCurrent (t : Nat) (n : Nat)
  /-- BOOTSTRAP_CHARGE (R516). -/
  | bootstrapCharge (t : Nat) (n : Nat)
  /-- SOFT_START_END (R516). -/
  | softStartEnd (t : Nat) (n : Nat)
  /-- LEAD_TEST_DONE (R517). -/
  | leadTestDone (t : Nat) (n mohm : Nat) (up : Bool)
  /-- PSC_RETRY (R520). -/
  | pscRetry (t : Nat) (n : Nat)
  /-- RETRY_EPISODE_END (R520). -/
  | retryEpisodeEnd (t : Nat) (n : Nat)
  /-- PENALTY_EXPIRY (R487). -/
  | penaltyExpiry (t : Nat) (bit : Nat)
  /-- POWER_ON (R536). -/
  | powerOn (t : Nat)
  /-- RESET_PIN (R536). -/
  | resetPin (e : Pulse)
  /-- DEBUG_RESET (R536). -/
  | debugReset (t : Nat)
  /-- CONTROL_WATCHDOG (R536). -/
  | controlWatchdog (t : Nat)
  /-- FAULT_AUTO_RESET (R539). -/
  | faultAutoReset (t : Nat)
  /-- WAKE (R540). -/
  | wake (e : Pulse)
  /-- BOOT_COMPLETE (R541). -/
  | bootComplete (e : BootEnd)
  /-- OVER_TEMPERATURE (R537). -/
  | overTemperature (t : Nat) (temp : Int)
  /-- SUPPLY_FAULT (R537). -/
  | supplyFault (t : Nat) (v : Supply)
  /-- SETTINGS_AUTOSAVE (R544). -/
  | settingsAutosave (t : Nat)
  /-- SLOT_PROGRAMMED (R552). -/
  | slotProgrammed (t : Nat)
  /-- UPDATE_VERIFY_DONE (R552). -/
  | updateVerifyDone (e : SlotCheck)
  /-- ACTIVATION_RAMP_DOWN_END (R554). -/
  | activationRampDownEnd (t : Nat)
  /-- ACTIVATION_RESTART (R553). -/
  | activationRestart (e : SlotCheck)
  /-- ACTIVATION_RESUME (R554). -/
  | activationResume (t : Nat)
  /-- IDCODE (R560). -/
  | idcode (t : Nat)
  /-- JTAG_CHALLENGE (R560). -/
  | jtagChallenge (t : Nat)
  /-- JTAG_TOKEN (R560). -/
  | jtagToken (t : Nat) (sig : List Byte) (scope : Byte)
  /-- POWER_FAIL (R556). -/
  | powerFail (t : Nat)
  /-- SAP_MISSING_FRAME (R299). -/
  | sapMissingFrame (t : Nat) (p : Nat)
  /-- NET_PORT_LINK_CHANGE (R358). -/
  | netPortLinkChange (t : Nat) (p : Nat) (up : Bool)
  /-- SGMII_CLOCK_FAILURE (R418). -/
  | sgmiiClockFailure (t : Nat)
  /-- SENSE_CLOCK_RETURN (R516). -/
  | senseClockReturn (t : Nat) (n : Nat)
deriving DecidableEq, Repr

end Sys2Proof
end

