-- ==== Sys2Proof/Decode.lean ====
section
/-! DEFINITION. The words of the DSP cores (R203 to R212): decoding, total on every 64-bit word, and encoding, both
from the manual's tables. The command table gives its rows no bits, so `decodeTableWord` reads none. -/

namespace Sys2Proof

/-- `n` bits of a word from bit `lo` on (R6). -/
def fld (w lo n : Nat) : Nat := w / 2 ^ lo % 2 ^ n

/-- A number below `k`. -/
def fin? (k n : Nat) : Option (Fin k) := if h : n < k then some ⟨n, h⟩ else none

/-! ### Operand encodings -/

/-- Modify codes (R211). -/
def modOf : Nat → Mod
  | 0 => .keep
  | 1 => .inc
  | 2 => .dec
  | _ => .byN
def modCode : Mod → Nat
  | .keep => 0 | .inc => 1 | .dec => 2 | .byN => 3

/-- Condition codes (R212); 0xF is reserved. -/
def condOf : Nat → Option Cond
  | 0 => some .al | 1 => some .eq | 2 => some .ne | 3 => some .mi | 4 => some .pl | 5 => some .cs | 6 => some .cc
  | 7 => some .vs | 8 => some .nv | 9 => some .gt | 10 => some .ge | 11 => some .lt | 12 => some .le | 13 => some .ss
  | 14 => some .gs | _ => none
def condCode : Cond → Nat
  | .al => 0 | .eq => 1 | .ne => 2 | .mi => 3 | .pl => 4 | .cs => 5 | .cc => 6 | .vs => 7 | .nv => 8 | .gt => 9
  | .ge => 10 | .lt => 11 | .le => 12 | .ss => 13 | .gs => 14

/-- Register numbers (R210). -/
def regOf (n : Nat) : Option Reg :=
  if n < 0x10 then some (.d (Fin.ofNat 16 n))
  else if n < 0x18 then some (.p (Fin.ofNat 8 (n - 0x10)))
  else if n < 0x20 then some (.n (Fin.ofNat 8 (n - 0x18)))
  else if n < 0x28 then some (.l (Fin.ofNat 8 (n - 0x20)))
  else if n < 0x30 then some (.b (Fin.ofNat 8 (n - 0x28)))
  else if n < 0x34 then some (.lc (Fin.ofNat 4 (n - 0x30)))
  else if n = 0x34 then some .sr
  else if n = 0x35 then some .cyc
  else if n = 0x36 then some .job
  else none
def regCode : Reg → Nat
  | .d i => i.val | .p i => 0x10 + i.val | .n i => 0x18 + i.val | .l i => 0x20 + i.val | .b i => 0x28 + i.val
  | .lc i => 0x30 + i.val | .sr => 0x34 | .cyc => 0x35 | .job => 0x36

/-- A register that an instruction may write: not `CYC`, not `JOB` (R204). -/
def regWritable : Reg → Bool
  | .cyc => false
  | .job => false
  | _ => true

/-- A destination register number. -/
def destOf (n : Nat) : Option Reg := (regOf n).filter regWritable

/-! ### F1 (R205 to R207, R213) -/

/-- A MAC slot from its fields; a field that the operation does not use is 0 (log entry 10). -/
def decodeSlot (v : Nat) : Option SlotOp :=
  let s := decide (fld v 14 1 = 1)
  let an : Fin 4 := Fin.ofNat 4 (fld v 12 2)
  let da : Fin 16 := Fin.ofNat 16 (fld v 8 4)
  let db : Fin 16 := Fin.ofNat 16 (fld v 4 4)
  let am : Fin 4 := Fin.ofNat 4 (fld v 0 2)
  match fld v 15 4 with
  | 0 => if fld v 0 15 = 0 then some .nop else none
  | 1 => if fld v 0 4 = 0 then some (.mac s an da db) else none
  | 2 => if fld v 0 4 = 0 then some (.msu s an da db) else none
  | 3 => if fld v 0 4 = 0 then some (.mpy s an da db) else none
  | 4 => if fld v 0 4 = 0 then some (.mpyn s an da db) else none
  | 5 => if fld v 0 4 = 0 then some (.macr s an da db) else none
  | 6 => if fld v 0 12 = 0 then some (.ftap s an) else none
  | 7 => if fld v 2 10 = 0 then some (.adda s an am) else none
  | 8 => if fld v 2 10 = 0 then some (.suba s an am) else none
  | 9 => if fld v 0 12 = 0 ∧ fld v 14 1 = 0 then some (.clr an) else none
  | 10 => if fld v 2 10 = 0 ∧ fld v 14 1 = 0 then some (.mova an am) else none
  | _ => none

/-- The 19 bits of a slot. -/
def slotBits (op s an da db ext : Nat) : Nat := op * 2 ^ 15 + s * 2 ^ 14 + an * 2 ^ 12 + da * 2 ^ 8 + db * 2 ^ 4 + ext

def encodeSlot : SlotOp → Nat
  | .nop => 0
  | .mac s an da db => slotBits 1 s.toNat an.val da.val db.val 0
  | .msu s an da db => slotBits 2 s.toNat an.val da.val db.val 0
  | .mpy s an da db => slotBits 3 s.toNat an.val da.val db.val 0
  | .mpyn s an da db => slotBits 4 s.toNat an.val da.val db.val 0
  | .macr s an da db => slotBits 5 s.toNat an.val da.val db.val 0
  | .ftap s an => slotBits 6 s.toNat an.val 0 0 0
  | .adda s an am => slotBits 7 s.toNat an.val 0 0 am.val
  | .suba s an am => slotBits 8 s.toNat an.val 0 0 am.val
  | .clr an => slotBits 9 0 an.val 0 0 0
  | .mova an am => slotBits 10 0 an.val 0 0 am.val

/-- Whether a slot holds FTAP. -/
def isFtap : SlotOp → Bool
  | .ftap _ _ => true
  | _ => false

/-- The X move of the normal form. -/
def decodeX (v : Nat) : Option XMove :=
  let px : Fin 8 := Fin.ofNat 8 (fld v 6 3)
  let m := modOf (fld v 4 2)
  let dn : Fin 16 := Fin.ofNat 16 (fld v 0 4)
  match fld v 9 3 with
  | 0 => if fld v 0 9 = 0 then some .none else none
  | 1 => some (.load dn px m)
  | 2 => some (.store dn px m)
  | _ => none
def encodeX : XMove → Nat
  | .none => 0
  | .load dn px m => 1 * 2 ^ 9 + px.val * 2 ^ 6 + modCode m * 2 ^ 4 + dn.val
  | .store dn px m => 2 * 2 ^ 9 + px.val * 2 ^ 6 + modCode m * 2 ^ 4 + dn.val

/-- The Y move of the normal form. -/
def decodeY (v : Nat) : Option YMove :=
  let py : Fin 8 := Fin.ofNat 8 (fld v 7 3)
  let m := modOf (fld v 5 2)
  let dn : Fin 16 := Fin.ofNat 16 (fld v 1 4)
  match fld v 10 2 with
  | 0 => if fld v 0 10 = 0 then some .none else none
  | 1 => if fld v 0 1 = 0 then some (.load dn py m) else none
  | _ => none
def encodeY : YMove → Nat
  | .none => 0
  | .load dn py m => 1 * 2 ^ 10 + py.val * 2 ^ 7 + modCode m * 2 ^ 5 + dn.val * 2

/-- The FTAP form of both move fields. A slot without FTAP has pointer fields 0 (R207). -/
def decodeTaps (x y : Nat) (t0 t1 : Bool) : Option Moves :=
  let pa : Fin 8 := Fin.ofNat 8 (fld x 6 3)
  let pb : Fin 8 := Fin.ofNat 8 (fld x 3 3)
  let pc : Fin 8 := Fin.ofNat 8 (fld y 7 3)
  let pd : Fin 8 := Fin.ofNat 8 (fld y 4 3)
  if fld x 9 3 = 7 ∧ fld x 0 1 = 0 ∧ fld y 10 2 = 3 ∧ fld y 0 2 = 0 ∧
      (t0 = true ∨ (pa = 0 ∧ pc = 0)) ∧ (t1 = true ∨ (pb = 0 ∧ pd = 0)) then
    some (.ftap pa pb (modOf (fld x 1 2)) pc pd (modOf (fld y 2 2)))
  else none

def encodeMoves : Moves → Nat
  | .normal x y => encodeX x * 2 ^ 12 + encodeY y
  | .ftap pa pb mx pc pd my =>
    (7 * 2 ^ 9 + pa.val * 2 ^ 6 + pb.val * 2 ^ 3 + modCode mx * 2) * 2 ^ 12 +
      (3 * 2 ^ 10 + pc.val * 2 ^ 7 + pd.val * 2 ^ 4 + modCode my * 2 ^ 2)

/-- An F1 word. -/
def decodeF1 (w : Nat) : Option DspInsn := do
  let s0 ← decodeSlot (fld w 43 19)
  let s1 ← decodeSlot (fld w 24 19)
  if isFtap s0 || isFtap s1 then
    let mv ← decodeTaps (fld w 12 12) (fld w 0 12) (isFtap s0) (isFtap s1)
    return .f1 ⟨s0, s1, mv⟩
  else
    let x ← decodeX (fld w 12 12)
    let y ← decodeY (fld w 0 12)
    return .f1 ⟨s0, s1, .normal x y⟩

/-! ### F2 and F3 (R208, R209, R218, R219) -/

/-- An F2a word from its fields; a field that the operation does not use is reserved (R208). -/
def decodeF2a (op rd ra rb s acc sh : Nat) : Option DspInsn :=
  match op with
  | 0x00 => if rd = 0 ∧ ra = 0 ∧ rb = 0 ∧ s = 0 ∧ acc = 0 ∧ sh = 0 then some .nop else none
  | 0x01 => if rd = 0 ∧ ra = 0 ∧ rb = 0 ∧ s = 0 ∧ acc = 0 ∧ sh = 0 then some .endJob else none
  | 0x02 => if rb = 0 ∧ s = 0 ∧ acc = 0 ∧ sh = 0 then (do let d ← destOf rd; let a ← regOf ra; return .mov d a) else none
  | 0x10 => if acc = 0 ∧ sh = 0 then (do let rd' ← fin? 16 rd; let ra' ← fin? 16 ra; let rb' ← fin? 16 rb; return .add (decide (s = 1)) rd' ra' rb') else none
  | 0x11 => if acc = 0 ∧ sh = 0 then (do let rd' ← fin? 16 rd; let ra' ← fin? 16 ra; let rb' ← fin? 16 rb; return .sub (decide (s = 1)) rd' ra' rb') else none
  | 0x12 => if rb = 0 ∧ acc = 0 ∧ sh = 0 then (do let rd' ← fin? 16 rd; let ra' ← fin? 16 ra; return .neg (decide (s = 1)) rd' ra') else none
  | 0x13 => if rb = 0 ∧ acc = 0 ∧ sh = 0 then (do let rd' ← fin? 16 rd; let ra' ← fin? 16 ra; return .abs (decide (s = 1)) rd' ra') else none
  | 0x14 => if s = 0 ∧ acc = 0 ∧ sh = 0 then (do let rd' ← fin? 16 rd; let ra' ← fin? 16 ra; let rb' ← fin? 16 rb; return .min rd' ra' rb') else none
  | 0x15 => if s = 0 ∧ acc = 0 ∧ sh = 0 then (do let rd' ← fin? 16 rd; let ra' ← fin? 16 ra; let rb' ← fin? 16 rb; return .max rd' ra' rb') else none
  | 0x16 => if s = 0 ∧ acc = 0 ∧ sh = 0 then (do let rd' ← fin? 16 rd; let ra' ← fin? 16 ra; let rb' ← fin? 16 rb; return .and rd' ra' rb') else none
  | 0x17 => if s = 0 ∧ acc = 0 ∧ sh = 0 then (do let rd' ← fin? 16 rd; let ra' ← fin? 16 ra; let rb' ← fin? 16 rb; return .or rd' ra' rb') else none
  | 0x18 => if s = 0 ∧ acc = 0 ∧ sh = 0 then (do let rd' ← fin? 16 rd; let ra' ← fin? 16 ra; let rb' ← fin? 16 rb; return .xor rd' ra' rb') else none
  | 0x19 => if rb = 0 ∧ s = 0 ∧ acc = 0 ∧ sh = 0 then (do let rd' ← fin? 16 rd; let ra' ← fin? 16 ra; return .not rd' ra') else none
  | 0x1A => if rd = 0 ∧ s = 0 ∧ acc = 0 ∧ sh = 0 then (do let ra' ← fin? 16 ra; let rb' ← fin? 16 rb; return .cmp ra' rb') else none
  | 0x20 => if rb = 0 ∧ acc = 0 then (do let rd' ← fin? 16 rd; let ra' ← fin? 16 ra; let sh' ← fin? 32 sh; return .asl (decide (s = 1)) rd' ra' sh') else none
  | 0x21 => if rb = 0 ∧ s = 0 ∧ acc = 0 then (do let rd' ← fin? 16 rd; let ra' ← fin? 16 ra; let sh' ← fin? 32 sh; return .asr rd' ra' sh') else none
  | 0x22 => if rb = 0 ∧ s = 0 ∧ acc = 0 then (do let rd' ← fin? 16 rd; let ra' ← fin? 16 ra; let sh' ← fin? 32 sh; return .asrr rd' ra' sh') else none
  | 0x23 => if rb = 0 ∧ s = 0 ∧ acc = 0 then (do let rd' ← fin? 16 rd; let ra' ← fin? 16 ra; let sh' ← fin? 32 sh; return .lsl rd' ra' sh') else none
  | 0x24 => if rb = 0 ∧ s = 0 ∧ acc = 0 then (do let rd' ← fin? 16 rd; let ra' ← fin? 16 ra; let sh' ← fin? 32 sh; return .lsr rd' ra' sh') else none
  | 0x25 => if acc = 0 ∧ sh = 0 then (do let rd' ← fin? 16 rd; let ra' ← fin? 16 ra; let rb' ← fin? 16 rb; return .ash (decide (s = 1)) rd' ra' rb') else none
  | 0x30 => if ra = 0 ∧ rb = 0 then (do let rd' ← fin? 16 rd; let acc' ← fin? 4 acc; return .ext (decide (s = 1)) rd' acc' (BitVec.ofNat 6 sh)) else none
  | 0x31 => if ra = 0 ∧ rb = 0 ∧ s = 0 ∧ sh = 0 then (do let rd' ← fin? 16 rd; let acc' ← fin? 4 acc; return .norm rd' acc') else none
  | 0x32 => if rd = 0 ∧ rb = 0 ∧ s = 0 ∧ sh = 0 then (do let acc' ← fin? 4 acc; let ra' ← fin? 16 ra; return .lda acc' ra') else none
  | 0x33 => if rd = 0 ∧ rb = 0 ∧ s = 0 ∧ sh = 0 then (do let acc' ← fin? 4 acc; let ra' ← fin? 16 ra; return .ldag acc' ra') else none
  | 0x34 => if rd = 0 ∧ rb = 0 ∧ s = 0 ∧ sh = 0 then (do let acc' ← fin? 4 acc; let ra' ← fin? 16 ra; return .ldah acc' ra') else none
  | 0x35 => if rd = 0 ∧ rb = 0 ∧ s = 0 ∧ sh = 0 then (do let acc' ← fin? 4 acc; let ra' ← fin? 16 ra; return .ldal acc' ra') else none
  | 0x36 => if ra = 0 ∧ rb = 0 ∧ s = 0 ∧ sh = 0 then (do let rd' ← fin? 16 rd; let acc' ← fin? 4 acc; return .stag rd' acc') else none
  | 0x37 => if ra = 0 ∧ rb = 0 ∧ s = 0 ∧ sh = 0 then (do let rd' ← fin? 16 rd; let acc' ← fin? 4 acc; return .stah rd' acc') else none
  | 0x38 => if ra = 0 ∧ rb = 0 ∧ s = 0 ∧ sh = 0 then (do let rd' ← fin? 16 rd; let acc' ← fin? 4 acc; return .stal rd' acc') else none
  | 0x39 => if rd = 0 ∧ ra = 0 ∧ rb = 0 then (do let acc' ← fin? 4 acc; return .sha (decide (s = 1)) acc' (BitVec.ofNat 6 sh)) else none
  | 0x3A => if rd = 0 ∧ ra = 0 ∧ rb = 0 ∧ s = 0 ∧ sh = 0 then (do let acc' ← fin? 4 acc; return .clra acc') else none
  | 0x40 => if s = 0 ∧ acc = 0 ∧ sh = 0 then (do let rd' ← fin? 16 rd; let ra' ← fin? 16 ra; let rb' ← fin? 16 rb; return .divs rd' ra' rb') else none
  | 0x41 => if acc = 0 ∧ sh = 0 then (do let rd' ← fin? 16 rd; let ra' ← fin? 16 ra; let rb' ← fin? 16 rb; return .mpyr (decide (s = 1)) rd' ra' rb') else none
  | 0x42 => if rb = 0 ∧ s = 0 ∧ acc = 0 ∧ sh = 0 then (do let rd' ← fin? 16 rd; let ra' ← fin? 16 ra; return .lg2 rd' ra') else none
  | 0x43 => if rb = 0 ∧ acc = 0 ∧ sh = 0 then (do let rd' ← fin? 16 rd; let ra' ← fin? 16 ra; return .ex2 (decide (s = 1)) rd' ra') else none
  | 0x44 => if rd = 0 ∧ s = 0 ∧ acc = 0 ∧ sh < 4 then
      (do let p ← fin? 8 (ra - 0x10); let b ← fin? 16 rb; if 0x10 ≤ ra then return .sty p b (modOf sh) else none) else none
  | _ => none

/-- An F2b word from its fields. -/
def decodeF2b (op cc dn imm tgt : Nat) : Option DspInsn :=
  match op with
  | 0x60 => if dn = 0 ∧ imm = 0 then (do let c ← condOf cc; return .jmp c (BitVec.ofNat 13 tgt)) else none
  | 0x61 => if dn = 0 ∧ imm = 0 then (do let c ← condOf cc; return .call c (BitVec.ofNat 13 tgt)) else none
  | 0x62 => if dn = 0 ∧ imm = 0 ∧ tgt = 0 then (do let c ← condOf cc; return .ret c) else none
  | 0x63 => if cc = 0 ∧ dn = 0 then some (.loop (BitVec.ofNat 16 imm) (BitVec.ofNat 13 tgt)) else none
  | 0x64 => if cc = 0 ∧ imm = 0 then (do let d ← fin? 16 dn; return .loopv d (BitVec.ofNat 13 tgt)) else none
  | 0x65 => if dn = 0 ∧ imm = 0 ∧ tgt = 0 then (do let c ← condOf cc; return .leave c) else none
  | _ => none

/-- An F3 word from its fields. -/
def decodeF3 (op rd s imm : Nat) : Option DspInsn :=
  let i : Word := BitVec.ofNat 32 imm
  let sat := decide (s = 1)
  match op with
  | 0x01 => if s = 0 then (do let d ← destOf rd; return .ldi d i) else none
  | 0x02 => (do let d ← destOf rd; if s = 0 ∨ rd < 16 then return .addi sat d i else none)
  | 0x03 => if s = 0 then (do let d ← fin? 16 rd; return .andi d i) else none
  | 0x04 => if s = 0 then (do let d ← fin? 16 rd; return .ori d i) else none
  | 0x05 => if s = 0 then (do let d ← fin? 16 rd; return .xori d i) else none
  | 0x06 => if s = 0 then (do let d ← fin? 16 rd; return .cmpi d i) else none
  | 0x07 => if s = 0 then (do let a ← fin? 4 rd; return .ldia a i) else none
  | 0x08 => (do let d ← fin? 16 rd; return .mpyri sat d i)
  | _ => none

/-- The instruction that a word of program memory holds; none for a reserved encoding (R203, R204). -/
def decodeDsp (word : DspWord) : Option DspInsn :=
  let w := word.toNat
  match fld w 62 2 with
  | 0 => decodeF1 w
  | 1 =>
    if fld w 58 4 = 6 then
      if fld w 0 17 = 0 then decodeF2b (fld w 54 8) (fld w 50 4) (fld w 46 4) (fld w 30 16) (fld w 17 13) else none
    else if fld w 0 27 = 0 then
      decodeF2a (fld w 54 8) (fld w 48 6) (fld w 42 6) (fld w 36 6) (fld w 35 1) (fld w 33 2) (fld w 27 6)
    else none
  | 2 => if fld w 32 17 = 0 then decodeF3 (fld w 56 6) (fld w 50 6) (fld w 49 1) (fld w 0 32) else none
  | _ => none

def encF2a (op rd ra rb s acc sh : Nat) : Nat :=
  1 * 2 ^ 62 + op * 2 ^ 54 + rd * 2 ^ 48 + ra * 2 ^ 42 + rb * 2 ^ 36 + s * 2 ^ 35 + acc * 2 ^ 33 + sh * 2 ^ 27
def encF2b (op cc dn imm tgt : Nat) : Nat :=
  1 * 2 ^ 62 + op * 2 ^ 54 + cc * 2 ^ 50 + dn * 2 ^ 46 + imm * 2 ^ 30 + tgt * 2 ^ 17
def encF3 (op rd s imm : Nat) : Nat := 2 * 2 ^ 62 + op * 2 ^ 56 + rd * 2 ^ 50 + s * 2 ^ 49 + imm

/-- The word of an instruction, as a number. -/
def encodeNat : DspInsn → Nat
  | .f1 b => encodeSlot b.s0 * 2 ^ 43 + encodeSlot b.s1 * 2 ^ 24 + encodeMoves b.mv
  | .nop => encF2a 0x00 0 0 0 0 0 0
  | .endJob => encF2a 0x01 0 0 0 0 0 0
  | .mov rd ra => encF2a 0x02 (regCode rd) (regCode ra) 0 0 0 0
  | .add s rd ra rb => encF2a 0x10 rd.val ra.val rb.val s.toNat 0 0
  | .sub s rd ra rb => encF2a 0x11 rd.val ra.val rb.val s.toNat 0 0
  | .neg s rd ra => encF2a 0x12 rd.val ra.val 0 s.toNat 0 0
  | .abs s rd ra => encF2a 0x13 rd.val ra.val 0 s.toNat 0 0
  | .min rd ra rb => encF2a 0x14 rd.val ra.val rb.val 0 0 0
  | .max rd ra rb => encF2a 0x15 rd.val ra.val rb.val 0 0 0
  | .and rd ra rb => encF2a 0x16 rd.val ra.val rb.val 0 0 0
  | .or rd ra rb => encF2a 0x17 rd.val ra.val rb.val 0 0 0
  | .xor rd ra rb => encF2a 0x18 rd.val ra.val rb.val 0 0 0
  | .not rd ra => encF2a 0x19 rd.val ra.val 0 0 0 0
  | .cmp ra rb => encF2a 0x1A 0 ra.val rb.val 0 0 0
  | .asl s rd ra sh => encF2a 0x20 rd.val ra.val 0 s.toNat 0 sh.val
  | .asr rd ra sh => encF2a 0x21 rd.val ra.val 0 0 0 sh.val
  | .asrr rd ra sh => encF2a 0x22 rd.val ra.val 0 0 0 sh.val
  | .lsl rd ra sh => encF2a 0x23 rd.val ra.val 0 0 0 sh.val
  | .lsr rd ra sh => encF2a 0x24 rd.val ra.val 0 0 0 sh.val
  | .ash s rd ra rb => encF2a 0x25 rd.val ra.val rb.val s.toNat 0 0
  | .ext s rd an sh => encF2a 0x30 rd.val 0 0 s.toNat an.val sh.toNat
  | .norm rd an => encF2a 0x31 rd.val 0 0 0 an.val 0
  | .lda an ra => encF2a 0x32 0 ra.val 0 0 an.val 0
  | .ldag an ra => encF2a 0x33 0 ra.val 0 0 an.val 0
  | .ldah an ra => encF2a 0x34 0 ra.val 0 0 an.val 0
  | .ldal an ra => encF2a 0x35 0 ra.val 0 0 an.val 0
  | .stag rd an => encF2a 0x36 rd.val 0 0 0 an.val 0
  | .stah rd an => encF2a 0x37 rd.val 0 0 0 an.val 0
  | .stal rd an => encF2a 0x38 rd.val 0 0 0 an.val 0
  | .sha s an sh => encF2a 0x39 0 0 0 s.toNat an.val sh.toNat
  | .clra an => encF2a 0x3A 0 0 0 0 an.val 0
  | .divs rd ra rb => encF2a 0x40 rd.val ra.val rb.val 0 0 0
  | .mpyr s rd ra rb => encF2a 0x41 rd.val ra.val rb.val s.toNat 0 0
  | .lg2 rd ra => encF2a 0x42 rd.val ra.val 0 0 0 0
  | .ex2 s rd ra => encF2a 0x43 rd.val ra.val 0 s.toNat 0 0
  | .sty pn rb m => encF2a 0x44 0 (0x10 + pn.val) rb.val 0 0 (modCode m)
  | .jmp c t => encF2b 0x60 (condCode c) 0 0 t.toNat
  | .call c t => encF2b 0x61 (condCode c) 0 0 t.toNat
  | .ret c => encF2b 0x62 (condCode c) 0 0 0
  | .loop n t => encF2b 0x63 0 0 n.toNat t.toNat
  | .loopv dn t => encF2b 0x64 0 dn.val 0 t.toNat
  | .leave c => encF2b 0x65 (condCode c) 0 0 0
  | .ldi rd i => encF3 0x01 (regCode rd) 0 i.toNat
  | .addi s rd i => encF3 0x02 (regCode rd) s.toNat i.toNat
  | .andi rd i => encF3 0x03 rd.val 0 i.toNat
  | .ori rd i => encF3 0x04 rd.val 0 i.toNat
  | .xori rd i => encF3 0x05 rd.val 0 i.toNat
  | .cmpi rd i => encF3 0x06 rd.val 0 i.toNat
  | .ldia an i => encF3 0x07 an.val 0 i.toNat
  | .mpyri s rd i => encF3 0x08 rd.val s.toNat i.toNat

/-- The word of an instruction (R203 to R209). -/
def encodeDsp (i : DspInsn) : DspWord := BitVec.ofNat 64 (encodeNat i)

/-- The bundle of a command that names one slot and what stands beside it. -/
def bundleOf (slot : Fin 2) (o : SlotOp) (r : Beside) : Bundle :=
  if slot = 0 then ⟨o, r.other, r.mv⟩ else ⟨r.other, o, r.mv⟩

/-- The command that a word of the command table spells: the table gives its rows no bits, so no word spells one. -/
def decodeTableWord (_nbits _w : Nat) : Option Instr := none

end Sys2Proof
end

