-- ==== Sys2Proof/Config.lean ====
section
/-! DEFINITION. What an implementation fixes and what the manual leaves open: opaque constants without a body, so that
no proof can see their value. Each is named in notes/assumptions/. -/

namespace Sys2Proof

/-- A fresh open value for every number the step hands it (log entry 3). -/
opaque Config.freeNat : Nat → Nat

/-- An open integer for every number the step hands it (log entry 3). -/
opaque Config.freeInt : Nat → Int

/-- HMAC-SHA-256 of a message under a key (R268): key, data, the 32 bytes of the digest. -/
opaque Config.hmac : List Byte → List Byte → Vector Byte 32

/-- The AES key unwrap of RFC 3394 (R265): wrapping key, 40 wrapped bytes; `none` when the integrity check fails. -/
opaque Config.keyUnwrap : List Byte → List Byte → Option (List Byte)

/-- SHA-384 (R549, R560): the 48 bytes of the digest. -/
opaque Config.sha384 : List Byte → Vector Byte 48

/-- ECDSA P-384 verification (R548, R560): public key, digest, signature. -/
opaque Config.ecdsaVerify : List Byte → List Byte → List Byte → Bool

/-- Whether the AES-256-GCM tag of a firmware image verifies under the OTP image key (R548, R549). -/
opaque Config.gcmVerify : List Byte → List Byte → Bool

/-- Whether a level that falls between two DB16 values reads as the upper one (R108): the manual states the reference and not
the rounding of a reading. The argument is the exact energy in units of 2^-160. -/
opaque Config.levelUp : Int → Bool

/-- Where the LG2 result of an operand lies among the eight values of the Q6.26 grid within 2^-24 of the logarithm
(R221), taken modulo 8. -/
opaque Config.lg2Pick : Word → Nat

/-- Which of the results that a relative error of 2^-24 allows EX2 delivers for an operand (R222). -/
opaque Config.ex2Pick : Word → Nat

/-- Remainder and quotient bit of DIVS where the remainder or the divisor has its top bit set (R220): remainder, divisor. -/
opaque Config.divsRem : Word → Word → Word
opaque Config.divsBit : Word → Word → Bool

/-- `C` after ASL, ASR, LSL or LSR by 0 places, where no bit is the last one out (R218). -/
opaque Config.shiftZeroCarry : Word → Bool

/-- Where the interpolated quarter sine sin(π n / 2 m) lies among the values within 2^-28 of the exact one (R93): n, m. -/
opaque Config.sinePick : Nat → Nat → Nat

/-- The largest magnitude, in units of 2^-31, of the signal oversampled by the filter of BS.1770-4 Annex 2 at one sample
(R108): the last 12 samples, newest first. -/
opaque Config.oversample : List Int → Nat

/-- The K-weighting filter of a rate (R110): its output in units of 2^-31 for a state and a sample, and its next state. -/
opaque Config.kOut : Nat → List Int → Int → Int
opaque Config.kNext : Nat → List Int → Int → List Int

/-- Which neighbour a crossfade or ramp at an output takes, where its exact value, a quotient of the arguments, falls between
two (R66, R554; log entry 3). -/
opaque Config.fadeUp : Int → Nat → Bool

/-- The last unit of a filter or EQ stage's output, of which the manual states no word length: from the stage and its
settings, its state and its input (log entry 85). -/
opaque Config.stageUnit : List Int → Nat
/-- The detectors of gate and compressor, for which the manual gives no formula: the state after a key sample, the gain,
and whether the gate is open (log entry 86). Arguments: the stage and its settings, and its state. -/
opaque Config.dynNext : List Int → List Int → Int → List Int
opaque Config.dynGain : List Int → List Int → Int
opaque Config.gateOpen : List Int → List Int → Bool

/-- The ASRC's interpolator (R315): the weight, in units of 2^-30, of an input sample that lies a distance, in units of 2^-24
input samples, before or behind the point from which an output sample is taken. Arguments: input rate in 0.01 Hz, Fs_int, the
distance. The weights depend on the distance alone, so that the delay is exact; the manual gives their limits. -/
opaque Config.asrcTap : Nat → Nat → Nat → Int
/-- The correction that a group's ratio estimator makes to its position in a round, in units of 2^-24 input samples above the
lowest (R315, R316): bandwidth, input samples so far, position. -/
opaque Config.asrcTrack : Nat → Nat → Nat → Nat
/-- Whether the ratio of a group that falls between two values of its grid reads the upper one (R323): rate, Fs_int. -/
opaque Config.ratioUp : Nat → Nat → Bool
/-- The rate, in 0.01 Hz, that an estimator takes from a stream's timestamps (R353): samples between the first timestamp and
the last, nanoseconds between their arrivals. -/
opaque Config.streamRate : Nat → Nat → Nat

/-- The state of the self-synchronising scrambler of a link when a section starts (R364): it depends on every block sent
before, idle blocks included. -/
opaque Config.scrambler : Nat → Nat

/-- The digit string of the device label, die and stepping of this die (R246): per die. -/
opaque Config.dieId : Nat
opaque Config.stepping : Nat
/-- `fw_version` and `settings_format` of the image that the flash holds when the part is delivered (R246, R548). -/
opaque Config.fwVersion : Nat
opaque Config.settingsFormat : Nat

/-- Security version of that image, and whether the owner of a part signed it (R548, R549; log entry 46). -/
opaque Config.deliveredSecurity : Nat
opaque Config.deliveredOwner : Bool

/-- What the TAP answers to IDCODE (R560): the manual gives no value. -/
opaque Config.idcode : Nat

/-- `port_mac` of port p as delivered: locally administered, from `die_id` and p (R358), 6 bytes. -/
opaque Config.portMac : Nat → List Byte

/-- The OTP vendor key hash and debug authority hash written at manufacture (R558). -/
opaque Config.vendorHash : List Byte
opaque Config.debugAuthority : List Byte

/-- The device row that holds a data byte of a channel (R453 to R455): channel, offset in the channel. The number packs
the x16 half, the bank and the row. -/
opaque Config.rowOf : Nat → Nat → Nat

/-- The DRAM channel, taken modulo the channels, and the segment of it, taken modulo the engine segments, that hold a byte of
the engine area (R440, R462): the manual gives no map of that area. -/
opaque Config.engineChan : Nat → Nat
opaque Config.engineSeg : Nat → Nat

/-- The natural frequency of the DPLL, in 1e-6 rad/s, for a bandwidth in 0.01 Hz (R412; log entry 110): the manual gives the order
and the damping factor, and not the point of the response at which the bandwidth is counted. -/
opaque Config.dpllNatural : Nat → Nat
/-- What an Announce of the engine's own clock says of UTC and of its time source (R400): the manual gives neither. -/
opaque Config.utcOffset : Nat
opaque Config.timeSource : Byte

/-- The exponent that the DSP regulator reports in VOUT_MODE, below zero (R427). -/
opaque Config.voutExponent : Nat
/-- Whether the DSP regulator reports the LINEAR16 format in VOUT_MODE (R427). -/
opaque Config.voutLinear : Bool

/-- What the loader lays down for a strip job of a program id: a word of its code, of its X region and of its Y region (R233);
and the firmware tables of the cluster store (R163). No rule gives their contents. -/
opaque Config.libCode : Nat → Nat → BitVec 64
opaque Config.libX : Nat → Nat → Word
opaque Config.libY : Nat → Nat → Word
opaque Config.firmwareTable : Nat → Byte

/-- The taps of the FIR that compensates a sense decimator, and of the interpolator to the loop rate by tap and phase, in units of
2^-30 (R506, R507): the manual gives neither. -/
opaque Config.senseTap : Nat → Int
opaque Config.pscTap : Nat → Nat → Int
/-- The coefficients of a channel's loop (R511), in units of 2^-24: proportional (0), integral (1), lead (2) and damping (3), for the
profile, the unity-gain frequency in Hz, and the filter in 0.01 µH and nF. The manual gives the frequency and no coefficients. -/
opaque Config.loopGain : Nat → Nat → Nat → Nat → Nat → Int
/-- The capacitor current estimated from filter capacitance times voltage derivative and the sensed load current (R511). -/
opaque Config.capCurrent : Int → Int → Int

/-- The contents of the boot ROM (R462). -/
opaque Config.bootRom : Nat → Byte

end Sys2Proof
end

