-- ==== Sys2Proof/Machine/State.lean ====
section
/-! DEFINITION. The engine's state as plain data. `regs` is the object dictionary (R240): every element of every
object, kept sparse against the Default column; the other fields hold what the manual gives the engine beside its
objects. -/

namespace Sys2Proof.Machine

/-- The three variants (R17). -/
inductive Variant where | ivm7424 | ivm7416 | ivm7408
deriving DecidableEq, Repr

/-! ### Time and rounds -/

/-- The local clock and the time since CTL power-up (R395, R397). -/
structure Clock where
  /-- Time since the CTL domain powered up, ns. -/
  tick : Nat
  /-- The local clock, in units of 2^-16 ns (R395). -/
  clk : Nat
  /-- Tick at which the mode was entered (`mode_time`, R562). -/
  modeSince : Nat
deriving DecidableEq, Repr

/-- A measured phase step that waits for its round boundary (R65). -/
structure StepWait where
  deltaNs : Int
deriving DecidableEq, Repr

/-- The crossfade of R66: samples left and the held value of each output. -/
structure XFade where
  left : Nat
  held : Tab Int
deriving DecidableEq, Repr

/-- The sample timeline, the rounds and the playout (R39 to R69). -/
structure Rounds where
  /-- Index of the next round pulse to be issued. -/
  nextPulse : Nat
  /-- Ticks of the pulses of rounds that are not complete, and of the last one. -/
  pulseAt : Tab Nat
  /-- First timeline index of the interval that began at the last pulse, and its length in samples (B, or as R65 makes
  it). -/
  startIdx : Nat
  interval : Nat
  /-- The round whose pulse was issued last, the round whose out-tray plays in the interval, and the one whose out-tray
  played in the interval before. -/
  last : Option Nat
  playing : Option Nat
  prev : Option Nat
  /-- Rounds whose pulse was issued and that have not begun, in order. -/
  waiting : List Nat
  /-- The round that is being computed. -/
  current : Option Nat
  /-- Phases of the current round that are complete, 0 to 4. -/
  phase : Nat
  /-- The next round to begin. -/
  nextRound : Nat
  /-- Tick at which phase 4 of a round was complete (R57). -/
  doneAt : Tab Nat
  /-- Whether the current round began with lag, and sheds (R55). -/
  late : Bool
  shedding : Bool
  /-- Consecutive rounds that began with lag, and the largest lag, 1/256 rd (R58). -/
  episode : Nat
  episodeMax : Nat
  /-- Passes of the current round that are complete: 0, 1 (pass A) or 2 (R98). -/
  passes : Nat
  /-- Positions of each out-tray that played as repeats, for the trays of the last two intervals (R57). -/
  repeats : Tab (List Nat)
  /-- The sample after the last one that each output played: timeline index plus 1 (R57). -/
  played : Tab Nat
  /-- Last 9 samples that each output played, newest first; an output that played none repeats zero (R49, R57). -/
  lastOut : Tab (List Int)
  /-- Inputs with a sample of their own, not a replaced one, in the in-tray that is handed over (R132). -/
  live : List Nat
  /-- Those of the in-trays of rounds that have not begun, by round; of the round that began last, if one did; and of the one
  before. -/
  liveAt : Tab (List Nat)
  liveNow : Option (List Nat)
  liveBefore : Option (List Nat)
  /-- In-trays by round: signal, samples (R28, R54). -/
  inTrays : Tab (Tab (List Int))
  /-- Out-trays by round: consumer, samples (R57). -/
  outTrays : Tab (Tab (List Int))
  /-- The measured step that waits for the next boundary (R64). -/
  step : Option StepWait
  /-- The crossfade after a re-anchoring (R66). -/
  xfade : XFade
  /-- Length of the interval in which the tray of a round that is not complete was to play, where it is not B (R65, R69). -/
  spans : Tab Nat
  /-- Positions of the in-tray being filled that take the last sample captured before a re-anchoring, and those samples
  (R65). -/
  fill : Nat
  fillWith : Tab Int
  /-- The first round of this anchoring. -/
  first : Nat
  /-- What the last re-anchoring added to the indices of rounds and samples, and the number of the next change then (R65). -/
  jump : Int
  jumpBy : Int
  jumpId : Nat
  /-- The sum of the jumps of this anchoring. -/
  slid : Int
deriving DecidableEq, Repr

/-! ### The Sorting Office -/

/-- The aggregation of one publication list (R112, R113): the round in which its period began, the largest peak, true
peak and gain reduction of each point as stored readings, and the messages of its last NOTIFY. -/
structure PubAgg where
  since : Nat
  peaks : Tab Int
  truePeaks : Tab Int
  grs : Tab Int
  sent : List (List Byte)
deriving DecidableEq, Repr

/-- The Sorting Office and the signal exchange (R73 to R113). -/
structure Mix where
  /-- Signals available in the current round, and of the round before (R74, R103). -/
  sig : Tab (List Int)
  sigPrev : Tab (List Int)
  /-- The 80-bit accumulators of each destination, in units of 2^-61 (R96). -/
  acc : Tab (List Int)
  /-- Sources already added to pass A and to pass B of the round (R97). -/
  addedA : List Nat
  addedB : List Nat
  /-- The output of each destination after R99, in the round and in the round before (R16); the samples that step 4 of R99
  altered, and the lowest limiter gain applied. -/
  out : Tab (List Int)
  outPrev : Tab (List Int)
  clipped : Tab Nat
  reduced : Tab Nat
  /-- The in-effect bank and the incoming bank, Q4.28 (R87). -/
  inEffect : Tab Int
  incoming : Tab Int
  /-- Values that the Dispatcher has pre-staged for a crosspoint, by change, oldest first (R95): the first stands in the
  incoming bank while the crosspoint rests, the others wait in DRAM. -/
  staged : Tab (List (Nat × Int))
  xramps : Tab XRamp
  /-- Stretches of gain that a change in the current round ended, newest first. -/
  before : Tab (List Seg)
  resv : List Resv
  lims : Tab Lim
  meters : Tab Meter
  louds : Tab Loud
  /-- Samples that the meters have seen since MIX powered up. -/
  count : Nat
  pubs : Tab PubAgg
  /-- Partial sums of distributed buses: own sums by round, and received sums (R381, R382). -/
  own : Tab (Tab (List Int))
  inSums : Tab (Tab (List Int))
  /-- The sums that each bus sends for the round (R382). -/
  outSums : Tab (List Int)
  /-- Filter state of the test generators, last values by section (R606). -/
  pink : Tab (List (Int × Int))
  /-- Buses whose wait under R383 ran out in this round. -/
  sumGone : List Nat
deriving DecidableEq, Repr

/-! ### Strips and the Dispatcher -/

/-- What a change is: an unpostmarked write, a WRITE_AT, a recall, an envelope, or an image activation. -/
inductive ChangeKind where | write | writeAt | recall | envelope | activate
deriving DecidableEq, Repr

/-- One write of a change, with the ramp or morph length and shape it took at acceptance (R85, R134, R135, R153). -/
structure CWrite where
  addr : Nat
  val : Val
  len : Nat
  shape : Nat
deriving DecidableEq, Repr

/-- An accepted change whose effective sample has not been reached (R47, R144, R263). -/
structure Change where
  /-- Its number, and its place in the order of acceptance, in which changes of one sample apply (R68, R144). -/
  id : Nat
  order : Nat
  kind : ChangeKind
  eff : Nat
  writes : List CWrite
  /-- Pending slot of a recall or envelope (R159). -/
  slot : Option Nat
  envelope : Option Nat
  scene : Option Nat
  /-- The resolved postmark, if one was given, and `pend_flags` (R159). -/
  mark : Option Nat
  flags : Nat
  /-- V (R140). -/
  values : Nat
  armed : Bool
  committed : Bool
  /-- Whether the subscribers to its elements have heard of it (R277). -/
  told : Bool
  who : Who
  /-- Forward identifier of a forwarded request (R477, R496). -/
  fid : Nat
deriving DecidableEq, Repr

/-- An envelope (R154): its owner, its writes in order and the tick of its last write. -/
structure Env where
  sealed : Bool
  owner : Src
  writes : List CWrite
  last : Nat
deriving DecidableEq, Repr

/-- The Dispatcher (R139 to R160). -/
structure Disp where
  changes : List Change
  nextId : Nat
  envs : Tab (Option Env)
  nextEnv : Nat
  /-- Slots whose change took effect or was removed, free from the next boundary (R159). -/
  freed : List Nat
  /-- Values that a READ still delivers until the effective sample of the change that replaced them has passed: address,
  effective sample, value (R86, R129). -/
  early : List (Nat × Nat × Val)
deriving DecidableEq, Repr

/-! ### The host side -/

/-- A session (R266, R267, R269). -/
structure Session where
  slot : Nat
  port : Nat
  host : Nat
  role : Nat
  salt : List Byte
  /-- Highest `seq` accepted, those seen in the window below it, and the engine's own numbering (R269). -/
  hi : Nat
  seen : List Nat
  outSeq : Nat
  /-- The last 16 responses with the `seq` they answer, newest first. -/
  cache : List (Nat × List Byte)
  last : Nat
deriving DecidableEq, Repr

/-- The sequence of a multicast group (R271). -/
structure GroupSeq where
  hi : Nat
  seen : List Nat
  outSeq : Nat
  cache : List (Nat × List Byte)
deriving DecidableEq, Repr

/-- A subscription (R276). -/
structure Sub where
  /-- A session 1 to 64, or from 65 a group with the port and host of the sender (R271). -/
  owner : Nat
  kind : Nat
  addr : Nat
  count : Nat
  period : Nat
  areas : Nat
  due : Nat
  /-- Values last sent, or those at the start of the subscription (R277). -/
  vals : List Val
deriving DecidableEq, Repr

/-- A DOMAIN assembly (R264). -/
structure Assembly where
  owner : Src
  addr : Nat
  total : Nat
  data : List Byte
  last : Nat
deriving DecidableEq, Repr

/-- A request received and not yet answered whole (R273): where it came from, its records to do and those done. -/
structure Request where
  src : Src
  port : Nat
  host : Nat
  seq : Nat
  todo : List Rec
  done : List Rec
  /-- Whether a record ended the session, which then ends once the request is answered (R267). -/
  closing : Bool
deriving DecidableEq, Repr

/-- A notice record (R280). -/
structure Notice where
  code : Nat
  num : Nat
  index : Nat
  origin : Nat
  params : List Nat
deriving DecidableEq, Repr

/-- An AES3 subframe (R293, R356): the 24 audio bits, validity, user, channel status and parity bit, and the block start
that the preamble, or the flag of an AM824 word, shows. -/
structure Subframe where
  audio : Int
  validity : Bool
  user : Bool
  status : Bool
  parity : Bool
  start : Bool
deriving DecidableEq, Repr

/-- A packet of a transmit stream (R339, R343, R354 to R356): stream and leg, IP addresses, UDP ports, TTL and DSCP, the RTP
fields, the words of each sample instant by channel, for AM824 its subframes, and the UDP checksum. -/
structure MediaPacket where
  stream : Nat
  leg : Nat
  format : Nat
  src : List Byte
  dst : List Byte
  sport : Nat
  dport : Nat
  ttl : Nat
  dscp : Nat
  pt : Nat
  ssrc : Nat
  seq : Nat
  ts : Nat
  samples : List (List Int)
  subs : List (List Subframe)
  checksum : Nat
deriving DecidableEq, Repr

/-- The kinds of PTP message that the engine puts out (R402). -/
inductive PtpKind where
  | sync | delayReq | pdelayReq | pdelayResp | delayResp | announce
deriving DecidableEq, Repr

/-- A PTP message of the engine (R400, R402, R404): its transport and mark, the header's domain, sourcePortIdentity, sequence,
interval and correctionField (units of 2^-16 ns), originTimestamp in ns, the clock data of an Announce, and of an answer the
requesting port and the ingress timestamp of the request (units of 2^-16 ns). twoStepFlag is 0. -/
structure PtpFrame where
  kind : PtpKind
  transport : Nat
  dscp : Nat
  domain : Nat
  src : Nat
  seq : Nat
  interval : Int
  corr : Int
  origin : Nat
  clock : PtpMaster
  req : Nat
  got : Int
deriving DecidableEq, Repr

/-- What a transmit ring holds (R337): a BOP message with the host it goes to, a media packet, a PTP message, an answer of R341, a report that joins or leaves a group with its source filter (R341), or a forwarded frame with its ingress timestamp (R403). `dscp`
is the mark of the frame. -/
inductive TxItem where
  | bop (host dscp : Nat) (data : List Byte)
  | media (m : MediaPacket)
  | ptp (x : PtpFrame)
  | neighbour (q : Neighbour)
  | report (join : Bool) (group filter : List Byte)
  | forward (f : Frame) (got : Int)
deriving DecidableEq, Repr

/-- The protocol engine (R252 to R288). -/
structure Bop where
  sessions : Tab (Option Session)
  groups : Tab GroupSeq
  /-- The 256-bit keys of the key unit; a slot without a key holds the empty string (R265). -/
  keys : Tab (List Byte)
  queue : List Request
  subs : Tab (Option Sub)
  asms : List Assembly
  log : List Notice
  /-- Tick of the last untagged TAG_FAIL answer of each session (R268). -/
  tagFailAt : Tab Nat
  /-- Elements that a change has touched since the last round boundary, with its effective sample (R277). -/
  touched : List (Nat × Nat)
  /-- Tick of the last STATE_DISAGREE of each element (R283). -/
  disagreeAt : Tab Nat
  /-- The answer of the last service SPI transaction: status and value (R256). -/
  spi : Nat × List Byte
  /-- Responses by op_id that forwarded requests wait for: fid, session, record (R477). -/
  forwarded : List (Nat × Who × Rec)
  /-- The port and host that the record being executed came from, for the subscriptions of a group (R271). -/
  asker : Nat × Nat
deriving DecidableEq, Repr

/-! ### DSP clusters -/

/-- What produces a register value, for the distances of R188 and R228. -/
inductive Prod where | mac | load | alu | post | move | sr | ldacc | mul | log
deriving DecidableEq, Repr

/-- A register as a resource of the interlock (R188). -/
inductive Res where | d (i : Nat) | a (i : Nat) | p (i : Nat) | sr
deriving DecidableEq, Repr

/-- A result on its way: the resource, its producer and the cycle in which it issued. -/
structure Flight where
  res : Res
  prod : Prod
  at_ : Nat
deriving DecidableEq, Repr

/-- What the loader laid down for a strip job (R233): its program id, where its code begins, and its X and Y regions. -/
structure Lib where
  program : Nat
  entry : Nat
  xAt : Nat
  xLen : Nat
  yAt : Nat
  yLen : Nat
deriving DecidableEq, Repr

/-- A service or relief core (R164, R168). Memories are cleared at power-up (R35), so an unlisted word reads 0. -/
structure Core where
  d : Vector Word 16
  a : Vector (BitVec 72) 4
  p : Vector (BitVec 16) 8
  n : Vector (BitVec 16) 8
  l : Vector (BitVec 16) 8
  b : Vector (BitVec 16) 8
  lc : Vector (BitVec 16) 4
  sr : BitVec 16
  cyc : Word
  job : Word
  pc : BitVec 13
  /-- The return stack, newest first, at most 16 entries. -/
  ret : List (BitVec 13)
  /-- Start and end of the open loops, innermost first, at most 4 (R223). -/
  loops : List (Nat × Nat)
  x : Tab Word
  y : Tab Word
  prog : Tab DspWord
  /-- Cycles since the job started, not wrapped, and the results on their way (R188). -/
  now : Nat
  flights : List Flight
  /-- Position of the job that runs, and the positions that overflowed in this round (R183). -/
  run : Option Nat
  overflowed : List Nat
  /-- Tick at which the job started (R51). -/
  since : Nat
  /-- Positions that ended in this round, and those halted (R190). -/
  ended : List Nat
  halted : List Nat
  /-- Positions whose inputs of the round are in place, and those whose outputs were handed to MIX (R29, R179). -/
  ready : List Nat
  handed : List Nat
  /-- Cycles that each position used in the round (R51), and what the loader laid down for strip jobs (R233). -/
  used : Tab Nat
  libs : List Lib
deriving DecidableEq, Repr

/-- A region that a job descriptor grants (R182, R231). -/
structure Region where
  dram : Bool
  base : Nat
  len : Nat
  write : Bool
  delay : Bool
deriving DecidableEq, Repr

/-- An input entry of a job descriptor (R231): a direct signal, or a job input fed by a destination. -/
structure JobIn where
  sig : Option Word
  num : Nat
  off : Nat
deriving DecidableEq, Repr

/-- An output entry of a job descriptor (R231). -/
structure JobOut where
  idx : Nat
  off : Nat
deriving DecidableEq, Repr

/-- A job descriptor (R231). -/
structure Job where
  /-- Byte offset of the descriptor in its image. -/
  at_ : Nat
  num : Nat
  phase3 : Bool
  deferrable : Bool
  morphable : Bool
  strip : Option (Bool × Nat)
  program : Nat
  entry : Nat
  budget : Nat
  morphBudget : Nat
  xAt : Nat
  xLen : Nat
  yAt : Nat
  yLen : Nat
  trays : List Nat
  ins : List JobIn
  outs : List JobOut
  regions : List Region
deriving DecidableEq, Repr

/-- A core section of a program image (R230). -/
structure Section where
  /-- Byte offset of the section in its image. -/
  at_ : Nat
  core : Nat
  program : List DspWord
  tin : Nat
  tout : Nat
  xRuns : List (Nat × List Word)
  yRuns : List (Nat × List Word)
  jobs : List Job
deriving DecidableEq, Repr

/-- A program image (R229). -/
structure Image where
  cluster : Nat
  fs : Nat
  b : Nat
  path : Nat
  crc : Nat
  sections : List Section
deriving DecidableEq, Repr

/-- A DMA channel with a transfer in progress (R180, R181): the words it locks. -/
structure Dma where
  core : Nat
  xfer : DmaXfer
  /-- The position of the issuing job, and whether the relief core audits that core in this round (R192). -/
  pos : Nat
  audit : Bool
deriving DecidableEq, Repr

/-- A cluster (R161): the image in effect, the loader, the store, the DMA engine and the relief core's work. -/
structure Cluster where
  image : Option Image
  /-- Rounds k_a and k_a + r of R237 between which the cluster runs no job. -/
  loadFrom : Nat
  loadUntil : Nat
  loading : Bool
  /-- The cluster store, byte by byte; cleared at power-up (R35). -/
  store : Tab Byte
  dma : Tab (Option Dma)
  /-- Whether a mirror has begun, in which round, and of which core (R192). -/
  auditing : Bool
  auditAt : Nat
  auditCore : Nat
  /-- The audit round once it has begun, and the audited core as it stood when that round was complete (R192). -/
  auditRound : Option Nat
  audited : Option Core
  /-- The replay buffer: channel, place in the cluster store and words of each DMA read that core made in the audit round, in
  order, and the bytes captured (R163, R192). -/
  replay : List (Nat × Nat × Nat)
  replayTop : Nat
  /-- DMA writes of the audit round, by position, transfer and data: those of the core, and those of the relief core. -/
  sent : List (Nat × DmaXfer × List Word)
  resent : List (Nat × DmaXfer × List Word)
  /-- A core that `core_retire` named (R198), and the core whose audit found a difference with the job (R195). -/
  forced : Option Nat
  retiring : Option (Nat × Nat)
  /-- Cores whose next audit an exception asks for (R191). -/
  auditNext : Option Nat
  /-- First sample, plus 1, of the round of the last GUARD_OVERFLOW of each job (R184). -/
  guardAt : Tab Nat
  /-- The image that an accepted activation takes (R237), and the cluster store bytes moved in this round (R200). -/
  taken : Option Image
  storeMoved : Nat
deriving DecidableEq, Repr

/-- The DSP clusters and cores; a cluster and core that was never powered holds the cleared record. -/
structure Dsp where
  clusters : Tab Cluster
  cores : Tab Core
deriving DecidableEq, Repr

/-! ### Ports -/

/-- A channel gate (R306): its position in 1/32, the state it moves to, the samples waited since the change, whether it
moves linearly, and the signal's last sample. -/
structure Gate where
  pos : Nat
  openTo : Bool
  waited : Nat
  moving : Bool
  prevY : Int
deriving DecidableEq, Repr

/-- What the engine does with a pin (R27, R300): it releases it, drives it, holds it low without a clock, or has left it
standing as a clock failure found it. -/
inductive Pin where | released | driven | low | stopped
deriving DecidableEq, Repr

/-- A serial port (R295 to R308): the active copy of masks and gates, the writes of the shadow that wait for a cut-off
(first frame they govern, element, value), lock, gates, and what it last drove. -/
structure SapPort where
  rxMask : Nat
  txMask : Nat
  rxOn : Nat
  txOn : Nat
  writes : List (Nat × Nat × Nat)
  /-- Writes that a cut-off has already taken and whose frame has not come yet (R303). -/
  cut : List (Nat × Nat × Nat)
  goodFrames : Nat
  locked : Bool
  /-- Whether the port was in lock before it lost it (`sp_state` 4). -/
  slipped : Bool
  /-- Whether the trigger fired while the port was out of lock (R308). -/
  startWait : Bool
  /-- Gates: input slot s at s, output slot s at 32 + s. -/
  gates : Tab Gate
  /-- The last sample of each channel (R293). -/
  prevWords : Tab Int
  /-- The words of the last frame on DOUT by slot, and the slots driven (R302). -/
  dout : Tab Int
  driven : List Nat
  /-- BCLK and FSYNC, and DOUT, as pins (R296, R300). -/
  clocks : Pin
  line : Pin
  /-- DOUT in each BCLK period of the last frame, none where it is released (R291, R292); FSYNC as a master drives it in the
  same periods; and whether both change on the rising edge of BCLK. -/
  bits : List (Option Bool)
  sync : List Bool
  onRising : Bool
  /-- The subframes of the last AES3 frame, none for a slot that is not sent (R293). -/
  aes : List (Option Subframe)
  /-- The last frame that went through the steps of R301. -/
  lastIn : Option Nat
deriving DecidableEq, Repr

/-- Serial ports, the start trigger and the ASRC bank. -/
structure Sap where
  ports : Tab SapPort
  /-- Local clock at the registered START_IN edge (R308). -/
  edgeAt : Option Nat
  /-- Rings by what they wait for: 1 the next boundary, 2 the trigger, 3 their first frame (R313, R321). -/
  ringWait : Tab Nat
  /-- Samples since lock of each ASRC group, at most 1,024, and samples of the fade left after a loss (R317). -/
  asrcFade : Tab Nat
  asrcLoss : Tab Nat
  /-- Input position of each group at the first output sample of the round last delivered, unsigned Q40.24 (R318). -/
  asrcPos : Tab Nat
  /-- Input samples of each group since it began to acquire, and its rate at lock in 0.01 Hz (R315). -/
  asrcSeen : Tab Nat
  asrcRate : Tab Nat
  /-- The last input samples of each channel, newest first. -/
  asrcIn : Tab (List Int)
  /-- Groups that were locked at some moment of the round being collected (R317). -/
  asrcHeld : List Nat
  /-- Tick since which each acquiring group has tracked (R316), groups that return to acquiring at the next boundary
  (R324), and groups whose source delivered in the round being collected. -/
  asrcSince : Tab Nat
  asrcReset : List Nat
  asrcFed : List Nat
deriving DecidableEq, Repr

/-- A network port (R328 to R340). -/
structure NetPort where
  /-- Transmit rings, oldest frame first. -/
  tx : Tab (List TxItem)
  /-- Credit of the shaped rings in 1e-6 bit, and the tick up to which it is counted (R338). -/
  credit : Tab Int
  creditAt : Nat
  /-- Fill of the receive rings, frames (R340). -/
  rx : Tab Nat
  /-- The last frame sent (R334), and its VLAN and PCP where it is tagged (R339). -/
  sent : Option TxItem
  sentTag : Option (Nat × Nat)
  /-- Tick since which the link stands, of the last restore, and whether `port_eco` lowered the speed (R336). -/
  lowSince : Nat
  restoredAt : Nat
  slowed : Bool
  /-- Ring served last at each priority (R338). -/
  turn : Tab Nat
  /-- Frames offered for transmission in the last second, newest first: tick, priority and bits (R391). -/
  offered : List (Nat × Nat × Nat)
deriving DecidableEq, Repr

/-- A receive stream (R347 to R353): the holding box by index * 64 + channel, the last sample of each channel, the last
sequence number of each leg, whether it underran and whether it ever received, and the margins of the last second with
their ticks. An unlocked stream (R353) counts its timestamps without wrap: the last one, one past the newest sample, the
next sample to pass on, whether it passes samples, and its first timestamp with the tick of its arrival. -/
structure RxStream where
  box : Tab (Option Int)
  lastSmp : Tab Int
  seqA : Option Nat
  seqB : Option Nat
  under : Bool
  got : Bool
  margins : List (Nat × Int)
  lastTs : Option Nat
  top : Nat
  low : Option Nat
  passing : Bool
  origin : Option (Nat × Nat)
deriving DecidableEq, Repr

/-- The network island. -/
structure Net where
  ports : Tab NetPort
  /-- The switch's learned addresses: address, port, tick (R329). -/
  learned : List (Nat × Nat × Nat)
  rx : Tab RxStream
  /-- Index of the next packet of each transmit stream (R354). -/
  txNext : Tab Nat
deriving DecidableEq, Repr

/-- A 66-bit block of the lane (R366): whether it is a control block, and its 64 bits. -/
structure Block where
  control : Bool
  word : BitVec 64
deriving DecidableEq, Repr

/-- A coach link (R364 to R389). -/
structure Link where
  blockLock : Bool
  /-- Consecutive matching time sections (R375), and the tick of the last valid one. -/
  matched : Nat
  lastSection : Nat
  /-- Departure of the last own time section; departure and arrival of the last one received (R371, R372). -/
  sentAt : Nat
  farSent : Nat
  arrival : Nat
  /-- The far end's driving bit, twin bit, claim number, `tg_id` and map check (R371). -/
  farDriving : Bool
  farTwin : Bool
  farClaim : Nat
  farTg : Nat
  farCrc : Nat
  /-- The last sample of each channel (R378). -/
  lastSmp : Tab Int
  /-- Tunnel queue of messages, oldest first, and those of the last section sent (R389). -/
  tunnel : List (List Byte)
  tunnelled : List (List Byte)
  /-- Sections ready to be sent, by kind (R369), with the round that each belongs to; the kind in the lane, its blocks (R366
  to R368), and the blocks used in the round. -/
  ready : List Nat
  readyAt : Tab Nat
  sending : Option Nat
  lane : List Block
  used : Nat
  /-- Where the answers that come back through the tunnel go: port and host of the last request sent into it, by class
  (0 session, 1 group, 2 opening) * 65536 + number (R389). -/
  relays : Tab (Nat × Nat)
deriving DecidableEq, Repr

/-! ### References and clocks -/

/-- A class H reference (R407, R408). -/
structure Href where
  edges : List Int
  missing : Nat
  /-- Tick of the last missing period. -/
  missedAt : Nat
  goodSince : Option Nat
  lastEdge : Nat
deriving DecidableEq, Repr

/-- A PTP port (R399 to R405). -/
structure PtpPort where
  master : Option PtpMaster
  /-- Masters heard, each with the tick of its last Announce (best master clock algorithm). -/
  foreign : List (PtpMaster × Nat)
  lastAnnounce : Nat
  lastSync : Nat
  /-- offsetFromMaster of the last eight Sync messages, newest first, in units of 2^-16 ns (R411). -/
  offsets : List Int
  /-- A two-step Sync that waits for its Follow_Up (R405): its sequence, and its ingress timestamp less its correction. -/
  pending : Option (Nat × Int)
  /-- The time from the master to the engine that the last Sync measured, delay and offset together, and the mean path delay, in
  units of 2^-16 ns (R401). -/
  forth : Int
  delay : Int
  /-- Sequence of the next message of each kind (R402), of the last Delay_Req or Pdelay_Req, and the origin time it left with. -/
  seqs : Tab Nat
  reqSeq : Nat
  reqAt : Option Int
  /-- A two-step Pdelay_Resp that waits for its follow-up: ingress timestamp less corrections, and its own stamp (R402). -/
  answer : Option (Int × Int)
  /-- Tick since which the conditions of R409 hold. -/
  goodSince : Option Nat
  qualified : Bool
deriving DecidableEq, Repr

/-- A pulse output (R414, R415): its level and whether the pin is driven; the local clock at its last edge, at its last rising
edge, at which its pulse in progress ends, and before which it may not start (R493); and φ in ns. -/
structure PulseOut where
  high : Bool
  driven : Bool
  edgeAt : Nat
  riseAt : Option Nat
  fallAt : Nat
  notBefore : Nat
  phi : Int
deriving DecidableEq, Repr

/-- SAFE_HOLD in progress (R418, R421). -/
structure Safe where
  cause : Nat
  since : Nat
  back : Nat
  ref : Nat
  returned : Bool
  waitFrom : Nat
deriving DecidableEq, Repr

/-- References, the DPLL, the oscillators and the voltage sequencer. -/
structure Refs where
  href : Tab Href
  ptp : Tab PtpPort
  /-- Tick since which a coach link meets R409, and the links qualified. -/
  coachSince : Tab (Option Nat)
  coachOk : List Nat
  /-- Tick since which each table entry has been qualified (R410). -/
  prioSince : Tab Nat
  /-- Tick since which the phase error stayed within 1,000 ns (R412), and the frequencies held with the tick since which,
  newest first (R413). -/
  lockSince : Option Nat
  freqHist : List (Nat × Int)
  /-- The offset of the DPLL's increment from nominal and its integral part, in 1e-12 (R395, R412), and the tick of the last
  correction. -/
  freq : Int
  integ : Int
  steeredAt : Nat
  lockedAt : Option Nat
  /-- The pulse outputs (R414). -/
  pulses : Tab PulseOut
  safe : Option Safe
  /-- Failed start sequences (R422). -/
  clockFails : Nat
  /-- The raised point that waits for `dvfs_settle`, and the tick at which it ends (R426). -/
  raise : Option (Nat × Nat)
  /-- Tick of the last round with little headroom, or of the last change of point (R425). -/
  lowSince : Nat
  /-- VID pins (R427, R569). -/
  vid : Nat
  /-- The DSP supply voltage last commanded, mV (R424, R427), and the last PMBus write: address, command, word (R427). -/
  vout : Nat
  pmbus : Option (Nat × Nat × Nat)
deriving DecidableEq, Repr

/-! ### Memory -/

/-- A request that a controller holds: arrival order and tick, and whether it was promoted (R446). -/
structure HeldReq where
  num : Nat
  at_ : Nat
  req : DramReq
  promoted : Bool
deriving DecidableEq, Repr

/-- A DRAM channel (R446 to R455). Rows are named by a number that packs the x16 half, the bank and the row. -/
structure Chan where
  held : List HeldReq
  /-- Rows queued for retirement, oldest first, and the redirect entries in use. -/
  waiting : List Nat
  entries : List Nat
  /-- Blocks found uncorrectable, by their first byte in the user area, with the row that holds them. -/
  bad : List (Nat × Nat)
  /-- Corrected errors by row: count, and tick of the first. -/
  ceRows : Tab (Nat × Nat)
  /-- Rows redirected for good (R455). -/
  forGood : List Nat
  selfRefresh : Bool
  /-- Refreshes of each bank (R449). -/
  refreshed : Tab Nat
  /-- Rows whose copy is complete, until the next round boundary (R455). -/
  copied : List Nat
  /-- Tick and die temperature of the last reading of the oscillators, and whether a correction waits for its window (R450). -/
  readAt : Nat
  readTemp : Int
  toCorrect : Bool
  /-- Tick, plus one, at which patrol scrub last read each block (R456). -/
  scrubbed : Tab Nat
deriving DecidableEq, Repr

/-- DRAM, SRAM test and repair, and the control crossbar. -/
structure Mem where
  /-- Capacity of the DRAM devices on each channel, GB (R438), and the interface rate, MT/s, which boot takes from `dram_rate`
  (R439, R469). -/
  devices : Nat
  rate : Nat
  /-- What requests moved in the last second: tick, channel, rank of the class, bytes (R470). -/
  moved : List (Nat × Nat × Nat × Nat)
  /-- Tick, plus one, of the last test of each island (R459). -/
  bistAt : Tab Nat
  /-- Bursts that wait for the swap of the windows, oldest first (R466). -/
  heldBursts : List Burst
  /-- User area bytes (R441); the clear of R444 leaves zeros, so an unlisted byte reads 0. -/
  dram : List Host.Cell
  chans : Tab Chan
  nextReq : Nat
  /-- The last DRAM answer: bytes delivered and whether the operation failed (R454). -/
  dramOut : List Byte × Bool
  /-- Control SRAM by its own address, then dictionary store and engine area by crossbar address (R462); cleared. -/
  sram : List Host.Cell
  /-- Spare rows and columns used, by SRAM block (R460). -/
  spares : Tab (Nat × Nat)
  /-- Region registers of the crossbar, by (master * 16 + region) * 4 + register (R467). -/
  rgn : Tab Word
  remap : Bool
  remapBusy : Bool
  /-- The answer of the last burst: 0 done, 1 error response (R465), 2 DENIED, and the data read. -/
  xbarOut : Nat × List Byte
  /-- Whether the map or the engine segments changed since the user area was cleared (R444). -/
  mapDirty : Bool
deriving DecidableEq, Repr

/-! ### Twin -/

/-- Twin operation (R474 to R501). -/
structure Twin where
  /-- Whether the drivers are enabled by the claim (R492). -/
  driving : Bool
  /-- Round pulses since the last heartbeat on the courier and on the pulse pair (R484). -/
  silentCourier : Nat
  silentPair : Nat
  /-- Whether a heartbeat was heard since joining began, and when it began (R475). -/
  everHeard : Bool
  joinedAt : Nat
  /-- The partner's role in its last heartbeat item. -/
  partnerRole : Nat
  /-- The rounds of the last heartbeat and ASRC items, plus 1 (R480). -/
  heartRound : Nat
  asrcRound : Nat
  /-- Own and partner digests by round that have not been compared, plus 1 (R482). -/
  digests : Tab Nat
  partnerDigests : Tab Nat
  /-- Consecutive mismatched rounds, and the tick of the last DIGEST_MISMATCH. -/
  run : Nat
  mismatchAt : Nat
  /-- Whether the round watchdog is alive (R483). -/
  watchdog : Bool
  /-- Step of R498 (0: none), and the rounds verified with the first of them. -/
  resyncStep : Nat
  verified : Nat
  firstMatch : Nat
  /-- Round of the last claim window, whether it was won, the cause that it gives a change of hands, whether the partner
  was present, and whether its H has passed (R488 to R494). -/
  window : Option Nat
  won : Bool
  cause : Nat
  present : Bool
  handed : Bool
  /-- Whether the engine takes the drive as a SHADOW, so that its power stages recover (R527). -/
  recover : Bool
  /-- Tick, plus 1, at which each penalty condition last held (R487). -/
  penaltyAt : Tab Nat
  /-- Items that wait for the courier, and those of the last section sent (R479). -/
  courier : List CourierItem
  sent : List CourierItem
  /-- Alarm paths raised (R484). -/
  alarms : List Nat
  /-- Next forward identifier, and the forwarded requests whose change item came: identifier, effective sample plus 1
  (R477, R496). -/
  nextFid : Nat
  got : Tab Nat
  /-- Courier bulk bytes received, and long items that wait to be sent in bulk (R479); references received to long items that
  have not arrived: type and identifier; and the snapshot that this ACTIVE froze (R498). -/
  bulk : List Byte
  bulkOut : List Byte
  refs : List (Nat × Nat)
  frozen : Option Snapshot
  /-- What this engine pulled low in the 19 slots of the last claim window (R488), the sample H of its last change of hands
  (R493), and the round of its last pulse on HB_OUT (R484). -/
  slots : List Bool
  handAt : Option Nat
  hbOut : Option Nat
deriving DecidableEq, Repr

/-! ### Power stages -/

/-- The decimator of a sense bitstream (R506): four integrators, the delays of four combs, and the last 8 samples at the loop
rate, newest first. -/
structure Sinc where
  ints : List Int
  combs : List Int
  fir : List Int
deriving DecidableEq, Repr

/-- The four gates of a bridge (R505): high and low side of legs A and B. -/
structure PscGates where
  ah : Bool
  al : Bool
  bh : Bool
  bl : Bool
deriving DecidableEq, Repr

/-- An edge of a gate: its interpolator step, the gate (0 AH, 1 AL, 2 BH, 3 BL) and the level that it takes. -/
structure GateEdge where
  at_ : Nat
  gate : Nat
  high : Bool
deriving DecidableEq, Repr

/-- The loop and the modulator of a channel (R506 to R511): the last 17 scaled samples, newest first, and the sensed voltage and
current, in units of 2^-20 of 0.01 V and 0.01 A; what the controller keeps; and the modulator. -/
structure PscLoop where
  /-- The last sample that came, on the timeline without its re-anchorings. -/
  smp : Nat
  fed : List Int
  sv : Sinc
  si : Sinc
  volt : Int
  amp : Int
  /-- Sum and number of the voltages of the present half carrier period, and the mean of the last one (R511). -/
  halfSum : Int
  halfN : Nat
  halfMean : Int
  /-- Integral part, last error and output m, in units of 2^-31. -/
  integ : Int
  err : Int
  out : Int
  /-- Half carrier periods passed, none while the carrier has not begun, and the carrier's phase, in units of 1/16,515,072,000 of a
  period. -/
  half : Option Nat
  shift : Nat
  /-- What the comparisons make of the legs, whether a cut holds the bridge until the period ends (R518), edges that wait for their
  step, and the gates with the edges of the last sample period and of the 500 ns before it. -/
  legA : Bool
  legB : Bool
  cut : Bool
  due : List GateEdge
  gates : PscGates
  edges : List GateEdge
  /-- Loop samples of the lead test, and the sums of V and I over the last 20 ms of its halves (R517). -/
  tested : Nat
  vPos : Int
  iPos : Int
  vNeg : Int
  iNeg : Int
  /-- Largest sensed currents of the last second with their sample counts, newest first. -/
  peaks : List (Nat × Nat)
deriving DecidableEq, Repr

/-- A power stage channel (R515 to R527). -/
structure PscCh where
  /-- Start-up step of R516: 0 none, 1 held for the sense clock, 2 lead test, 3 bootstrap charge, 4 loop closed and input
  gain rising, 5 running, 6 lead test alone (R517); and the tick at which it began. -/
  step : Nat
  since : Nat
  /-- Whether the start is a recovery (R527), and whether an over-current cut occurred in the lead test. -/
  recovery : Bool
  testCut : Bool
  /-- 0 none, 1 shut down, 2 latched (R519, R520). -/
  shut : Nat
  /-- Ticks of the cut carrier periods of the last 1 ms, newest first, and the number of the last one (R518, R519). -/
  cuts : List Nat
  cutPeriod : Option Nat
  /-- Whether the channel runs on a retry; failed retries and shutdowns of the episode; first sample of the retry round;
  tick since which it runs (R520). -/
  retryRun : Bool
  failed : Nat
  shutdowns : Nat
  nextRetry : Option Nat
  runSince : Option Nat
  /-- The tick of the last EXCURSION_LIMIT (R525). -/
  limitAt : Option Nat
  /-- The phase that the carrier moves to, in units of 1/16,515,072,000 of a period (R515). -/
  target : Nat
  loop : PscLoop
  speaker : Speaker
deriving DecidableEq, Repr

/-! ### Modes, flash and security -/

/-- A settings copy in flash (R544). -/
structure FlashSettings where
  seq : Nat
  format : Nat
  valid : Bool
  vals : List (Nat × Val)
deriving DecidableEq, Repr

/-- A boot record copy (R542). -/
structure BootRec where
  seq : Nat
  active : Nat
  trial : Nat
  trialSlot : Nat
  valid : Bool
deriving DecidableEq, Repr

/-- A repair record entry (R197, R455, R460). -/
inductive Repair where
  | core (c j : Nat) | row (ch r : Nat) | sram (island mem region kind : Nat)
deriving DecidableEq, Repr

/-- A firmware slot of the flash (R547): empty or incomplete, the image with which the part is delivered, or an image
that `upd_data` brought. -/
inductive Slot where
  | empty
  | delivered
  | held (image : List Byte)
deriving DecidableEq, Repr

/-- What survives power-off (R546, R547, R558). -/
structure Flash where
  settings : List FlashSettings
  boot : List BootRec
  slotA : Slot
  slotB : Slot
  /-- Whether power failed while a slot was being verified (R556). -/
  verifyCut : Bool
  repair : List Repair
  ownerHash : Option (List Byte)
  ownerReq : Bool
  debugOff : Bool
  fuses : Nat
deriving DecidableEq, Repr

/-- Modes, start-up, update and security. -/
structure Sys where
  /-- Power requests that wait for a round boundary: domain, on (R535). -/
  pdWait : List (Nat × Bool)
  /-- DRAM domains in retention (R32). -/
  retained : List Nat
  autosaveAt : Option Nat
  settingsDirty : Bool
  faultSince : Nat
  /-- The image received by `upd_data` (R552). -/
  updImage : List Byte
  /-- ACTIVATING: the mode left; the step (0 none, 1 ramp down, 2 rounds stopped, 3 restarted, 4 ramp up after it); and
  the first sample of the ramp (R553, R554). -/
  actFrom : Nat
  actStep : Nat
  rampAt : Nat
  /-- Debug unlock: the current challenge, invalid tokens, scope (R560). -/
  challenge : List Byte
  badTokens : Nat
  scope : Option Byte
  /-- What TDO returned last. -/
  tdo : List Byte
  /-- Whether the AO supply is valid (R536). -/
  powered : Bool
  /-- Voltages, in 0.1 mV, that the AO monitor last saw on rails (R567), numbered from 0 in the order of its table; none is a rail
  within its limits. -/
  rails : Tab (Option Nat)
  /-- Tick until which `FL_RESET_N` is driven low (R585), and tick of the last save of the settings (R544). -/
  flashReset : Nat
  saveAt : Option Nat
deriving DecidableEq, Repr

/-- The engine. -/
structure State where
  variant : Variant
  time : Clock
  /-- The object dictionary: every element, by its 32-bit address (R240). -/
  regs : Tab Val
  rounds : Rounds
  mix : Mix
  strips : Tab StripRun
  disp : Disp
  bop : Bop
  dsp : Dsp
  sap : Sap
  net : Net
  links : Tab Link
  refs : Refs
  mem : Mem
  twin : Twin
  psc : Tab PscCh
  sys : Sys
  flash : Flash
  /-- The model's own field: numbers the free values (log entry 3). -/
  free : Nat
  /-- Commands that wait, first in, first out. -/
  pending : List Instr
deriving DecidableEq, Repr

/-- The engine right after power-on reset (R536, R541, R546): mode BOOT, every element at its default (R244), every
queue, buffer and table empty, every counter 0, time 0 (R397), the VID pins at point 3 (R569). The variant is the full
part, and the values that no rule states are those of log entry 6. -/
def State.reset : State where
  variant := .ivm7424
  time := ⟨0, 0, 0⟩
  regs := []
  rounds :=
    { nextPulse := 0, pulseAt := [], startIdx := 0, interval := 16, last := none, playing := none, prev := none, waiting := [], current := none, phase := 0, nextRound := 0, doneAt := [],
      late := false, shedding := false, episode := 0, episodeMax := 0, passes := 0, repeats := [], played := [], lastOut := [],
      live := [], liveAt := [], liveNow := none, liveBefore := none, inTrays := [], outTrays := [], step := none, xfade := ⟨0, []⟩, spans := [], fill := 0, fillWith := [], first := 0, jump := 0, jumpBy := 0, jumpId := 0, slid := 0 }
  mix :=
    { sig := [], sigPrev := [], acc := [], addedA := [], addedB := [], out := [], outPrev := [], clipped := [], reduced := [], inEffect := [], incoming := [], staged := [],
      xramps := [], before := [], resv := [], lims := [], meters := [], louds := [], count := 0, pubs := [], own := [], inSums := [], outSums := [],
      pink := [], sumGone := [] }
  strips := []
  disp := { changes := [], nextId := 0, envs := [], nextEnv := 0, freed := [], early := [] }
  bop :=
    { sessions := [], groups := [], keys := [], queue := [], subs := [], asms := [], log := [], tagFailAt := [], touched := [],
      disagreeAt := [], spi := (0, []), forwarded := [], asker := (0, 0) }
  dsp := ⟨[], []⟩
  sap :=
    { ports := [], edgeAt := none, ringWait := [], asrcFade := [], asrcLoss := [], asrcPos := [], asrcSeen := [], asrcRate := [], asrcIn := [],
      asrcHeld := [], asrcSince := [],
      asrcReset := [], asrcFed := [] }
  net := { ports := [], learned := [], rx := [], txNext := [] }
  links := []
  refs :=
    { href := [], ptp := [], coachSince := [], coachOk := [], prioSince := [], lockSince := none, freqHist := [],
      freq := 0, integ := 0, steeredAt := 0,
      lockedAt := none, pulses := [], safe := none, clockFails := 0, raise := none, lowSince := 0, vid := 3, vout := 800, pmbus := none }
  mem :=
    { devices := 8, rate := 8533, moved := [], bistAt := [], heldBursts := [], dram := [], chans := [], nextReq := 0, dramOut := ([], false), sram := [], spares := [], rgn := [],
      remap := false, remapBusy := false, xbarOut := (0, []), mapDirty := false }
  twin :=
    { driving := false, silentCourier := 0, silentPair := 0, everHeard := false, joinedAt := 0, partnerRole := 0,
      heartRound := 0, asrcRound := 0, digests := [], partnerDigests := [], run := 0, mismatchAt := 0,
      watchdog := true, resyncStep := 0, verified := 0, firstMatch := 0, window := none, won := false, cause := 0,
      present := false, handed := true, recover := false, penaltyAt := [], courier := [], sent := [], alarms := [],
      nextFid := 1, got := [], bulk := [], bulkOut := [], refs := [], frozen := none, slots := [], handAt := none, hbOut := none }
  psc := []
  sys :=
    { pdWait := [], retained := [], autosaveAt := none, settingsDirty := false, faultSince := 0, updImage := [],
      actFrom := 0, actStep := 0, rampAt := 0, challenge := [], badTokens := 0, scope := none, tdo := [],
      powered := true, rails := [], flashReset := 10000, saveAt := none }
  flash :=
    { settings := [], boot := [], slotA := .delivered, slotB := .empty, verifyCut := false, repair := [], ownerHash := none, ownerReq := false,
      debugOff := false, fuses := 0 }
  free := 0
  pending := []

/-- The faults of the model: none. Every stop of the engine is a mode of the engine (FAULT, SAFE_HOLD, BOOT, OFF),
so a meaning always answers a next state. The type has the one constructor that the interface needs; no meaning
raises it (safe). -/
inductive Fault where
  /-- Raised by no meaning. -/
  | never
deriving DecidableEq, Repr

/-- The refusals of the model. -/
inductive Refusal where
  /-- A command whose meaning is not written: raised by an arm of `exec` alone (safe). -/
  | notModelled (mnemonic : String)
deriving DecidableEq, Repr

end Sys2Proof.Machine
end

