-- ==== Sys2Proof/Machine/Flags.lean ====
section
/-! DEFINITION. The status register of a DSP core and every flag computation (R169, R212, R218). -/

namespace Sys2Proof.Machine

/-! ### Fields of SR (R169) -/

/-- Bit `i` of the status register. -/
def Core.flag (c : Core) (i : Nat) : Bool := c.sr.getLsbD i
def Core.fZ (c : Core) : Bool := c.flag 0
def Core.fN (c : Core) : Bool := c.flag 1
def Core.fC (c : Core) : Bool := c.flag 2
def Core.fV (c : Core) : Bool := c.flag 3
def Core.fSV (c : Core) : Bool := c.flag 8
/-- Whether any of `GV0`-`GV3` is set. -/
def Core.fGV (c : Core) : Bool := c.flag 4 || c.flag 5 || c.flag 6 || c.flag 7

/-- The status register with bit `i` set to `b`. -/
def setBit (sr : BitVec 16) (i : Nat) (b : Bool) : BitVec 16 :=
  if b then sr ||| (1#16 <<< i) else sr &&& ~~~(1#16 <<< i)

def Core.setFlag (c : Core) (i : Nat) (b : Bool) : Core := { c with sr := setBit c.sr i b }

/-- The bits of SR that a write changes: all but `LD` and the reserved bits (R210). -/
def srWritable : BitVec 16 := 0x01FF

/-- A write of SR by an instruction (R210). -/
def Core.writeSR (c : Core) (v : BitVec 16) : Core := { c with sr := (v &&& srWritable) ||| (c.sr &&& ~~~srWritable) }

/-- `LD` follows the number of open loops (R169, R223). -/
def Core.syncLD (c : Core) : Core :=
  { c with sr := (c.sr &&& ~~~(0x0E00 : BitVec 16)) ||| (BitVec.ofNat 16 c.loops.length <<< 9) }

/-! ### Conditions (R212) -/

/-- Whether a condition holds. -/
def Core.holds (c : Core) : Cond → Bool
  | .al => true
  | .eq => c.fZ
  | .ne => !c.fZ
  | .mi => c.fN
  | .pl => !c.fN
  | .cs => c.fC
  | .cc => !c.fC
  | .vs => c.fV
  | .nv => !c.fV
  | .gt => !c.fZ && (c.fN == c.fV)
  | .ge => c.fN == c.fV
  | .lt => c.fN != c.fV
  | .le => c.fZ || (c.fN != c.fV)
  | .ss => c.fSV
  | .gs => c.fGV

/-! ### Flag rules (R218) -/

/-- `Z` and `N` follow the result. -/
def Core.setZN (c : Core) (r : Word) : Core := (c.setFlag 0 (r == 0)).setFlag 1 r.msb

/-- `V` as given. -/
def Core.setFV (c : Core) (v : Bool) : Core := c.setFlag 3 v
/-- `C` as given. -/
def Core.setFC (c : Core) (b : Bool) : Core := c.setFlag 2 b
/-- `SV` is set where `b`, and stays otherwise (R169). -/
def Core.raiseSV (c : Core) (b : Bool) : Core := if b then c.setFlag 8 true else c
/-- `GVn` is set where `b`, and stays otherwise (R183). -/
def Core.raiseGV (c : Core) (n : Acc) (b : Bool) : Core := if b then c.setFlag (4 + n.val) true else c

/-- Whether an integer lies outside the signed 32-bit range. -/
def out32 (z : Int) : Bool := decide (z < -2147483648) || decide (2147483647 < z)

/-- An exact result brought to 32 bits (R218): clamped where `S` is set and it leaves the range, wrapped otherwise. -/
def clip32 (s : Bool) (z : Int) : Word :=
  if s && out32 z then (if z < 0 then 0x80000000 else 0x7FFFFFFF) else BitVec.ofInt 32 z

/-- Half-to-even rounding of `z / 2^n` to an integer (R186). -/
def roundShift (z : Int) (n : Nat) : Int :=
  let q := z / (2 ^ n : Nat)
  let r := z % (2 ^ n : Nat)
  if 2 * r < (2 ^ n : Nat) then q
  else if (2 ^ n : Nat) < 2 * r then q + 1
  else if q % 2 = 0 then q else q + 1

end Sys2Proof.Machine
end

