-- ==== Sys2Proof/Machine/Elements.lean ====
section
/-! DEFINITION. The object dictionary's shape (R240 to R244): every element of every object table of the manual, with
its type code, access, default, range and modes, and the address of each element by its name. -/

namespace Sys2Proof.Machine

/-- The access kinds of R242. -/
inductive Access where | ro | rw | raw | wo
deriving DecidableEq, Repr

/-- The Default column (R244): a number, a string of zero bytes, or a value that depends on variant, die or index. -/
inductive Dflt where
  | int (z : Int)
  | zeros (n : Nat)
  | special
deriving DecidableEq, Repr

/-- One row of an object table: the objects and elements it covers (elements `eLo`, `eLo + eStep`, up to `eHi`), its
type code (R241), access (R242), default (R244), the ranges of its values, and its modes as a bit set (R243). -/
structure Elem where
  oLo : Nat
  oHi : Nat
  eLo : Nat
  eHi : Nat
  eStep : Nat
  ty : Nat
  acc : Access
  dflt : Dflt
  rng : List (Int × Int)
  modes : Nat
deriving DecidableEq, Repr

/-- The area of input strips and of bus strips (R240). -/
def stripArea (bus : Bool) : Nat := if bus then 0x11 else 0x10

/-! ### The tables, by area -/

/-- Elements of area 00. -/
def elems00 : List Elem := [
  /- feature_map -/ ⟨16, 16, 0, 0, 1, 5, .ro, .special, [(0, 18446744073709551615)], 0⟩,
  /- vendor -/ ⟨0, 0, 0, 0, 1, 13, .ro, .special, [], 0⟩,
  /- device_code -/ ⟨0, 0, 1, 1, 1, 3, .ro, .special, [(0, 65535)], 0⟩,
  /- stepping -/ ⟨0, 0, 2, 2, 1, 2, .ro, .special, [(0, 255)], 0⟩,
  /- die_id -/ ⟨0, 0, 3, 3, 1, 5, .ro, .special, [(0, 18446744073709551615)], 0⟩,
  /- fw_version -/ ⟨0, 0, 4, 4, 1, 4, .ro, .special, [(0, 31)], 0⟩,
  /- settings_format -/ ⟨0, 0, 5, 5, 1, 3, .ro, .special, [(0, 65535)], 0⟩,
  /- bop_version -/ ⟨0, 0, 6, 6, 1, 3, .ro, .int 1, [(0, 65535)], 0⟩,
  /- engine_number -/ ⟨32, 32, 0, 0, 1, 3, .rw, .int 0, [(0, 4095)], 16⟩,
  /- engine_label -/ ⟨32, 32, 1, 1, 1, 13, .rw, .zeros 32, [], 1520⟩]

/-- Elements of area 01. -/
def elems01 : List Elem := [
  /- lag_now -/ ⟨256, 256, 0, 0, 1, 4, .ro, .int 0, [(0, 4294967295)], 0⟩,
  /- lag_max -/ ⟨256, 256, 1, 1, 1, 4, .ro, .int 0, [(0, 4294967295)], 0⟩,
  /- late_rounds -/ ⟨256, 256, 2, 2, 1, 4, .ro, .int 0, [(0, 4294967295)], 0⟩,
  /- repeated_smp -/ ⟨256, 256, 3, 3, 1, 5, .ro, .int 0, [(0, 18446744073709551615)], 0⟩,
  /- shed_rounds -/ ⟨256, 256, 4, 4, 1, 4, .ro, .int 0, [(0, 4294967295)], 0⟩,
  /- catchups -/ ⟨256, 256, 5, 5, 1, 4, .ro, .int 0, [(0, 4294967295)], 0⟩,
  /- phase_end_1 -/ ⟨256, 256, 8, 11, 1, 3, .ro, .int 0, [(0, 65535)], 0⟩,
  /- shed_enable -/ ⟨256, 256, 13, 13, 1, 1, .rw, .int 1, [(0, 1)], 1520⟩,
  /- sched_clear -/ ⟨256, 256, 15, 15, 1, 1, .wo, .int 0, [(0, 1)], 1520⟩,
  /- disagree_count -/ ⟨512, 512, 0, 0, 1, 4, .ro, .int 0, [(0, 4294967295)], 0⟩,
  /- disagree_last -/ ⟨512, 512, 1, 1, 1, 4, .ro, .int 0, [(0, 4294967295)], 0⟩,
  /- disagree_clear -/ ⟨512, 512, 15, 15, 1, 1, .wo, .int 0, [(0, 1)], 1520⟩,
  /- mode -/ ⟨0, 0, 0, 0, 1, 2, .ro, .int 2, [(0, 255)], 0⟩,
  /- mode_request -/ ⟨0, 0, 1, 1, 1, 2, .wo, .int 0, [(0, 255)], 3568⟩,
  /- mode_prev -/ ⟨0, 0, 2, 2, 1, 2, .ro, .int 0, [(0, 255)], 0⟩,
  /- mode_time -/ ⟨0, 0, 3, 3, 1, 4, .ro, .int 0, [(0, 4294967295)], 0⟩,
  /- boot_status -/ ⟨0, 0, 4, 4, 1, 2, .ro, .int 0, [(0, 255)], 0⟩,
  /- boot_slot -/ ⟨0, 0, 5, 5, 1, 2, .ro, .int 0, [(0, 1)], 0⟩,
  /- boot_fallback -/ ⟨0, 0, 6, 6, 1, 1, .ro, .int 0, [(0, 1)], 0⟩,
  /- reset_cause -/ ⟨0, 0, 7, 7, 1, 2, .ro, .int 1, [(0, 255)], 0⟩,
  /- reset_request -/ ⟨0, 0, 8, 8, 1, 1, .wo, .int 0, [(0, 1)], 3568⟩,
  /- boot_auto_run -/ ⟨0, 0, 9, 9, 1, 1, .rw, .int 0, [(0, 1)], 1040⟩,
  /- fault_cause -/ ⟨0, 0, 10, 10, 1, 2, .ro, .int 0, [(0, 255)], 0⟩,
  /- fault_record -/ ⟨0, 0, 11, 11, 1, 14, .ro, .zeros 0, [], 0⟩,
  /- fault_auto_reset -/ ⟨0, 0, 12, 12, 1, 3, .rw, .int 0, [(0, 3600)], 1520⟩]

/-- Elements of area 02. -/
def elems02 : List Elem := [
  /- bop_udp_port -/ ⟨0, 0, 0, 0, 1, 3, .rw, .int 47100, [(1024, 65535)], 16⟩,
  /- bop_ports -/ ⟨0, 0, 1, 1, 1, 2, .rw, .int 1, [(0, 15)], 16⟩,
  /- bop_dscp -/ ⟨0, 0, 2, 2, 1, 2, .rw, .int 34, [(0, 63)], 1520⟩,
  /- bop_max_msg -/ ⟨0, 0, 3, 3, 1, 3, .rw, .int 1472, [(256, 8192)], 16⟩,
  /- sess_timeout -/ ⟨0, 0, 4, 4, 1, 3, .rw, .int 60, [(5, 3600)], 1520⟩,
  /- bop_tag_fails -/ ⟨0, 0, 8, 8, 1, 4, .ro, .int 0, [(0, 4294967295)], 0⟩,
  /- bop_stale -/ ⟨0, 0, 9, 9, 1, 4, .ro, .int 0, [(0, 4294967295)], 0⟩,
  /- bop_bad -/ ⟨0, 0, 10, 10, 1, 4, .ro, .int 0, [(0, 4294967295)], 0⟩,
  /- bop_busy -/ ⟨0, 0, 11, 11, 1, 4, .ro, .int 0, [(0, 4294967295)], 0⟩,
  /- bop_foreign -/ ⟨0, 0, 12, 12, 1, 4, .ro, .int 0, [(0, 4294967295)], 0⟩,
  /- bop_clear -/ ⟨0, 0, 15, 15, 1, 1, .wo, .int 0, [(0, 1)], 1520⟩,
  /- session_open -/ ⟨1, 1, 0, 0, 1, 5, .wo, .int 0, [(0, 18446744073709551615)], 4080⟩,
  /- session_close -/ ⟨1, 1, 1, 1, 1, 1, .wo, .int 0, [(0, 1)], 4080⟩,
  /- session_self -/ ⟨1, 1, 2, 2, 1, 3, .ro, .int 0, [(0, 65535)], 0⟩,
  /- key_role -/ ⟨256, 287, 0, 0, 1, 2, .rw, .int 0, [(0, 4)], 1040⟩,
  /- key_value -/ ⟨256, 287, 1, 1, 1, 14, .wo, .zeros 0, [], 1040⟩,
  /- key_state -/ ⟨256, 287, 2, 2, 1, 2, .ro, .int 0, [(0, 1)], 0⟩,
  /- key_sessions -/ ⟨256, 287, 3, 3, 1, 2, .ro, .int 0, [(0, 255)], 0⟩,
  /- sess_state -/ ⟨512, 575, 0, 0, 1, 2, .ro, .int 0, [(0, 1)], 0⟩,
  /- sess_slot -/ ⟨512, 575, 1, 1, 1, 2, .ro, .int 0, [(0, 255)], 0⟩,
  /- sess_port -/ ⟨512, 575, 2, 2, 1, 2, .ro, .int 0, [(0, 7)], 0⟩,
  /- sess_seq -/ ⟨512, 575, 3, 3, 1, 4, .ro, .int 0, [(0, 4294967295)], 0⟩,
  /- sess_subs -/ ⟨512, 575, 4, 4, 1, 3, .ro, .int 0, [(0, 65535)], 0⟩,
  /- sess_envelopes -/ ⟨512, 575, 5, 5, 1, 2, .ro, .int 0, [(0, 255)], 0⟩,
  /- grp_addr -/ ⟨768, 783, 0, 0, 1, 14, .rw, .zeros 0, [], 16⟩,
  /- grp_slot -/ ⟨768, 783, 1, 1, 1, 2, .rw, .int 0, [(0, 31)], 16⟩,
  /- grp_enable -/ ⟨768, 783, 2, 2, 1, 1, .rw, .int 0, [(0, 1)], 1520⟩]

/-- Elements of area 03. -/
def elems03 : List Elem := [
  /- fs_int -/ ⟨256, 256, 0, 0, 1, 2, .rw, .int 3, [(0, 5)], 16⟩,
  /- round_size -/ ⟨256, 256, 1, 1, 1, 2, .rw, .int 16, [(8, 8), (16, 16), (32, 32), (64, 64)], 16⟩,
  /- timeline_now -/ ⟨256, 256, 2, 2, 1, 11, .ro, .int 0, [(0, 18446744073709551615)], 0⟩,
  /- round_now -/ ⟨256, 256, 3, 3, 1, 5, .ro, .int 0, [(0, 18446744073709551615)], 0⟩,
  /- anchor_state -/ ⟨256, 256, 4, 4, 1, 2, .ro, .int 0, [(0, 2)], 0⟩,
  /- last_step -/ ⟨256, 256, 5, 5, 1, 6, .ro, .int 0, [(-2147483648, 2147483647)], 0⟩,
  /- step_count -/ ⟨256, 256, 6, 6, 1, 4, .ro, .int 0, [(0, 4294967295)], 0⟩,
  /- ptp_profile -/ ⟨0, 0, 0, 0, 1, 2, .rw, .int 0, [(0, 2)], 16⟩,
  /- ptp_domain -/ ⟨0, 0, 1, 1, 1, 2, .rw, .int 0, [(0, 127)], 16⟩,
  /- ptp_priority1 -/ ⟨0, 0, 2, 2, 1, 2, .rw, .int 128, [(0, 255)], 1520⟩,
  /- ptp_priority2 -/ ⟨0, 0, 3, 3, 1, 2, .rw, .int 128, [(0, 255)], 1520⟩,
  /- ptp_clock_class -/ ⟨0, 0, 4, 4, 1, 2, .rw, .int 248, [(6, 255)], 1520⟩,
  /- ptp_clock_id -/ ⟨0, 0, 5, 5, 1, 5, .ro, .special, [(0, 18446744073709551615)], 0⟩,
  /- ptp_time -/ ⟨0, 0, 6, 6, 1, 10, .ro, .int 0, [(0, 1208925819614629174706175)], 0⟩,
  /- time_set -/ ⟨0, 0, 7, 7, 1, 10, .wo, .int 0, [(0, 1208925819614629174706175)], 16⟩,
  /- ptp_q_class -/ ⟨0, 0, 8, 8, 1, 2, .rw, .int 248, [(0, 255)], 1520⟩,
  /- ptp_q_acc -/ ⟨0, 0, 9, 9, 1, 2, .rw, .int 254, [(0, 255)], 1520⟩,
  /- ptp_q_var -/ ⟨0, 0, 10, 10, 1, 3, .rw, .int 65535, [(0, 65535)], 1520⟩,
  /- ptp_dscp -/ ⟨0, 0, 11, 11, 1, 2, .rw, .int 46, [(0, 63)], 1520⟩,
  /- ptp_enable -/ ⟨16, 18, 0, 0, 1, 1, .rw, .int 0, [(0, 1)], 1520⟩,
  /- ptp_role -/ ⟨16, 18, 1, 1, 1, 2, .rw, .int 0, [(0, 2)], 1520⟩,
  /- ptp_log_sync -/ ⟨16, 18, 2, 2, 1, 6, .rw, .int (-3), [(-7, 1)], 16⟩,
  /- ptp_log_announce -/ ⟨16, 18, 3, 3, 1, 6, .rw, .int 1, [(-3, 4)], 16⟩,
  /- ptp_log_delay -/ ⟨16, 18, 4, 4, 1, 6, .rw, .int 0, [(-7, 5)], 16⟩,
  /- ptp_announce_to -/ ⟨16, 18, 5, 5, 1, 2, .rw, .int 3, [(2, 10)], 16⟩,
  /- ptp_transport -/ ⟨16, 18, 6, 6, 1, 2, .rw, .int 0, [(0, 2)], 16⟩,
  /- ptp_tx_lat -/ ⟨16, 18, 7, 7, 1, 4, .rw, .int 0, [(0, 1000000)], 16⟩,
  /- ptp_rx_lat -/ ⟨16, 18, 8, 8, 1, 4, .rw, .int 0, [(0, 1000000)], 16⟩,
  /- ptp_asym -/ ⟨16, 18, 9, 9, 1, 6, .rw, .int 0, [(-1000000, 1000000)], 1520⟩,
  /- ptp_state -/ ⟨16, 18, 16, 16, 1, 2, .ro, .int 1, [(0, 255)], 0⟩,
  /- ptp_offset -/ ⟨16, 18, 17, 17, 1, 6, .ro, .int 0, [(-2147483648, 2147483647)], 0⟩,
  /- ptp_mean_delay -/ ⟨16, 18, 18, 18, 1, 4, .ro, .int 0, [(0, 4294967295)], 0⟩,
  /- ptp_gm_id -/ ⟨16, 18, 19, 19, 1, 5, .ro, .int 0, [(0, 18446744073709551615)], 0⟩,
  /- ptp_gm_class -/ ⟨16, 18, 20, 20, 1, 2, .ro, .int 255, [(0, 255)], 0⟩,
  /- ptp_gm_acc -/ ⟨16, 18, 21, 21, 1, 2, .ro, .int 254, [(0, 255)], 0⟩,
  /- ptp_gm_var -/ ⟨16, 18, 22, 22, 1, 3, .ro, .int 65535, [(0, 65535)], 0⟩,
  /- ptp_losses -/ ⟨16, 18, 23, 23, 1, 4, .ro, .int 0, [(0, 4294967295)], 0⟩]

/-- Elements of area 04, part 1. -/
def elems04_1 : List Elem := [
  /- ref_prio0 -/ ⟨0, 0, 0, 7, 1, 2, .rw, .special, [(0, 255)], 1520⟩,
  /- ref_revertive -/ ⟨0, 0, 8, 8, 1, 1, .rw, .int 0, [(0, 1)], 1520⟩,
  /- ref_wtr -/ ⟨0, 0, 9, 9, 1, 3, .rw, .int 10, [(1, 3600)], 1520⟩,
  /- ref_q_coach -/ ⟨0, 0, 10, 10, 1, 2, .rw, .int 12, [(1, 12)], 1520⟩,
  /- dpll_bw_h -/ ⟨0, 0, 11, 11, 1, 3, .rw, .int 1000, [(10, 10000)], 1520⟩,
  /- dpll_bw_q -/ ⟨0, 0, 12, 12, 1, 3, .rw, .int 50, [(10, 10000)], 1520⟩,
  /- hold_avg -/ ⟨0, 0, 13, 13, 1, 3, .rw, .int 60, [(1, 3600)], 1520⟩,
  /- ref_selected -/ ⟨0, 0, 16, 16, 1, 2, .ro, .int 0, [(0, 255)], 0⟩,
  /- time_state -/ ⟨0, 0, 17, 17, 1, 2, .ro, .int 0, [(0, 255)], 0⟩,
  /- dpll_phase_err -/ ⟨0, 0, 18, 18, 1, 6, .ro, .int 0, [(-2147483648, 2147483647)], 0⟩,
  /- dpll_freq -/ ⟨0, 0, 19, 19, 1, 6, .ro, .int 0, [(-2147483648, 2147483647)], 0⟩,
  /- ref_switches -/ ⟨0, 0, 20, 20, 1, 4, .ro, .int 0, [(0, 4294967295)], 0⟩,
  /- href_num -/ ⟨257, 260, 0, 0, 1, 4, .rw, .int 1000000000, [(1, 4294967295)], 1520⟩,
  /- href_num -/ ⟨272, 295, 0, 0, 1, 4, .rw, .int 1000000000, [(1, 4294967295)], 1520⟩,
  /- href_den -/ ⟨257, 260, 1, 1, 1, 4, .rw, .special, [(1, 4294967295)], 1520⟩,
  /- href_den -/ ⟨272, 295, 1, 1, 1, 4, .rw, .special, [(1, 4294967295)], 1520⟩,
  /- href_offset -/ ⟨257, 260, 2, 2, 1, 6, .rw, .int 0, [(-500000000, 500000000)], 1520⟩,
  /- href_offset -/ ⟨272, 295, 2, 2, 1, 6, .rw, .int 0, [(-500000000, 500000000)], 1520⟩,
  /- href_edge -/ ⟨257, 260, 3, 3, 1, 2, .rw, .int 0, [(0, 1)], 1520⟩,
  /- href_edge -/ ⟨272, 295, 3, 3, 1, 2, .rw, .int 0, [(0, 1)], 1520⟩,
  /- href_accept -/ ⟨257, 260, 4, 4, 1, 3, .rw, .int 10, [(1, 1000)], 1520⟩,
  /- href_accept -/ ⟨272, 295, 4, 4, 1, 3, .rw, .int 10, [(1, 1000)], 1520⟩,
  /- href_accept_time -/ ⟨257, 260, 5, 5, 1, 3, .rw, .int 2, [(1, 60)], 1520⟩,
  /- href_accept_time -/ ⟨272, 295, 5, 5, 1, 3, .rw, .int 2, [(1, 60)], 1520⟩,
  /- href_reject -/ ⟨257, 260, 6, 6, 1, 3, .rw, .int 50, [(1, 1000)], 1520⟩,
  /- href_reject -/ ⟨272, 295, 6, 6, 1, 3, .rw, .int 50, [(1, 1000)], 1520⟩,
  /- href_missing -/ ⟨257, 260, 7, 7, 1, 2, .rw, .int 3, [(1, 16)], 1520⟩,
  /- href_missing -/ ⟨272, 295, 7, 7, 1, 2, .rw, .int 3, [(1, 16)], 1520⟩,
  /- href_state -/ ⟨257, 260, 16, 16, 1, 2, .ro, .int 0, [(0, 3)], 0⟩,
  /- href_state -/ ⟨272, 295, 16, 16, 1, 2, .ro, .int 0, [(0, 3)], 0⟩,
  /- href_freq_err -/ ⟨257, 260, 17, 17, 1, 6, .ro, .int 0, [(-2147483648, 2147483647)], 0⟩,
  /- href_freq_err -/ ⟨272, 295, 17, 17, 1, 6, .ro, .int 0, [(-2147483648, 2147483647)], 0⟩,
  /- href_phase -/ ⟨257, 260, 18, 18, 1, 6, .ro, .int 0, [(-2147483648, 2147483647)], 0⟩,
  /- href_phase -/ ⟨272, 295, 18, 18, 1, 6, .ro, .int 0, [(-2147483648, 2147483647)], 0⟩,
  /- po_enable -/ ⟨512, 516, 0, 0, 1, 1, .rw, .int 0, [(0, 1)], 1520⟩,
  /- po_num -/ ⟨512, 516, 1, 1, 1, 4, .rw, .int 1000000000, [(1, 4294967295)], 1520⟩,
  /- po_den -/ ⟨512, 516, 2, 2, 1, 4, .rw, .special, [(1, 4294967295)], 1520⟩,
  /- po_align -/ ⟨512, 516, 3, 3, 1, 2, .rw, .int 0, [(0, 4)], 1520⟩,
  /- po_offset -/ ⟨512, 516, 4, 4, 1, 6, .rw, .int 0, [(-500000000, 500000000)], 1520⟩,
  /- po_width -/ ⟨512, 516, 5, 5, 1, 4, .rw, .int 0, [(0, 4294967295)], 1520⟩]

/-- Elements of area 04, part 2. -/
def elems04_2 : List Elem := [
  /- po_state -/ ⟨512, 516, 16, 16, 1, 2, .ro, .int 0, [(0, 2)], 0⟩,
  /- clk_base -/ ⟨768, 768, 0, 0, 1, 2, .rw, .int 0, [(0, 1)], 16⟩,
  /- clk_state -/ ⟨768, 768, 1, 1, 1, 3, .ro, .int 0, [(0, 65535)], 0⟩,
  /- clk_safe_count -/ ⟨768, 768, 2, 2, 1, 4, .ro, .int 0, [(0, 4294967295)], 0⟩,
  /- clk_safe_cause -/ ⟨768, 768, 3, 3, 1, 2, .ro, .int 0, [(0, 9)], 0⟩,
  /- clk_safe_time -/ ⟨768, 768, 4, 4, 1, 4, .ro, .int 0, [(0, 4294967295)], 0⟩,
  /- dvfs_min -/ ⟨1024, 1024, 0, 0, 1, 2, .rw, .int 0, [(0, 3)], 1520⟩,
  /- dvfs_max -/ ⟨1024, 1024, 1, 1, 1, 2, .rw, .int 3, [(0, 3)], 1520⟩,
  /- dvfs_if -/ ⟨1024, 1024, 2, 2, 1, 2, .rw, .int 0, [(0, 1)], 16⟩,
  /- dvfs_pmbus_addr -/ ⟨1024, 1024, 3, 3, 1, 2, .rw, .int 64, [(8, 119)], 16⟩,
  /- dvfs_settle -/ ⟨1024, 1024, 4, 4, 1, 3, .rw, .int 100, [(10, 5000)], 16⟩,
  /- dvfs_state -/ ⟨1024, 1024, 16, 16, 1, 2, .ro, .int 0, [(0, 1)], 0⟩,
  /- dvfs_point -/ ⟨1024, 1024, 17, 17, 1, 2, .ro, .int 3, [(0, 3)], 0⟩,
  /- dvfs_changes -/ ⟨1024, 1024, 18, 18, 1, 4, .ro, .int 0, [(0, 4294967295)], 0⟩,
  /- dvfs_errors -/ ⟨1024, 1024, 19, 19, 1, 4, .ro, .int 0, [(0, 4294967295)], 0⟩]

/-- Elements of area 04. -/
def elems04 : List Elem := elems04_1 ++ elems04_2

/-- Elements of area 05. -/
def elems05 : List Elem := [
  /- port_enable -/ ⟨0, 2, 0, 0, 1, 1, .rw, .special, [(0, 1)], 1520⟩,
  /- port_speed -/ ⟨0, 2, 1, 1, 1, 2, .rw, .special, [(0, 3)], 1520⟩,
  /- port_fec -/ ⟨0, 2, 2, 2, 1, 2, .rw, .int 0, [(0, 1)], 1520⟩,
  /- port_mac -/ ⟨0, 2, 3, 3, 1, 14, .rw, .special, [], 16⟩,
  /- port_ip4 -/ ⟨0, 2, 4, 4, 1, 14, .rw, .zeros 4, [], 16⟩,
  /- port_ip4_prefix -/ ⟨0, 2, 5, 5, 1, 2, .rw, .int 24, [(0, 32)], 16⟩,
  /- port_ip4_gw -/ ⟨0, 2, 6, 6, 1, 14, .rw, .zeros 4, [], 16⟩,
  /- port_ip6 -/ ⟨0, 2, 7, 7, 1, 14, .rw, .zeros 16, [], 16⟩,
  /- port_ip6_prefix -/ ⟨0, 2, 8, 8, 1, 2, .rw, .int 64, [(0, 128)], 16⟩,
  /- port_vlan -/ ⟨0, 2, 9, 9, 1, 3, .rw, .int 0, [(0, 4094)], 16⟩,
  /- port_eco -/ ⟨0, 2, 11, 11, 1, 1, .rw, .int 1, [(0, 1)], 1520⟩,
  /- port_phy_addr -/ ⟨0, 2, 12, 12, 1, 2, .rw, .int 0, [(0, 31)], 16⟩,
  /- port_link -/ ⟨0, 2, 16, 16, 1, 2, .ro, .int 0, [(0, 2)], 0⟩,
  /- port_rate_now -/ ⟨0, 2, 17, 17, 1, 4, .ro, .int 0, [(0, 4294967295)], 0⟩,
  /- port_rx_frames -/ ⟨0, 2, 18, 18, 1, 5, .ro, .int 0, [(0, 18446744073709551615)], 0⟩,
  /- port_tx_frames -/ ⟨0, 2, 19, 19, 1, 5, .ro, .int 0, [(0, 18446744073709551615)], 0⟩,
  /- port_runts -/ ⟨0, 2, 20, 20, 1, 4, .ro, .int 0, [(0, 4294967295)], 0⟩,
  /- port_fcs_err -/ ⟨0, 2, 21, 21, 1, 4, .ro, .int 0, [(0, 4294967295)], 0⟩,
  /- port_oversize -/ ⟨0, 2, 22, 22, 1, 4, .ro, .int 0, [(0, 4294967295)], 0⟩,
  /- port_tx_underruns -/ ⟨0, 2, 23, 23, 1, 4, .ro, .int 0, [(0, 4294967295)], 0⟩,
  /- port_stomped -/ ⟨0, 2, 24, 24, 1, 4, .ro, .int 0, [(0, 4294967295)], 0⟩,
  /- port_rx_drops -/ ⟨0, 2, 25, 25, 1, 4, .ro, .int 0, [(0, 4294967295)], 0⟩,
  /- port_load0 -/ ⟨0, 2, 26, 33, 1, 4, .ro, .int 0, [(0, 4294967295)], 0⟩,
  /- port_tx_drops -/ ⟨0, 2, 34, 34, 1, 4, .ro, .int 0, [(0, 4294967295)], 0⟩,
  /- port_clear -/ ⟨0, 2, 47, 47, 1, 1, .wo, .int 0, [(0, 1)], 1520⟩,
  /- net_mode -/ ⟨16, 16, 0, 0, 1, 2, .rw, .int 0, [(0, 1)], 16⟩,
  /- sw_age -/ ⟨16, 16, 1, 1, 1, 3, .rw, .int 300, [(10, 3600)], 1520⟩,
  /- sw_media_dscp -/ ⟨16, 16, 2, 2, 1, 2, .rw, .int 34, [(0, 63)], 1520⟩,
  /- sw_learned -/ ⟨16, 16, 3, 3, 1, 3, .ro, .int 0, [(0, 1024)], 0⟩,
  /- sw_forwarded -/ ⟨16, 16, 4, 4, 1, 5, .ro, .int 0, [(0, 18446744073709551615)], 0⟩,
  /- txr_priority -/ ⟨1024, 1215, 0, 0, 1, 2, .rw, .special, [(0, 7)], 16⟩,
  /- txr_shaper -/ ⟨1024, 1215, 1, 1, 1, 1, .rw, .int 0, [(0, 1)], 16⟩,
  /- txr_idle_slope -/ ⟨1024, 1215, 2, 2, 1, 4, .rw, .int 0, [(0, 18750000)], 16⟩,
  /- txr_threshold -/ ⟨1024, 1215, 3, 3, 1, 3, .ro, .int 256, [(256, 9216)], 0⟩,
  /- txr_threshold_reset -/ ⟨1024, 1215, 4, 4, 1, 1, .wo, .int 0, [(0, 1)], 1520⟩,
  /- txr_frames -/ ⟨1024, 1215, 5, 5, 1, 5, .ro, .int 0, [(0, 18446744073709551615)], 0⟩,
  /- txr_underruns -/ ⟨1024, 1215, 6, 6, 1, 4, .ro, .int 0, [(0, 4294967295)], 0⟩]

/-- Elements of area 06, part 1. -/
def elems06_1 : List Elem := [
  /- rx_enable -/ ⟨0, 511, 0, 0, 1, 1, .raw, .int 0, [(0, 1)], 1520⟩,
  /- rx_format -/ ⟨0, 511, 1, 1, 1, 2, .rw, .int 1, [(0, 2)], 1520⟩,
  /- rx_channels -/ ⟨0, 511, 2, 2, 1, 2, .rw, .int 2, [(1, 64)], 1520⟩,
  /- rx_rate -/ ⟨0, 511, 3, 3, 1, 2, .rw, .int 3, [(0, 5)], 1520⟩,
  /- rx_ptime -/ ⟨0, 511, 4, 4, 1, 2, .rw, .int 3, [(0, 4)], 1520⟩,
  /- rx_first -/ ⟨0, 511, 5, 5, 1, 3, .rw, .int 0, [(0, 2047)], 1520⟩,
  /- rx_domain -/ ⟨0, 511, 6, 6, 1, 2, .rw, .int 0, [(0, 1)], 1520⟩,
  /- rx_link_offset -/ ⟨0, 511, 7, 7, 1, 4, .rw, .int 96, [(0, 96000)], 1520⟩,
  /- rx_fill -/ ⟨0, 511, 8, 8, 1, 2, .rw, .int 0, [(0, 1)], 1520⟩,
  /- rx_pt -/ ⟨0, 511, 9, 9, 1, 2, .rw, .int 255, [(0, 127), (255, 255)], 1520⟩,
  /- rx_ssrc -/ ⟨0, 511, 10, 10, 1, 4, .rw, .int 0, [(0, 4294967295)], 1520⟩,
  /- rx_rtp_offset -/ ⟨0, 511, 11, 11, 1, 4, .rw, .int 0, [(0, 4294967295)], 1520⟩,
  /- rx_legs -/ ⟨0, 511, 12, 12, 1, 2, .rw, .int 1, [(0, 3)], 1520⟩,
  /- rx_jumbo -/ ⟨0, 511, 13, 13, 1, 1, .rw, .int 0, [(0, 1)], 1520⟩,
  /- rx_dst_a -/ ⟨0, 511, 16, 16, 1, 14, .rw, .zeros 16, [], 1520⟩,
  /- rx_port_a -/ ⟨0, 511, 17, 17, 1, 3, .rw, .int 5004, [(0, 65535)], 1520⟩,
  /- rx_src_a -/ ⟨0, 511, 18, 18, 1, 14, .rw, .zeros 16, [], 1520⟩,
  /- rx_dst_b -/ ⟨0, 511, 19, 19, 1, 14, .rw, .zeros 16, [], 1520⟩,
  /- rx_port_b -/ ⟨0, 511, 20, 20, 1, 3, .rw, .int 5004, [(0, 65535)], 1520⟩,
  /- rx_src_b -/ ⟨0, 511, 21, 21, 1, 14, .rw, .zeros 16, [], 1520⟩,
  /- rx_state -/ ⟨0, 511, 24, 24, 1, 2, .ro, .int 0, [(0, 3)], 0⟩,
  /- rx_packets_a -/ ⟨0, 511, 25, 25, 1, 4, .ro, .int 0, [(0, 4294967295)], 0⟩,
  /- rx_packets_b -/ ⟨0, 511, 26, 26, 1, 4, .ro, .int 0, [(0, 4294967295)], 0⟩,
  /- rx_missing_a -/ ⟨0, 511, 27, 27, 1, 4, .ro, .int 0, [(0, 4294967295)], 0⟩,
  /- rx_missing_b -/ ⟨0, 511, 28, 28, 1, 4, .ro, .int 0, [(0, 4294967295)], 0⟩,
  /- rx_replaced -/ ⟨0, 511, 29, 29, 1, 5, .ro, .int 0, [(0, 18446744073709551615)], 0⟩,
  /- rx_late -/ ⟨0, 511, 30, 30, 1, 4, .ro, .int 0, [(0, 4294967295)], 0⟩,
  /- rx_early -/ ⟨0, 511, 31, 31, 1, 4, .ro, .int 0, [(0, 4294967295)], 0⟩,
  /- rx_other -/ ⟨0, 511, 32, 32, 1, 4, .ro, .int 0, [(0, 4294967295)], 0⟩,
  /- rx_margin -/ ⟨0, 511, 33, 33, 1, 6, .ro, .int 0, [(-2147483648, 2147483647)], 0⟩,
  /- rx_clear -/ ⟨0, 511, 47, 47, 1, 1, .wo, .int 0, [(0, 1)], 1520⟩,
  /- tx_enable -/ ⟨512, 1023, 0, 0, 1, 1, .raw, .int 0, [(0, 1)], 1520⟩,
  /- tx_format -/ ⟨512, 1023, 1, 1, 1, 2, .rw, .int 1, [(0, 2)], 1520⟩,
  /- tx_channels -/ ⟨512, 1023, 2, 2, 1, 2, .rw, .int 2, [(1, 64)], 1520⟩,
  /- tx_ptime -/ ⟨512, 1023, 3, 3, 1, 2, .rw, .int 3, [(0, 4)], 1520⟩,
  /- tx_first -/ ⟨512, 1023, 4, 4, 1, 3, .rw, .int 0, [(0, 2047)], 1520⟩,
  /- tx_ring -/ ⟨512, 1023, 5, 5, 1, 2, .rw, .int 4, [(4, 63)], 1520⟩,
  /- tx_dscp -/ ⟨512, 1023, 6, 6, 1, 2, .rw, .int 34, [(0, 63)], 1520⟩,
  /- tx_pt -/ ⟨512, 1023, 7, 7, 1, 2, .rw, .int 97, [(96, 127)], 1520⟩,
  /- tx_ssrc -/ ⟨512, 1023, 8, 8, 1, 4, .rw, .int 0, [(0, 4294967295)], 1520⟩]

/-- Elements of area 06, part 2. -/
def elems06_2 : List Elem := [
  /- tx_rtp_offset -/ ⟨512, 1023, 9, 9, 1, 4, .rw, .int 0, [(0, 4294967295)], 1520⟩,
  /- tx_seq_base -/ ⟨512, 1023, 10, 10, 1, 3, .rw, .int 0, [(0, 65535)], 1520⟩,
  /- tx_ttl -/ ⟨512, 1023, 11, 11, 1, 2, .rw, .int 64, [(1, 255)], 1520⟩,
  /- tx_legs -/ ⟨512, 1023, 12, 12, 1, 2, .rw, .int 1, [(0, 3)], 1520⟩,
  /- tx_jumbo -/ ⟨512, 1023, 13, 13, 1, 1, .rw, .int 0, [(0, 1)], 1520⟩,
  /- tx_dst_a -/ ⟨512, 1023, 16, 16, 1, 14, .rw, .zeros 16, [], 1520⟩,
  /- tx_port_a -/ ⟨512, 1023, 17, 17, 1, 3, .rw, .int 5004, [(0, 65535)], 1520⟩,
  /- tx_sport_a -/ ⟨512, 1023, 18, 18, 1, 3, .rw, .int 5004, [(0, 65535)], 1520⟩,
  /- tx_dst_b -/ ⟨512, 1023, 19, 19, 1, 14, .rw, .zeros 16, [], 1520⟩,
  /- tx_port_b -/ ⟨512, 1023, 20, 20, 1, 3, .rw, .int 5004, [(0, 65535)], 1520⟩,
  /- tx_sport_b -/ ⟨512, 1023, 21, 21, 1, 3, .rw, .int 5004, [(0, 65535)], 1520⟩,
  /- tx_cs -/ ⟨512, 1023, 22, 22, 1, 14, .rw, .zeros 23, [], 1520⟩,
  /- tx_state -/ ⟨512, 1023, 24, 24, 1, 2, .ro, .int 0, [(0, 2)], 0⟩,
  /- tx_packets_a -/ ⟨512, 1023, 25, 25, 1, 4, .ro, .int 0, [(0, 4294967295)], 0⟩,
  /- tx_packets_b -/ ⟨512, 1023, 26, 26, 1, 4, .ro, .int 0, [(0, 4294967295)], 0⟩,
  /- tx_wire_rate -/ ⟨512, 1023, 27, 27, 1, 4, .ro, .int 0, [(0, 4294967295)], 0⟩,
  /- tx_clear -/ ⟨512, 1023, 31, 31, 1, 1, .wo, .int 0, [(0, 1)], 1520⟩]

/-- Elements of area 06. -/
def elems06 : List Elem := elems06_1 ++ elems06_2

/-- Elements of area 07. -/
def elems07 : List Elem := [
  /- cl_enable -/ ⟨0, 3, 0, 0, 1, 1, .rw, .int 0, [(0, 1)], 1520⟩,
  /- cl_polarity -/ ⟨0, 3, 1, 1, 1, 2, .rw, .int 0, [(0, 3)], 16⟩,
  /- cl_tx_channels -/ ⟨0, 3, 2, 2, 1, 3, .rw, .int 0, [(0, 4096)], 16⟩,
  /- cl_fill -/ ⟨0, 3, 3, 3, 1, 2, .rw, .int 0, [(0, 1)], 1520⟩,
  /- cl_sum_wait -/ ⟨0, 3, 4, 4, 1, 2, .rw, .int 128, [(0, 192)], 1520⟩,
  /- cl_pair -/ ⟨0, 3, 5, 5, 1, 2, .rw, .int 255, [(0, 3), (255, 255)], 16⟩,
  /- cl_state -/ ⟨0, 3, 8, 8, 1, 2, .ro, .int 0, [(0, 255)], 0⟩,
  /- cl_refusal -/ ⟨0, 3, 9, 9, 1, 2, .ro, .int 0, [(0, 0)], 0⟩,
  /- cl_far_engine -/ ⟨0, 3, 10, 10, 1, 3, .ro, .int 65535, [(0, 65535)], 0⟩,
  /- cl_far_quality -/ ⟨0, 3, 11, 11, 1, 2, .ro, .int 15, [(0, 15)], 0⟩,
  /- cl_quality_out -/ ⟨0, 3, 12, 12, 1, 2, .ro, .int 15, [(1, 15)], 0⟩,
  /- cl_delay -/ ⟨0, 3, 13, 13, 1, 4, .ro, .int 0, [(0, 4294967295)], 0⟩,
  /- cl_offset -/ ⟨0, 3, 14, 14, 1, 6, .ro, .int 0, [(-2147483648, 2147483647)], 0⟩,
  /- cl_rx_channels -/ ⟨0, 3, 15, 15, 1, 3, .ro, .int 0, [(0, 65535)], 0⟩,
  /- cl_load -/ ⟨0, 3, 16, 16, 1, 2, .ro, .int 0, [(0, 255)], 0⟩,
  /- cl_crc_err -/ ⟨0, 3, 17, 17, 1, 4, .ro, .int 0, [(0, 4294967295)], 0⟩,
  /- cl_late -/ ⟨0, 3, 18, 18, 1, 4, .ro, .int 0, [(0, 4294967295)], 0⟩,
  /- cl_tunnel_drops -/ ⟨0, 3, 19, 19, 1, 4, .ro, .int 0, [(0, 4294967295)], 0⟩,
  /- cl_clear -/ ⟨0, 3, 31, 31, 1, 1, .wo, .int 0, [(0, 1)], 1520⟩,
  /- tg_id -/ ⟨256, 256, 0, 0, 1, 3, .rw, .int 0, [(0, 65535)], 16⟩,
  /- tg_map_crc -/ ⟨256, 256, 1, 1, 1, 4, .ro, .int 0, [(0, 4294967295)], 0⟩,
  /- db_role -/ ⟨512, 1023, 0, 0, 1, 2, .rw, .int 0, [(0, 2)], 16⟩,
  /- db_owner -/ ⟨512, 1023, 1, 1, 1, 3, .rw, .int 0, [(0, 4095)], 16⟩,
  /- db_depth -/ ⟨512, 1023, 2, 2, 1, 2, .rw, .int 1, [(1, 15)], 16⟩,
  /- db_hop -/ ⟨512, 1023, 3, 3, 1, 2, .rw, .int 1, [(0, 15)], 16⟩,
  /- db_dst -/ ⟨512, 1023, 4, 4, 1, 3, .rw, .int 65535, [(0, 65535)], 16⟩,
  /- db_uplink -/ ⟨512, 1023, 5, 5, 1, 2, .rw, .int 0, [(0, 15)], 16⟩,
  /- db_sat -/ ⟨512, 1023, 6, 6, 1, 4, .ro, .int 0, [(0, 4294967295)], 0⟩,
  /- db_missing -/ ⟨512, 1023, 7, 7, 1, 4, .ro, .int 0, [(0, 4294967295)], 0⟩]

/-- Elements of area 08, part 1. -/
def elems08_1 : List Elem := [
  /- sp_enable -/ ⟨0, 23, 0, 0, 1, 2, .rw, .int 0, [(0, 2)], 1520⟩,
  /- sp_format -/ ⟨0, 23, 1, 1, 1, 2, .rw, .int 0, [(0, 3)], 1520⟩,
  /- sp_clocking -/ ⟨0, 23, 2, 2, 1, 2, .rw, .int 0, [(0, 1)], 1520⟩,
  /- sp_domain -/ ⟨0, 23, 3, 3, 1, 2, .rw, .int 0, [(0, 1)], 1520⟩,
  /- sp_slots -/ ⟨0, 23, 4, 4, 1, 2, .rw, .int 2, [(1, 32)], 1520⟩,
  /- sp_width -/ ⟨0, 23, 5, 5, 1, 2, .rw, .int 32, [(16, 16), (24, 24), (32, 32)], 1520⟩,
  /- sp_frame_len -/ ⟨0, 23, 6, 6, 1, 3, .rw, .int 64, [(16, 1024)], 1520⟩,
  /- sp_offset -/ ⟨0, 23, 7, 7, 1, 2, .rw, .int 0, [(0, 63)], 1520⟩,
  /- sp_fsync -/ ⟨0, 23, 8, 8, 1, 2, .rw, .int 0, [(0, 2), (4, 6)], 1520⟩,
  /- sp_bclk_edge -/ ⟨0, 23, 9, 9, 1, 2, .rw, .int 0, [(0, 1)], 1520⟩,
  /- sp_rx_mask -/ ⟨0, 23, 10, 10, 1, 4, .rw, .int 3, [(0, 4294967295)], 1520⟩,
  /- sp_tx_mask -/ ⟨0, 23, 11, 11, 1, 4, .rw, .int 3, [(0, 4294967295)], 1520⟩,
  /- sp_unused_out -/ ⟨0, 23, 12, 12, 1, 2, .rw, .int 0, [(0, 1)], 1520⟩,
  /- sp_rx_on -/ ⟨0, 23, 13, 13, 1, 4, .rw, .int 0, [(0, 4294967295)], 1520⟩,
  /- sp_tx_on -/ ⟨0, 23, 14, 14, 1, 4, .rw, .int 0, [(0, 4294967295)], 1520⟩,
  /- sp_zc_timeout -/ ⟨0, 23, 15, 15, 1, 3, .rw, .int 5, [(0, 1000)], 1520⟩,
  /- sp_apply_at -/ ⟨0, 23, 16, 16, 1, 11, .rw, .int 0, [(0, 18446744073709551615)], 480⟩,
  /- sp_cs_tx -/ ⟨0, 23, 17, 17, 1, 14, .rw, .zeros 23, [], 1520⟩,
  /- sp_state -/ ⟨0, 23, 24, 24, 1, 2, .ro, .int 0, [(0, 4)], 0⟩,
  /- sp_rate -/ ⟨0, 23, 25, 25, 1, 4, .ro, .int 0, [(0, 4294967295)], 0⟩,
  /- sp_slips -/ ⟨0, 23, 26, 26, 1, 4, .ro, .int 0, [(0, 4294967295)], 0⟩,
  /- sp_start_sample -/ ⟨0, 23, 27, 27, 1, 11, .ro, .int 0, [(0, 18446744073709551615)], 0⟩,
  /- sp_errors -/ ⟨0, 23, 28, 28, 1, 4, .ro, .int 0, [(0, 4294967295)], 0⟩,
  /- sp_cs_rx -/ ⟨0, 23, 29, 29, 1, 14, .ro, .zeros 0, [], 0⟩,
  /- sp_clear -/ ⟨0, 23, 31, 31, 1, 1, .wo, .int 0, [(0, 1)], 1520⟩,
  /- sap_start_ports -/ ⟨256, 256, 0, 0, 1, 4, .rw, .int 0, [(0, 4294967295)], 1520⟩,
  /- sap_start_src -/ ⟨256, 256, 1, 1, 1, 2, .rw, .int 0, [(0, 1)], 1520⟩,
  /- sap_start_at -/ ⟨256, 256, 2, 2, 1, 11, .rw, .int 0, [(0, 18446744073709551615)], 1520⟩,
  /- sap_start_arm -/ ⟨256, 256, 3, 3, 1, 1, .wo, .int 0, [(0, 1)], 1520⟩,
  /- sap_start_state -/ ⟨256, 256, 4, 4, 1, 2, .ro, .int 0, [(0, 2)], 0⟩,
  /- sap_start_sample -/ ⟨256, 256, 5, 5, 1, 11, .ro, .int 0, [(0, 18446744073709551615)], 0⟩,
  /- ring_dir -/ ⟨512, 527, 0, 0, 1, 2, .rw, .int 0, [(0, 2)], 1520⟩,
  /- ring_port -/ ⟨512, 527, 1, 1, 1, 2, .rw, .int 0, [(0, 255)], 1520⟩,
  /- ring_mask -/ ⟨512, 527, 2, 2, 1, 4, .rw, .int 3, [(1, 4294967295)], 1520⟩,
  /- ring_pack -/ ⟨512, 527, 3, 3, 1, 2, .rw, .int 0, [(0, 2)], 1520⟩,
  /- ring_base -/ ⟨512, 527, 4, 4, 1, 5, .rw, .int 0, [(0, 18446744073709551615)], 1520⟩,
  /- ring_frames -/ ⟨512, 527, 5, 5, 1, 4, .rw, .int 48000, [(1024, 16777216)], 1520⟩,
  /- ring_full -/ ⟨512, 527, 6, 6, 1, 2, .rw, .int 0, [(0, 1)], 1520⟩,
  /- ring_run -/ ⟨512, 527, 7, 7, 1, 2, .rw, .int 0, [(0, 2)], 1520⟩,
  /- ring_wr -/ ⟨512, 527, 8, 8, 1, 4, .rw, .int 0, [(0, 4294967295)], 1520⟩]

/-- Elements of area 08, part 2. -/
def elems08_2 : List Elem := [
  /- ring_rd -/ ⟨512, 527, 9, 9, 1, 4, .rw, .int 0, [(0, 4294967295)], 1520⟩,
  /- ring_state -/ ⟨512, 527, 10, 10, 1, 2, .ro, .int 0, [(0, 3)], 0⟩,
  /- ring_start_sample -/ ⟨512, 527, 11, 11, 1, 11, .ro, .int 0, [(0, 18446744073709551615)], 0⟩,
  /- ring_xruns -/ ⟨512, 527, 12, 12, 1, 4, .ro, .int 0, [(0, 4294967295)], 0⟩]

/-- Elements of area 08. -/
def elems08 : List Elem := elems08_1 ++ elems08_2

/-- Elements of area 09. -/
def elems09 : List Elem := [
  /- asrc_source -/ ⟨0, 255, 0, 0, 1, 12, .rw, .int 2147483648, [(0, 4294967295)], 1520⟩,
  /- asrc_group -/ ⟨0, 255, 1, 1, 1, 2, .rw, .int 0, [(0, 31)], 1520⟩,
  /- asrc_state -/ ⟨0, 255, 2, 2, 1, 2, .ro, .int 0, [(0, 3)], 0⟩,
  /- ag_source -/ ⟨256, 287, 0, 0, 1, 3, .rw, .int 65535, [(0, 23), (256, 767), (65535, 65535)], 1520⟩,
  /- ag_bandwidth -/ ⟨256, 287, 1, 1, 1, 3, .rw, .int 200, [(50, 1000)], 1520⟩,
  /- ag_state -/ ⟨256, 287, 2, 2, 1, 2, .ro, .int 0, [(0, 255)], 0⟩,
  /- ag_rate -/ ⟨256, 287, 3, 3, 1, 4, .ro, .int 0, [(0, 4294967295)], 0⟩,
  /- ag_ratio -/ ⟨256, 287, 4, 4, 1, 5, .ro, .int 0, [(0, 18446744073709551615)], 0⟩,
  /- ag_locks -/ ⟨256, 287, 5, 5, 1, 4, .ro, .int 0, [(0, 4294967295)], 0⟩,
  /- ag_unlocks -/ ⟨256, 287, 6, 6, 1, 4, .ro, .int 0, [(0, 4294967295)], 0⟩,
  /- ag_clear -/ ⟨256, 287, 15, 15, 1, 1, .wo, .int 0, [(0, 1)], 1520⟩]

/-- Elements of area 0A. -/
def elems0A : List Elem := [
  /- tw_enable -/ ⟨0, 0, 0, 0, 1, 1, .rw, .int 0, [(0, 1)], 16⟩,
  /- tw_rank -/ ⟨0, 0, 1, 1, 1, 2, .rw, .int 8, [(0, 15)], 1520⟩,
  /- tw_fail_rounds -/ ⟨0, 0, 2, 2, 1, 2, .rw, .int 3, [(2, 16)], 16⟩,
  /- tw_courier_wait -/ ⟨0, 0, 3, 3, 1, 2, .rw, .int 64, [(0, 128)], 1520⟩,
  /- tw_mismatch_limit -/ ⟨0, 0, 4, 4, 1, 3, .rw, .int 16, [(1, 1024)], 1520⟩,
  /- tw_alone_wait -/ ⟨0, 0, 5, 5, 1, 3, .rw, .int 2000, [(500, 60000)], 16⟩,
  /- tw_resync -/ ⟨0, 0, 6, 6, 1, 1, .wo, .int 0, [(0, 1)], 256⟩,
  /- tw_clear -/ ⟨0, 0, 15, 15, 1, 1, .wo, .int 0, [(0, 1)], 1520⟩,
  /- tw_role -/ ⟨0, 0, 16, 16, 1, 2, .ro, .int 0, [(0, 6)], 0⟩,
  /- tw_claim -/ ⟨0, 0, 17, 17, 1, 3, .ro, .int 0, [(0, 65535)], 0⟩,
  /- tw_partner_claim -/ ⟨0, 0, 18, 18, 1, 3, .ro, .int 0, [(0, 0)], 0⟩,
  /- tw_health -/ ⟨0, 0, 19, 19, 1, 2, .ro, .int 15, [(2, 15)], 0⟩,
  /- tw_penalties -/ ⟨0, 0, 20, 20, 1, 2, .ro, .int 0, [(0, 7)], 0⟩,
  /- tw_paths -/ ⟨0, 0, 21, 21, 1, 2, .ro, .int 0, [(0, 7)], 0⟩,
  /- tw_partner_engine -/ ⟨0, 0, 22, 22, 1, 3, .ro, .int 65535, [(0, 65535)], 0⟩,
  /- tw_refusal -/ ⟨0, 0, 23, 23, 1, 2, .ro, .int 0, [(0, 0)], 0⟩,
  /- tw_takeovers -/ ⟨0, 0, 24, 24, 1, 4, .ro, .int 0, [(0, 4294967295)], 0⟩,
  /- tw_mismatches -/ ⟨0, 0, 25, 25, 1, 4, .ro, .int 0, [(0, 4294967295)], 0⟩,
  /- tw_last_drove -/ ⟨0, 0, 26, 26, 1, 11, .ro, .int 0, [(0, 18446744073709551615)], 0⟩,
  /- tw_resync_progress -/ ⟨0, 0, 27, 27, 1, 2, .ro, .int 0, [(0, 100)], 0⟩,
  /- tw_resync_attempts -/ ⟨0, 0, 28, 28, 1, 2, .ro, .int 0, [(0, 255)], 0⟩]

/-- Elements of area 0B. -/
def elems0B : List Elem := [
  /- dram_channels -/ ⟨0, 0, 0, 0, 1, 2, .ro, .special, [(0, 255)], 0⟩,
  /- dram_ch_size -/ ⟨0, 0, 1, 1, 1, 2, .ro, .int 0, [(0, 255)], 0⟩,
  /- dram_rate -/ ⟨0, 0, 2, 2, 1, 3, .rw, .int 8533, [(6400, 6400), (7500, 7500), (8533, 8533)], 16⟩,
  /- dram_engine_segs -/ ⟨0, 0, 3, 3, 1, 2, .rw, .int 2, [(1, 4)], 16⟩,
  /- dram_user_size -/ ⟨0, 0, 4, 4, 1, 5, .ro, .int 0, [(0, 18446744073709551615)], 0⟩,
  /- dram_retain -/ ⟨0, 0, 5, 5, 1, 2, .rw, .int 192, [(0, 255)], 1520⟩,
  /- dram_retrain_ms -/ ⟨0, 0, 6, 6, 1, 3, .rw, .int 100, [(10, 1000)], 1520⟩,
  /- dram_scrub_hours -/ ⟨0, 0, 7, 7, 1, 2, .rw, .int 24, [(1, 168)], 1520⟩,
  /- dram_ce_limit -/ ⟨0, 0, 8, 8, 1, 2, .rw, .int 3, [(1, 255)], 1520⟩,
  /- dram_clear -/ ⟨0, 0, 15, 15, 1, 1, .wo, .int 0, [(0, 1)], 1520⟩,
  /- dc_ce -/ ⟨16, 19, 0, 0, 1, 4, .ro, .int 0, [(0, 4294967295)], 0⟩,
  /- dc_ue -/ ⟨16, 19, 1, 1, 1, 4, .ro, .int 0, [(0, 4294967295)], 0⟩,
  /- dc_load_exp -/ ⟨16, 19, 2, 2, 1, 2, .ro, .int 0, [(0, 255)], 0⟩,
  /- dc_load_first -/ ⟨16, 19, 3, 3, 1, 2, .ro, .int 0, [(0, 255)], 0⟩,
  /- dc_load_second -/ ⟨16, 19, 4, 4, 1, 2, .ro, .int 0, [(0, 255)], 0⟩,
  /- dc_load_bulk -/ ⟨16, 19, 5, 5, 1, 2, .ro, .int 0, [(0, 255)], 0⟩,
  /- dc_promoted -/ ⟨16, 19, 6, 6, 1, 4, .ro, .int 0, [(0, 4294967295)], 0⟩,
  /- dc_retrains -/ ⟨16, 19, 7, 7, 1, 4, .ro, .int 0, [(0, 4294967295)], 0⟩,
  /- dc_redirects -/ ⟨16, 19, 8, 8, 1, 2, .ro, .int 0, [(0, 255)], 0⟩,
  /- dc_repaired -/ ⟨16, 19, 9, 9, 1, 4, .ro, .int 0, [(0, 4294967295)], 0⟩,
  /- dc_waiting -/ ⟨16, 19, 10, 10, 1, 3, .ro, .int 0, [(0, 65535)], 0⟩,
  /- dm_size -/ ⟨256, 271, 0, 0, 1, 4, .rw, .special, [(0, 4294967295)], 16⟩,
  /- dm_grain -/ ⟨256, 271, 1, 1, 1, 2, .rw, .int 5, [(0, 7)], 16⟩,
  /- dm_channel -/ ⟨256, 271, 2, 2, 1, 2, .rw, .int 0, [(0, 3)], 16⟩,
  /- dram_win_addr -/ ⟨512, 512, 0, 0, 1, 5, .rw, .int 0, [(0, 18446744073709551615)], 1520⟩,
  /- dram_win_data -/ ⟨512, 512, 1, 1, 1, 14, .rw, .zeros 0, [], 1520⟩,
  /- bist_enable -/ ⟨768, 768, 0, 0, 1, 1, .rw, .int 1, [(0, 1)], 1520⟩,
  /- bist_period -/ ⟨768, 768, 1, 1, 1, 3, .rw, .int 1000, [(100, 60000)], 1520⟩,
  /- bist_regions -/ ⟨768, 768, 2, 2, 1, 5, .ro, .int 0, [(0, 18446744073709551615)], 0⟩,
  /- bist_repairs -/ ⟨768, 768, 3, 3, 1, 4, .ro, .int 0, [(0, 4294967295)], 0⟩,
  /- bist_unrepaired -/ ⟨768, 768, 4, 4, 1, 4, .ro, .int 0, [(0, 4294967295)], 0⟩,
  /- sram_ce -/ ⟨768, 768, 5, 5, 1, 4, .ro, .int 0, [(0, 4294967295)], 0⟩,
  /- fab_decode_err -/ ⟨1024, 1024, 0, 0, 1, 4, .ro, .int 0, [(0, 4294967295)], 0⟩,
  /- fab_decode_addr -/ ⟨1024, 1024, 1, 1, 1, 5, .ro, .int 0, [(0, 18446744073709551615)], 0⟩,
  /- fab_denied -/ ⟨1024, 1024, 2, 2, 1, 4, .ro, .int 0, [(0, 4294967295)], 0⟩,
  /- sram_clear -/ ⟨1024, 1024, 15, 15, 1, 1, .wo, .int 0, [(0, 1)], 1520⟩]

/-- Elements of area 0C. -/
def elems0C : List Elem := [
  /- pd_on -/ ⟨0, 19, 0, 0, 1, 1, .rw, .int 1, [(0, 1)], 1072⟩,
  /- pd_state -/ ⟨0, 19, 1, 1, 1, 2, .ro, .int 0, [(0, 2)], 0⟩,
  /- die_temp -/ ⟨256, 256, 0, 0, 1, 6, .ro, .int 0, [(-2147483648, 2147483647)], 0⟩,
  /- die_temp_max -/ ⟨256, 256, 1, 1, 1, 6, .ro, .int 0, [(-2147483648, 2147483647)], 0⟩,
  /- th_fault -/ ⟨256, 256, 2, 2, 1, 6, .rw, .int 1100, [(1000, 1250)], 1040⟩,
  /- pwr_est -/ ⟨256, 256, 3, 3, 1, 4, .ro, .int 0, [(0, 4294967295)], 0⟩,
  /- pwr_est_max -/ ⟨256, 256, 4, 4, 1, 4, .ro, .int 0, [(0, 4294967295)], 0⟩,
  /- th_clear -/ ⟨256, 256, 15, 15, 1, 1, .wo, .int 0, [(0, 1)], 1520⟩]

/-- Elements of area 0D. -/
def elems0D : List Elem := [
  /- upd_data -/ ⟨0, 0, 0, 0, 1, 14, .wo, .zeros 0, [], 1520⟩,
  /- upd_state -/ ⟨0, 0, 1, 1, 1, 2, .ro, .int 0, [(0, 6)], 0⟩,
  /- upd_fail -/ ⟨0, 0, 2, 2, 1, 2, .ro, .int 0, [(0, 0)], 0⟩,
  /- upd_progress -/ ⟨0, 0, 3, 3, 1, 2, .ro, .int 0, [(0, 100)], 0⟩,
  /- upd_verify -/ ⟨0, 0, 4, 4, 1, 1, .wo, .int 0, [(0, 1)], 1520⟩,
  /- upd_activate -/ ⟨0, 0, 5, 5, 1, 1, .wo, .int 0, [(0, 1)], 1200⟩,
  /- upd_confirm -/ ⟨0, 0, 6, 6, 1, 1, .wo, .int 0, [(0, 1)], 1520⟩,
  /- upd_abort -/ ⟨0, 0, 7, 7, 1, 1, .wo, .int 0, [(0, 1)], 1520⟩,
  /- slot_a_version -/ ⟨0, 0, 8, 8, 1, 4, .ro, .int 0, [(0, 0)], 0⟩,
  /- slot_b_version -/ ⟨0, 0, 9, 9, 1, 4, .ro, .int 0, [(0, 4294967295)], 0⟩,
  /- rollback_count -/ ⟨0, 0, 10, 10, 1, 2, .ro, .int 0, [(0, 64)], 0⟩,
  /- settings_save -/ ⟨256, 256, 0, 0, 1, 1, .wo, .int 0, [(0, 1)], 3568⟩,
  /- settings_autosave -/ ⟨256, 256, 1, 1, 1, 1, .rw, .int 1, [(0, 1)], 1520⟩,
  /- settings_seq -/ ⟨256, 256, 2, 2, 1, 4, .ro, .int 0, [(0, 4294967295)], 0⟩,
  /- settings_factory -/ ⟨256, 256, 3, 3, 1, 1, .wo, .int 0, [(0, 1)], 1040⟩,
  /- sec_owner_hash -/ ⟨512, 512, 0, 0, 1, 14, .wo, .zeros 0, [], 1024⟩,
  /- sec_owner_req -/ ⟨512, 512, 1, 1, 1, 1, .wo, .int 0, [(0, 1)], 1024⟩,
  /- sec_debug_off -/ ⟨512, 512, 2, 2, 1, 1, .wo, .int 0, [(0, 1)], 1024⟩,
  /- sec_fuses -/ ⟨512, 512, 3, 3, 1, 2, .ro, .int 0, [(0, 7)], 0⟩,
  /- dbg_state -/ ⟨512, 512, 4, 4, 1, 2, .ro, .int 0, [(0, 3)], 0⟩]

/-- Elements of area 0E. -/
def elems0E : List Elem := [
  /- log_next -/ ⟨0, 0, 0, 0, 1, 4, .ro, .int 0, [(0, 4294967295)], 0⟩,
  /- log_data -/ ⟨0, 0, 1, 1, 1, 14, .ro, .zeros 0, [], 0⟩,
  /- log_clear -/ ⟨0, 0, 2, 2, 1, 1, .wo, .int 0, [(0, 1)], 1520⟩,
  /- tg_type -/ ⟨256, 271, 0, 0, 1, 2, .raw, .int 0, [(0, 4)], 1520⟩,
  /- tg_freq -/ ⟨256, 271, 1, 1, 1, 4, .raw, .int 100000, [(0, 4294967295)], 1520⟩,
  /- tg_level -/ ⟨256, 271, 2, 2, 1, 9, .raw, .int (-2560), [(-12800, 0)], 1520⟩]

/-- Elements of area 10, part 1. -/
def elems10_1 : List Elem := [
  /- st_label -/ ⟨0, 1023, 0, 0, 1, 13, .rw, .zeros 32, [], 1520⟩,
  /- st_program -/ ⟨0, 1023, 1, 1, 1, 3, .raw, .int 257, [(257, 259), (513, 514)], 16⟩,
  /- st_in_primary -/ ⟨0, 1023, 2, 2, 1, 12, .raw, .int 2147483648, [(0, 4294967295)], 1520⟩,
  /- st_in_backup -/ ⟨0, 1023, 3, 3, 1, 12, .raw, .int 2147483648, [(0, 4294967295)], 1520⟩,
  /- st_trim -/ ⟨0, 1023, 4, 4, 1, 9, .rw, .int 0, [(-3072, 3072)], 1520⟩,
  /- st_polarity -/ ⟨0, 1023, 5, 5, 1, 1, .raw, .int 0, [(0, 1)], 1520⟩,
  /- st_delay -/ ⟨0, 1023, 6, 6, 1, 4, .rw, .int 0, [(0, 192000)], 1520⟩,
  /- hpf_freq -/ ⟨0, 1023, 7, 7, 1, 4, .rw, .int 2000, [(0, 4294967295)], 1520⟩,
  /- hpf_slope -/ ⟨0, 1023, 8, 8, 1, 2, .rw, .int 0, [(0, 4)], 1520⟩,
  /- lpf_freq -/ ⟨0, 1023, 9, 9, 1, 4, .rw, .int 1800000, [(0, 4294967295)], 1520⟩,
  /- lpf_slope -/ ⟨0, 1023, 10, 10, 1, 2, .rw, .int 0, [(0, 4)], 1520⟩,
  /- eq_type -/ ⟨0, 1023, 16, 44, 4, 2, .rw, .int 0, [(0, 6)], 1520⟩,
  /- eq_freq -/ ⟨0, 1023, 17, 45, 4, 4, .rw, .int 100000, [(0, 4294967295)], 1520⟩,
  /- eq_gain -/ ⟨0, 1023, 18, 46, 4, 9, .rw, .int 0, [(-2304, 2304)], 1520⟩,
  /- eq_q -/ ⟨0, 1023, 19, 47, 4, 3, .rw, .int 71, [(10, 2000)], 1520⟩,
  /- gate_mode -/ ⟨0, 1023, 48, 48, 1, 2, .rw, .int 0, [(0, 2)], 1520⟩,
  /- gate_threshold -/ ⟨0, 1023, 49, 49, 1, 9, .rw, .int (-5120), [(-10240, 0)], 1520⟩,
  /- gate_depth -/ ⟨0, 1023, 50, 50, 1, 9, .rw, .int (-10240), [(-10240, 0)], 1520⟩,
  /- gate_ratio -/ ⟨0, 1023, 51, 51, 1, 3, .rw, .int 200, [(100, 10000)], 1520⟩,
  /- gate_attack -/ ⟨0, 1023, 52, 52, 1, 3, .rw, .int 5, [(1, 1000)], 1520⟩,
  /- gate_hold -/ ⟨0, 1023, 53, 53, 1, 3, .rw, .int 50, [(0, 2000)], 1520⟩,
  /- gate_release -/ ⟨0, 1023, 54, 54, 1, 3, .rw, .int 200, [(5, 4000)], 1520⟩,
  /- gate_key -/ ⟨0, 1023, 55, 55, 1, 12, .raw, .int 2147483648, [(0, 4294967295)], 1520⟩,
  /- comp_on -/ ⟨0, 1023, 56, 56, 1, 1, .rw, .int 0, [(0, 1)], 1520⟩,
  /- comp_threshold -/ ⟨0, 1023, 57, 57, 1, 9, .rw, .int (-2560), [(-7680, 0)], 1520⟩,
  /- comp_ratio -/ ⟨0, 1023, 58, 58, 1, 3, .rw, .int 400, [(100, 10000)], 1520⟩,
  /- comp_knee -/ ⟨0, 1023, 59, 59, 1, 9, .rw, .int 768, [(0, 2560)], 1520⟩,
  /- comp_attack -/ ⟨0, 1023, 60, 60, 1, 3, .rw, .int 100, [(1, 1000)], 1520⟩,
  /- comp_release -/ ⟨0, 1023, 61, 61, 1, 3, .rw, .int 100, [(5, 4000)], 1520⟩,
  /- comp_makeup -/ ⟨0, 1023, 62, 62, 1, 9, .rw, .int 0, [(0, 3072)], 1520⟩,
  /- comp_key -/ ⟨0, 1023, 63, 63, 1, 12, .raw, .int 2147483648, [(0, 4294967295)], 1520⟩,
  /- fader -/ ⟨0, 1023, 64, 64, 1, 9, .rw, .int (-32768), [(-32768, -32768), (-12800, 1280)], 1520⟩,
  /- mute -/ ⟨0, 1023, 65, 65, 1, 1, .rw, .int 0, [(0, 1)], 1520⟩,
  /- pan -/ ⟨0, 1023, 66, 66, 1, 6, .rw, .int 0, [(-10000, 10000)], 1520⟩,
  /- width -/ ⟨0, 1023, 67, 67, 1, 3, .rw, .int 100, [(0, 200)], 1520⟩,
  /- st_out_ph -/ ⟨0, 1023, 68, 68, 1, 3, .raw, .int 65535, [(0, 65535)], 1520⟩,
  /- st_tap -/ ⟨0, 1023, 69, 69, 1, 2, .raw, .int 0, [(0, 3)], 1520⟩,
  /- ins_enable -/ ⟨0, 1023, 80, 80, 1, 1, .rw, .int 0, [(0, 1)], 1520⟩,
  /- ins_point -/ ⟨0, 1023, 81, 81, 1, 2, .raw, .int 0, [(0, 2)], 1520⟩,
  /- ins_return -/ ⟨0, 1023, 82, 82, 1, 12, .raw, .int 2147483648, [(0, 4294967295)], 1520⟩]

/-- Elements of area 10, part 2. -/
def elems10_2 : List Elem := [
  /- ins_send_level -/ ⟨0, 1023, 83, 83, 1, 9, .rw, .int 0, [(-32768, -32768), (-12800, 1280)], 1520⟩,
  /- ins_return_level -/ ⟨0, 1023, 84, 84, 1, 9, .rw, .int 0, [(-32768, -32768), (-12800, 1280)], 1520⟩,
  /- morph_time -/ ⟨0, 1023, 240, 240, 1, 3, .rw, .int 256, [(0, 0), (32, 4096)], 1520⟩,
  /- ramp_time -/ ⟨0, 1023, 241, 241, 1, 3, .rw, .int 64, [(0, 0), (32, 4096)], 1520⟩,
  /- ramp_shape -/ ⟨0, 1023, 242, 242, 1, 2, .rw, .int 0, [(0, 1)], 1520⟩,
  /- st_cycles -/ ⟨0, 1023, 248, 248, 1, 4, .ro, .int 0, [(0, 4294967295)], 0⟩,
  /- st_cycles_max -/ ⟨0, 1023, 249, 249, 1, 4, .ro, .int 0, [(0, 4294967295)], 0⟩,
  /- st_status -/ ⟨0, 1023, 255, 255, 1, 4, .ro, .int 0, [(0, 4294967295)], 0⟩]

/-- Elements of area 10. -/
def elems10 : List Elem := elems10_1 ++ elems10_2

/-- Elements of area 12. -/
def elems12 : List Elem := [
  /- xp_gain -/ ⟨0, 511, 0, 255, 1, 8, .rw, .int 0, [(-2147483648, 2147483647)], 1520⟩]

/-- Elements of area 1A. -/
def elems1A : List Elem := [
  /- src_signal -/ ⟨0, 2047, 0, 0, 1, 12, .raw, .int 2147483648, [(0, 4294967295)], 1520⟩,
  /- src_phase -/ ⟨0, 2047, 1, 1, 1, 2, .ro, .int 0, [(0, 255)], 0⟩,
  /- src_fb -/ ⟨0, 2047, 2, 2, 1, 3, .ro, .int 0, [(0, 65535)], 0⟩,
  /- src_label -/ ⟨0, 2047, 3, 3, 1, 13, .rw, .zeros 32, [], 1520⟩,
  /- dst_target -/ ⟨2048, 2559, 0, 0, 1, 4, .raw, .int 0, [(0, 4294967295)], 1520⟩,
  /- dst_pass -/ ⟨2048, 2559, 1, 1, 1, 2, .rw, .int 2, [(1, 2)], 1520⟩,
  /- dst_shift -/ ⟨2048, 2559, 2, 2, 1, 2, .rw, .int 0, [(0, 12)], 1520⟩,
  /- lim_lookahead -/ ⟨2048, 2559, 3, 3, 1, 2, .rw, .int 0, [(0, 0), (16, 16)], 16⟩,
  /- lim_enable -/ ⟨2048, 2559, 4, 4, 1, 1, .rw, .int 0, [(0, 1)], 1520⟩,
  /- lim_ceiling -/ ⟨2048, 2559, 5, 5, 1, 9, .rw, .int 0, [(-5120, 0)], 1520⟩,
  /- lim_release -/ ⟨2048, 2559, 6, 6, 1, 3, .rw, .int 50, [(1, 5000)], 1520⟩,
  /- xp_ramp_time -/ ⟨2048, 2559, 7, 7, 1, 3, .rw, .int 64, [(0, 0), (32, 4096)], 1520⟩,
  /- xp_ramp_shape -/ ⟨2048, 2559, 8, 8, 1, 2, .rw, .int 0, [(0, 1)], 1520⟩,
  /- dst_fb -/ ⟨2048, 2559, 9, 9, 1, 3, .ro, .int 0, [(0, 65535)], 0⟩,
  /- dst_label -/ ⟨2048, 2559, 10, 10, 1, 13, .rw, .zeros 32, [], 1520⟩,
  /- rd_state -/ ⟨3072, 3135, 0, 0, 1, 2, .ro, .int 0, [(0, 2)], 0⟩,
  /- rd_start -/ ⟨3072, 3135, 1, 1, 1, 11, .ro, .int 0, [(0, 18446744073709551615)], 0⟩,
  /- rd_length -/ ⟨3072, 3135, 2, 2, 1, 3, .ro, .int 0, [(32, 4096)], 0⟩,
  /- rd_shape -/ ⟨3072, 3135, 3, 3, 1, 2, .ro, .int 0, [(0, 255)], 0⟩,
  /- rd_members -/ ⟨3072, 3135, 4, 4, 1, 4, .ro, .int 0, [(0, 4294967295)], 0⟩,
  /- rd_in_use -/ ⟨3840, 3840, 0, 0, 1, 2, .ro, .int 0, [(0, 64)], 0⟩,
  /- rd_in_use_max -/ ⟨3840, 3840, 1, 1, 1, 2, .ro, .int 0, [(0, 64)], 0⟩,
  /- rd_refusals -/ ⟨3840, 3840, 2, 2, 1, 4, .ro, .int 0, [(0, 4294967295)], 0⟩,
  /- so_clear -/ ⟨3840, 3840, 3, 3, 1, 1, .wo, .int 0, [(0, 1)], 1520⟩]

/-- Elements of area 1B. -/
def elems1B : List Elem := [
  /- m_peak -/ ⟨0, 2559, 0, 0, 1, 9, .ro, .int (-32768), [(-32768, 32767)], 0⟩,
  /- m_tpeak -/ ⟨0, 2559, 1, 1, 1, 9, .ro, .int (-32768), [(-32768, 32767)], 0⟩,
  /- m_rms -/ ⟨0, 2559, 2, 2, 1, 9, .ro, .int (-32768), [(-32768, 32767)], 0⟩,
  /- m_hold -/ ⟨0, 2559, 3, 3, 1, 9, .ro, .int (-32768), [(-32768, 32767)], 0⟩,
  /- m_clips -/ ⟨0, 2559, 4, 4, 1, 4, .ro, .int 0, [(0, 4294967295)], 0⟩,
  /- m_gr -/ ⟨0, 2559, 5, 5, 1, 9, .ro, .int 0, [(-32768, 32767)], 0⟩,
  /- m_rms_window -/ ⟨0, 2559, 8, 8, 1, 3, .rw, .int 300, [(10, 3000)], 1520⟩,
  /- m_hold_time -/ ⟨0, 2559, 9, 9, 1, 3, .rw, .int 2000, [(0, 10000), (65535, 65535)], 1520⟩,
  /- m_clear -/ ⟨0, 2559, 10, 10, 1, 1, .wo, .int 0, [(0, 1)], 1520⟩,
  /- ld_point0 -/ ⟨3072, 3135, 0, 7, 1, 3, .rw, .int 65535, [(0, 65535)], 1520⟩,
  /- ld_weight0 -/ ⟨3072, 3135, 8, 15, 1, 2, .rw, .int 0, [(0, 2)], 1520⟩,
  /- ld_run -/ ⟨3072, 3135, 16, 16, 1, 2, .rw, .int 0, [(0, 2)], 1520⟩,
  /- ld_momentary -/ ⟨3072, 3135, 32, 32, 1, 9, .ro, .int (-32768), [(-32768, 32767)], 0⟩,
  /- ld_short -/ ⟨3072, 3135, 33, 33, 1, 9, .ro, .int (-32768), [(-32768, 32767)], 0⟩,
  /- ld_integrated -/ ⟨3072, 3135, 34, 34, 1, 9, .ro, .int (-32768), [(-32768, 32767)], 0⟩,
  /- ld_range -/ ⟨3072, 3135, 35, 35, 1, 9, .ro, .int 0, [(-32768, 32767)], 0⟩,
  /- ld_tp_max -/ ⟨3072, 3135, 36, 36, 1, 9, .ro, .int (-32768), [(-32768, 32767)], 0⟩,
  /- ld_time -/ ⟨3072, 3135, 37, 37, 1, 4, .ro, .int 0, [(0, 4294967295)], 0⟩,
  /- pub_period -/ ⟨3584, 3599, 0, 0, 1, 3, .rw, .int 0, [(0, 65535)], 1520⟩,
  /- pub_fields -/ ⟨3584, 3599, 1, 1, 1, 2, .rw, .int 1, [(0, 63)], 1520⟩,
  /- pub_points -/ ⟨3584, 3599, 2, 2, 1, 14, .rw, .zeros 0, [], 1520⟩,
  /- pub_merged -/ ⟨3584, 3599, 3, 3, 1, 4, .ro, .int 0, [(0, 4294967295)], 0⟩]

/-- Elements of area 1C. -/
def elems1C : List Elem := [
  /- disp_pending -/ ⟨0, 0, 0, 0, 1, 3, .ro, .int 0, [(0, 256)], 0⟩,
  /- disp_pending_max -/ ⟨0, 0, 1, 1, 1, 3, .ro, .int 0, [(0, 256)], 0⟩,
  /- disp_armed -/ ⟨0, 0, 2, 2, 1, 3, .ro, .int 0, [(0, 256)], 0⟩,
  /- disp_late -/ ⟨0, 0, 3, 3, 1, 4, .ro, .int 0, [(0, 4294967295)], 0⟩,
  /- disp_refused_past -/ ⟨0, 0, 4, 4, 1, 4, .ro, .int 0, [(0, 4294967295)], 0⟩,
  /- disp_withdrawn -/ ⟨0, 0, 5, 5, 1, 4, .ro, .int 0, [(0, 4294967295)], 0⟩,
  /- disp_moved -/ ⟨0, 0, 6, 6, 1, 4, .ro, .int 0, [(0, 4294967295)], 0⟩,
  /- env_open -/ ⟨0, 0, 7, 7, 1, 2, .ro, .int 0, [(0, 16)], 0⟩,
  /- env_discarded -/ ⟨0, 0, 8, 8, 1, 4, .ro, .int 0, [(0, 4294967295)], 0⟩,
  /- disp_clear -/ ⟨0, 0, 15, 15, 1, 1, .wo, .int 0, [(0, 1)], 1520⟩,
  /- pend_state -/ ⟨256, 511, 0, 0, 1, 2, .ro, .int 0, [(0, 3)], 0⟩,
  /- pend_kind -/ ⟨256, 511, 1, 1, 1, 2, .ro, .int 0, [(0, 2)], 0⟩,
  /- pend_scene -/ ⟨256, 511, 2, 2, 1, 3, .ro, .int 65535, [(0, 65535)], 0⟩,
  /- pend_sample -/ ⟨256, 511, 3, 3, 1, 11, .ro, .int 0, [(0, 18446744073709551615)], 0⟩,
  /- pend_values -/ ⟨256, 511, 4, 4, 1, 4, .ro, .int 0, [(0, 4294967295)], 0⟩,
  /- pend_flags -/ ⟨256, 511, 5, 5, 1, 2, .ro, .int 0, [(0, 7)], 0⟩,
  /- pend_cancel -/ ⟨256, 511, 6, 6, 1, 1, .wo, .int 0, [(0, 1)], 480⟩,
  /- scene_data -/ ⟨4096, 8191, 0, 0, 1, 14, .rw, .zeros 0, [], 1520⟩,
  /- scene_state -/ ⟨4096, 8191, 1, 1, 1, 2, .ro, .int 0, [(0, 2)], 0⟩,
  /- scene_length -/ ⟨4096, 8191, 2, 2, 1, 4, .ro, .int 0, [(0, 4294967295)], 0⟩,
  /- scene_values -/ ⟨4096, 8191, 3, 3, 1, 4, .ro, .int 0, [(0, 4294967295)], 0⟩,
  /- scene_crc -/ ⟨4096, 8191, 4, 4, 1, 4, .ro, .int 0, [(0, 4294967295)], 0⟩,
  /- scene_label -/ ⟨4096, 8191, 5, 5, 1, 13, .rw, .zeros 32, [], 1520⟩]

/-- Elements of area 1D, part 1. -/
def elems1D_1 : List Elem := [
  /- cl_state -/ ⟨256, 263, 0, 0, 1, 2, .ro, .int 0, [(0, 2)], 0⟩,
  /- cl_relief_state -/ ⟨256, 263, 1, 1, 1, 2, .ro, .int 0, [(0, 3)], 0⟩,
  /- cl_audit_enable -/ ⟨256, 263, 2, 2, 1, 1, .rw, .int 1, [(0, 1)], 1520⟩,
  /- cl_audit_core -/ ⟨256, 263, 3, 3, 1, 2, .ro, .int 0, [(0, 7)], 0⟩,
  /- cl_audits -/ ⟨256, 263, 4, 4, 1, 4, .ro, .int 0, [(0, 4294967295)], 0⟩,
  /- cl_audits_skipped -/ ⟨256, 263, 5, 5, 1, 4, .ro, .int 0, [(0, 4294967295)], 0⟩,
  /- cl_freq -/ ⟨256, 263, 6, 6, 1, 3, .ro, .int 0, [(0, 65535)], 0⟩,
  /- cl_store_rate -/ ⟨256, 263, 7, 7, 1, 2, .ro, .int 0, [(0, 255)], 0⟩,
  /- cl_clear -/ ⟨256, 263, 15, 15, 1, 1, .wo, .int 0, [(0, 1)], 1520⟩,
  /- core_state -/ ⟨512, 520, 0, 0, 1, 2, .ro, .int 0, [(0, 3)], 0⟩,
  /- core_state -/ ⟨528, 536, 0, 0, 1, 2, .ro, .int 0, [(0, 3)], 0⟩,
  /- core_state -/ ⟨544, 552, 0, 0, 1, 2, .ro, .int 0, [(0, 3)], 0⟩,
  /- core_state -/ ⟨560, 568, 0, 0, 1, 2, .ro, .int 0, [(0, 3)], 0⟩,
  /- core_state -/ ⟨576, 584, 0, 0, 1, 2, .ro, .int 0, [(0, 3)], 0⟩,
  /- core_state -/ ⟨592, 600, 0, 0, 1, 2, .ro, .int 0, [(0, 3)], 0⟩,
  /- core_state -/ ⟨608, 616, 0, 0, 1, 2, .ro, .int 0, [(0, 3)], 0⟩,
  /- core_state -/ ⟨624, 632, 0, 0, 1, 2, .ro, .int 0, [(0, 3)], 0⟩,
  /- core_carries -/ ⟨512, 520, 1, 1, 1, 2, .ro, .int 255, [(0, 255)], 0⟩,
  /- core_carries -/ ⟨528, 536, 1, 1, 1, 2, .ro, .int 255, [(0, 255)], 0⟩,
  /- core_carries -/ ⟨544, 552, 1, 1, 1, 2, .ro, .int 255, [(0, 255)], 0⟩,
  /- core_carries -/ ⟨560, 568, 1, 1, 1, 2, .ro, .int 255, [(0, 255)], 0⟩,
  /- core_carries -/ ⟨576, 584, 1, 1, 1, 2, .ro, .int 255, [(0, 255)], 0⟩,
  /- core_carries -/ ⟨592, 600, 1, 1, 1, 2, .ro, .int 255, [(0, 255)], 0⟩,
  /- core_carries -/ ⟨608, 616, 1, 1, 1, 2, .ro, .int 255, [(0, 255)], 0⟩,
  /- core_carries -/ ⟨624, 632, 1, 1, 1, 2, .ro, .int 255, [(0, 255)], 0⟩,
  /- core_retired_at -/ ⟨512, 520, 2, 2, 1, 11, .ro, .int 0, [(0, 18446744073709551615)], 0⟩,
  /- core_retired_at -/ ⟨528, 536, 2, 2, 1, 11, .ro, .int 0, [(0, 18446744073709551615)], 0⟩,
  /- core_retired_at -/ ⟨544, 552, 2, 2, 1, 11, .ro, .int 0, [(0, 18446744073709551615)], 0⟩,
  /- core_retired_at -/ ⟨560, 568, 2, 2, 1, 11, .ro, .int 0, [(0, 18446744073709551615)], 0⟩,
  /- core_retired_at -/ ⟨576, 584, 2, 2, 1, 11, .ro, .int 0, [(0, 18446744073709551615)], 0⟩,
  /- core_retired_at -/ ⟨592, 600, 2, 2, 1, 11, .ro, .int 0, [(0, 18446744073709551615)], 0⟩,
  /- core_retired_at -/ ⟨608, 616, 2, 2, 1, 11, .ro, .int 0, [(0, 18446744073709551615)], 0⟩,
  /- core_retired_at -/ ⟨624, 632, 2, 2, 1, 11, .ro, .int 0, [(0, 18446744073709551615)], 0⟩,
  /- core_audits_passed -/ ⟨512, 520, 3, 3, 1, 4, .ro, .int 0, [(0, 4294967295)], 0⟩,
  /- core_audits_passed -/ ⟨528, 536, 3, 3, 1, 4, .ro, .int 0, [(0, 4294967295)], 0⟩,
  /- core_audits_passed -/ ⟨544, 552, 3, 3, 1, 4, .ro, .int 0, [(0, 4294967295)], 0⟩,
  /- core_audits_passed -/ ⟨560, 568, 3, 3, 1, 4, .ro, .int 0, [(0, 4294967295)], 0⟩,
  /- core_audits_passed -/ ⟨576, 584, 3, 3, 1, 4, .ro, .int 0, [(0, 4294967295)], 0⟩,
  /- core_audits_passed -/ ⟨592, 600, 3, 3, 1, 4, .ro, .int 0, [(0, 4294967295)], 0⟩,
  /- core_audits_passed -/ ⟨608, 616, 3, 3, 1, 4, .ro, .int 0, [(0, 4294967295)], 0⟩]

/-- Elements of area 1D, part 2. -/
def elems1D_2 : List Elem := [
  /- core_audits_passed -/ ⟨624, 632, 3, 3, 1, 4, .ro, .int 0, [(0, 4294967295)], 0⟩,
  /- core_exceptions -/ ⟨512, 520, 4, 4, 1, 4, .ro, .int 0, [(0, 4294967295)], 0⟩,
  /- core_exceptions -/ ⟨528, 536, 4, 4, 1, 4, .ro, .int 0, [(0, 4294967295)], 0⟩,
  /- core_exceptions -/ ⟨544, 552, 4, 4, 1, 4, .ro, .int 0, [(0, 4294967295)], 0⟩,
  /- core_exceptions -/ ⟨560, 568, 4, 4, 1, 4, .ro, .int 0, [(0, 4294967295)], 0⟩,
  /- core_exceptions -/ ⟨576, 584, 4, 4, 1, 4, .ro, .int 0, [(0, 4294967295)], 0⟩,
  /- core_exceptions -/ ⟨592, 600, 4, 4, 1, 4, .ro, .int 0, [(0, 4294967295)], 0⟩,
  /- core_exceptions -/ ⟨608, 616, 4, 4, 1, 4, .ro, .int 0, [(0, 4294967295)], 0⟩,
  /- core_exceptions -/ ⟨624, 632, 4, 4, 1, 4, .ro, .int 0, [(0, 4294967295)], 0⟩,
  /- core_halted -/ ⟨512, 520, 5, 5, 1, 3, .ro, .int 0, [(0, 65535)], 0⟩,
  /- core_halted -/ ⟨528, 536, 5, 5, 1, 3, .ro, .int 0, [(0, 65535)], 0⟩,
  /- core_halted -/ ⟨544, 552, 5, 5, 1, 3, .ro, .int 0, [(0, 65535)], 0⟩,
  /- core_halted -/ ⟨560, 568, 5, 5, 1, 3, .ro, .int 0, [(0, 65535)], 0⟩,
  /- core_halted -/ ⟨576, 584, 5, 5, 1, 3, .ro, .int 0, [(0, 65535)], 0⟩,
  /- core_halted -/ ⟨592, 600, 5, 5, 1, 3, .ro, .int 0, [(0, 65535)], 0⟩,
  /- core_halted -/ ⟨608, 616, 5, 5, 1, 3, .ro, .int 0, [(0, 65535)], 0⟩,
  /- core_halted -/ ⟨624, 632, 5, 5, 1, 3, .ro, .int 0, [(0, 65535)], 0⟩,
  /- core_cycles -/ ⟨512, 520, 8, 8, 1, 4, .ro, .int 0, [(0, 4294967295)], 0⟩,
  /- core_cycles -/ ⟨528, 536, 8, 8, 1, 4, .ro, .int 0, [(0, 4294967295)], 0⟩,
  /- core_cycles -/ ⟨544, 552, 8, 8, 1, 4, .ro, .int 0, [(0, 4294967295)], 0⟩,
  /- core_cycles -/ ⟨560, 568, 8, 8, 1, 4, .ro, .int 0, [(0, 4294967295)], 0⟩,
  /- core_cycles -/ ⟨576, 584, 8, 8, 1, 4, .ro, .int 0, [(0, 4294967295)], 0⟩,
  /- core_cycles -/ ⟨592, 600, 8, 8, 1, 4, .ro, .int 0, [(0, 4294967295)], 0⟩,
  /- core_cycles -/ ⟨608, 616, 8, 8, 1, 4, .ro, .int 0, [(0, 4294967295)], 0⟩,
  /- core_cycles -/ ⟨624, 632, 8, 8, 1, 4, .ro, .int 0, [(0, 4294967295)], 0⟩,
  /- core_cycles_max -/ ⟨512, 520, 9, 9, 1, 4, .ro, .int 0, [(0, 4294967295)], 0⟩,
  /- core_cycles_max -/ ⟨528, 536, 9, 9, 1, 4, .ro, .int 0, [(0, 4294967295)], 0⟩,
  /- core_cycles_max -/ ⟨544, 552, 9, 9, 1, 4, .ro, .int 0, [(0, 4294967295)], 0⟩,
  /- core_cycles_max -/ ⟨560, 568, 9, 9, 1, 4, .ro, .int 0, [(0, 4294967295)], 0⟩,
  /- core_cycles_max -/ ⟨576, 584, 9, 9, 1, 4, .ro, .int 0, [(0, 4294967295)], 0⟩,
  /- core_cycles_max -/ ⟨592, 600, 9, 9, 1, 4, .ro, .int 0, [(0, 4294967295)], 0⟩,
  /- core_cycles_max -/ ⟨608, 616, 9, 9, 1, 4, .ro, .int 0, [(0, 4294967295)], 0⟩,
  /- core_cycles_max -/ ⟨624, 632, 9, 9, 1, 4, .ro, .int 0, [(0, 4294967295)], 0⟩,
  /- core_retire -/ ⟨512, 520, 14, 14, 1, 1, .wo, .int 0, [(0, 1)], 1248⟩,
  /- core_retire -/ ⟨528, 536, 14, 14, 1, 1, .wo, .int 0, [(0, 1)], 1248⟩,
  /- core_retire -/ ⟨544, 552, 14, 14, 1, 1, .wo, .int 0, [(0, 1)], 1248⟩,
  /- core_retire -/ ⟨560, 568, 14, 14, 1, 1, .wo, .int 0, [(0, 1)], 1248⟩,
  /- core_retire -/ ⟨576, 584, 14, 14, 1, 1, .wo, .int 0, [(0, 1)], 1248⟩,
  /- core_retire -/ ⟨592, 600, 14, 14, 1, 1, .wo, .int 0, [(0, 1)], 1248⟩,
  /- core_retire -/ ⟨608, 616, 14, 14, 1, 1, .wo, .int 0, [(0, 1)], 1248⟩]

/-- Elements of area 1D, part 3. -/
def elems1D_3 : List Elem := [
  /- core_retire -/ ⟨624, 632, 14, 14, 1, 1, .wo, .int 0, [(0, 1)], 1248⟩,
  /- core_restore -/ ⟨512, 520, 15, 15, 1, 1, .wo, .int 0, [(0, 1)], 1024⟩,
  /- core_restore -/ ⟨528, 536, 15, 15, 1, 1, .wo, .int 0, [(0, 1)], 1024⟩,
  /- core_restore -/ ⟨544, 552, 15, 15, 1, 1, .wo, .int 0, [(0, 1)], 1024⟩,
  /- core_restore -/ ⟨560, 568, 15, 15, 1, 1, .wo, .int 0, [(0, 1)], 1024⟩,
  /- core_restore -/ ⟨576, 584, 15, 15, 1, 1, .wo, .int 0, [(0, 1)], 1024⟩,
  /- core_restore -/ ⟨592, 600, 15, 15, 1, 1, .wo, .int 0, [(0, 1)], 1024⟩,
  /- core_restore -/ ⟨608, 616, 15, 15, 1, 1, .wo, .int 0, [(0, 1)], 1024⟩,
  /- core_restore -/ ⟨624, 632, 15, 15, 1, 1, .wo, .int 0, [(0, 1)], 1024⟩,
  /- img_data -/ ⟨16, 23, 0, 0, 1, 14, .rw, .zeros 0, [], 1520⟩,
  /- img_state -/ ⟨16, 23, 1, 1, 1, 2, .ro, .int 0, [(0, 3)], 0⟩,
  /- img_refusal -/ ⟨16, 23, 2, 2, 1, 3, .ro, .int 0, [(0, 65535)], 0⟩,
  /- img_error_at -/ ⟨16, 23, 3, 3, 1, 4, .ro, .int 0, [(0, 4294967295)], 0⟩,
  /- img_crc -/ ⟨16, 23, 4, 4, 1, 4, .ro, .int 0, [(0, 4294967295)], 0⟩,
  /- img_active_crc -/ ⟨16, 23, 5, 5, 1, 4, .ro, .int 0, [(0, 4294967295)], 0⟩,
  /- img_activate -/ ⟨16, 23, 6, 6, 1, 1, .wo, .int 0, [(0, 1)], 1520⟩,
  /- img_path -/ ⟨16, 23, 7, 7, 1, 4, .ro, .int 0, [(0, 4294967295)], 0⟩,
  /- img_rate -/ ⟨16, 23, 8, 8, 1, 3, .ro, .int 0, [(0, 15)], 0⟩,
  /- job_number -/ ⟨4096, 8191, 0, 0, 1, 4, .ro, .int 0, [(0, 4294967295)], 0⟩,
  /- job_flags -/ ⟨4096, 8191, 1, 1, 1, 2, .ro, .int 0, [(0, 7)], 0⟩,
  /- job_budget -/ ⟨4096, 8191, 2, 2, 1, 4, .ro, .int 0, [(0, 4294967295)], 0⟩,
  /- job_cycles -/ ⟨4096, 8191, 3, 3, 1, 4, .ro, .int 0, [(0, 4294967295)], 0⟩,
  /- job_cycles_max -/ ⟨4096, 8191, 4, 4, 1, 4, .ro, .int 0, [(0, 4294967295)], 0⟩,
  /- job_state -/ ⟨4096, 8191, 5, 5, 1, 2, .ro, .int 0, [(0, 3)], 0⟩,
  /- job_exception -/ ⟨4096, 8191, 6, 6, 1, 2, .ro, .int 0, [(0, 5)], 0⟩,
  /- job_exc_pc -/ ⟨4096, 8191, 7, 7, 1, 3, .ro, .int 0, [(0, 65535)], 0⟩,
  /- job_overflow_rounds -/ ⟨4096, 8191, 8, 8, 1, 4, .ro, .int 0, [(0, 4294967295)], 0⟩,
  /- job_clear -/ ⟨4096, 8191, 15, 15, 1, 1, .wo, .int 0, [(0, 1)], 1520⟩]

/-- Elements of area 1D. -/
def elems1D : List Elem := elems1D_1 ++ elems1D_2 ++ elems1D_3

/-- Elements of area 1E. -/
def elems1E : List Elem := [
  /- psc_on -/ ⟨0, 31, 0, 0, 1, 1, .rw, .int 0, [(0, 1)], 1520⟩,
  /- psc_profile -/ ⟨0, 31, 1, 1, 1, 2, .rw, .int 1, [(0, 1)], 16⟩,
  /- psc_vfs -/ ⟨0, 31, 2, 2, 1, 3, .rw, .int 5000, [(100, 20000)], 16⟩,
  /- psc_sv_scale -/ ⟨0, 31, 3, 3, 1, 3, .rw, .int 10000, [(100, 40000)], 16⟩,
  /- psc_si_scale -/ ⟨0, 31, 4, 4, 1, 3, .rw, .int 3000, [(100, 20000)], 16⟩,
  /- psc_filt_l -/ ⟨0, 31, 5, 5, 1, 3, .rw, .int 1000, [(100, 10000)], 16⟩,
  /- psc_filt_c -/ ⟨0, 31, 6, 6, 1, 3, .rw, .int 680, [(10, 10000)], 16⟩,
  /- psc_loop_bw -/ ⟨0, 31, 7, 7, 1, 3, .rw, .int 60, [(20, 120)], 16⟩,
  /- psc_dead -/ ⟨0, 31, 8, 8, 1, 3, .rw, .int 10000, [(2000, 50000)], 16⟩,
  /- psc_oc_blank -/ ⟨0, 31, 9, 9, 1, 3, .rw, .int 100, [(0, 500)], 16⟩,
  /- psc_model -/ ⟨0, 31, 10, 10, 1, 2, .rw, .int 255, [(0, 63), (255, 255)], 1520⟩,
  /- psc_test_on_start -/ ⟨0, 31, 11, 11, 1, 1, .rw, .int 1, [(0, 1)], 1520⟩,
  /- psc_r_min -/ ⟨0, 31, 12, 12, 1, 3, .rw, .int 2000, [(100, 65535)], 1520⟩,
  /- psc_r_max -/ ⟨0, 31, 13, 13, 1, 3, .rw, .int 50000, [(100, 65535)], 1520⟩,
  /- psc_soft -/ ⟨0, 31, 14, 14, 1, 3, .rw, .int 100, [(1, 1000)], 1520⟩,
  /- psc_test -/ ⟨0, 31, 15, 15, 1, 1, .wo, .int 0, [(0, 1)], 96⟩,
  /- psc_unlatch -/ ⟨0, 31, 16, 16, 1, 1, .wo, .int 0, [(0, 1)], 1520⟩,
  /- psc_state -/ ⟨0, 31, 24, 24, 1, 2, .ro, .int 0, [(0, 6)], 0⟩,
  /- psc_retries -/ ⟨0, 31, 25, 25, 1, 2, .ro, .int 0, [(0, 6)], 0⟩,
  /- psc_next_retry -/ ⟨0, 31, 26, 26, 1, 11, .ro, .int 0, [(0, 0)], 0⟩,
  /- psc_cut_cycles -/ ⟨0, 31, 27, 27, 1, 4, .ro, .int 0, [(0, 4294967295)], 0⟩,
  /- psc_shutdowns -/ ⟨0, 31, 28, 28, 1, 4, .ro, .int 0, [(0, 4294967295)], 0⟩,
  /- psc_meas_r -/ ⟨0, 31, 29, 29, 1, 3, .ro, .int 0, [(0, 65535)], 0⟩,
  /- psc_i_peak -/ ⟨0, 31, 30, 30, 1, 3, .ro, .int 0, [(0, 65535)], 0⟩,
  /- psc_x_peak -/ ⟨0, 31, 31, 31, 1, 3, .ro, .int 0, [(0, 65535)], 0⟩,
  /- psc_t_coil -/ ⟨0, 31, 32, 32, 1, 6, .ro, .int 0, [(-2147483648, 2147483647)], 0⟩,
  /- psc_gr -/ ⟨0, 31, 33, 33, 1, 9, .ro, .int 0, [(-32768, 32767)], 0⟩,
  /- psc_clear -/ ⟨0, 31, 47, 47, 1, 1, .wo, .int 0, [(0, 1)], 1520⟩,
  /- pg_fsw_mode -/ ⟨256, 259, 0, 0, 1, 2, .rw, .int 0, [(0, 1)], 1520⟩,
  /- pg_fsw_pref -/ ⟨256, 259, 1, 1, 1, 4, .rw, .int 600000, [(400000, 800000)], 1520⟩,
  /- pg_stagger_run -/ ⟨256, 259, 2, 2, 1, 1, .rw, .int 0, [(0, 1)], 1520⟩,
  /- pg_fsw -/ ⟨256, 259, 3, 3, 1, 4, .ro, .int 0, [(0, 0)], 0⟩,
  /- pg_fsw_clear -/ ⟨256, 259, 4, 4, 1, 1, .ro, .int 0, [(0, 1)], 0⟩,
  /- pg_margin -/ ⟨256, 259, 5, 5, 1, 4, .ro, .int 0, [(0, 4294967295)], 0⟩,
  /- pg_channels_on -/ ⟨256, 259, 6, 6, 1, 2, .ro, .int 0, [(0, 255)], 0⟩,
  /- psc_excl0 -/ ⟨512, 512, 0, 31, 1, 4, .rw, .int 0, [(0, 0), (100000, 5000000)], 1520⟩]

/-- Elements of area 1F. -/
def elems1F : List Elem := [
  /- lm_bl -/ ⟨0, 63, 0, 0, 1, 4, .rw, .int 10000, [(100, 100000)], 1520⟩,
  /- lm_mms -/ ⟨0, 63, 1, 1, 1, 4, .rw, .int 50000, [(100, 2000000)], 1520⟩,
  /- lm_kms -/ ⟨0, 63, 2, 2, 1, 4, .rw, .int 5000, [(10, 1000000)], 1520⟩,
  /- lm_rms -/ ⟨0, 63, 3, 3, 1, 4, .rw, .int 2000, [(10, 1000000)], 1520⟩,
  /- lm_re -/ ⟨0, 63, 4, 4, 1, 4, .rw, .int 6000, [(500, 100000)], 1520⟩,
  /- lm_le -/ ⟨0, 63, 5, 5, 1, 4, .rw, .int 1000, [(0, 100000)], 1520⟩,
  /- lm_xmax -/ ⟨0, 63, 6, 6, 1, 4, .rw, .int 8000, [(100, 100000)], 1520⟩,
  /- lm_rth_vc -/ ⟨0, 63, 7, 7, 1, 4, .rw, .int 2000, [(10, 100000)], 1520⟩,
  /- lm_tau_vc -/ ⟨0, 63, 8, 8, 1, 4, .rw, .int 20000, [(100, 600000)], 1520⟩,
  /- lm_rth_mag -/ ⟨0, 63, 9, 9, 1, 4, .rw, .int 1500, [(10, 100000)], 1520⟩,
  /- lm_tau_mag -/ ⟨0, 63, 10, 10, 1, 4, .rw, .int 1800000, [(1000, 36000000)], 1520⟩,
  /- lm_tmax -/ ⟨0, 63, 11, 11, 1, 6, .rw, .int 1800, [(500, 3000)], 1520⟩,
  /- lm_t_amb -/ ⟨0, 63, 12, 12, 1, 6, .rw, .int 250, [(-400, 700)], 1520⟩,
  /- lm_release -/ ⟨0, 63, 13, 13, 1, 3, .rw, .int 200, [(1, 5000)], 1520⟩,
  /- lm_label -/ ⟨0, 63, 14, 14, 1, 13, .rw, .zeros 32, [], 1520⟩]

/-- A row of area 10 as area 11 has it: 512 bus strips, and the default program of a bus strip (R126). -/
def busElem (e : Elem) : Elem :=
  { e with oHi := 511, dflt := if e.eLo = 1 ∧ e.eHi = 1 then .int 0x0201 else e.dflt }

/-- Elements that a bus strip does not have (R127). -/
def busLacks (e : Nat) : Bool := e == 0x02 || e == 0x03 || (decide (0x30 ≤ e) && decide (e ≤ 0x37))

/-- The rows of an area (R240); no row for an area without a table. -/
def elemsOf (area : Nat) : List Elem :=
  match area with
  | 0x00 => elems00
  | 0x01 => elems01
  | 0x02 => elems02
  | 0x03 => elems03
  | 0x04 => elems04
  | 0x05 => elems05
  | 0x06 => elems06
  | 0x07 => elems07
  | 0x08 => elems08
  | 0x09 => elems09
  | 0x0A => elems0A
  | 0x0B => elems0B
  | 0x0C => elems0C
  | 0x0D => elems0D
  | 0x0E => elems0E
  | 0x10 => elems10
  | 0x1A => elems1A
  | 0x1B => elems1B
  | 0x1C => elems1C
  | 0x1D => elems1D
  | 0x1E => elems1E
  | 0x1F => elems1F
  | 0x11 => (elems10.filter (fun e => !busLacks e.eLo)).map busElem
  | 0x12 | 0x13 | 0x14 | 0x15 | 0x16 | 0x17 | 0x18 | 0x19 => elems12
  | _ => []

/-- Whether a row covers object `o`, element `e`. -/
def Elem.covers (r : Elem) (o e : Nat) : Bool :=
  r.oLo ≤ o && o ≤ r.oHi && r.eLo ≤ e && e ≤ r.eHi && (e - r.eLo) % r.eStep == 0

/-- The row of an address, if a table lists it (R240). -/
def elemOf (a : Nat) : Option Elem := (elemsOf (areaOf a)).find? (·.covers (objectOf a) (elementOf a))

/-! ### Addresses by name -/

namespace El

/-- `feature_map` (R19). -/
def featureMap : Nat := addrOf 0x00 0x0010 0x00
/-- `fs_int` (R40). -/
def fsInt : Nat := addrOf 0x03 0x0100 0x00
/-- `round_size` (R40). -/
def roundSize : Nat := addrOf 0x03 0x0100 0x01
/-- `timeline_now` (R40). -/
def timelineNow : Nat := addrOf 0x03 0x0100 0x02
/-- `round_now` (R40). -/
def roundNow : Nat := addrOf 0x03 0x0100 0x03
/-- `anchor_state` (R40). -/
def anchorState : Nat := addrOf 0x03 0x0100 0x04
/-- `last_step` (R40). -/
def lastStep : Nat := addrOf 0x03 0x0100 0x05
/-- `step_count` (R40). -/
def stepCount : Nat := addrOf 0x03 0x0100 0x06
/-- `lag_now` (R52). -/
def lagNow : Nat := addrOf 0x01 0x0100 0x00
/-- `lag_max` (R52). -/
def lagMax : Nat := addrOf 0x01 0x0100 0x01
/-- `late_rounds` (R52). -/
def lateRounds : Nat := addrOf 0x01 0x0100 0x02
/-- `repeated_smp` (R52). -/
def repeatedSmp : Nat := addrOf 0x01 0x0100 0x03
/-- `shed_rounds` (R52). -/
def shedRounds : Nat := addrOf 0x01 0x0100 0x04
/-- `catchups` (R52). -/
def catchups : Nat := addrOf 0x01 0x0100 0x05
/-- `phase_end_1` (R52). -/
def phaseEnd (e : Nat) : Nat := addrOf 0x01 0x0100 (0x08 + e)
/-- `shed_enable` (R52). -/
def shedEnable : Nat := addrOf 0x01 0x0100 0x0d
/-- `sched_clear` (R52). -/
def schedClear : Nat := addrOf 0x01 0x0100 0x0f
/-- `src_signal` (R114). -/
def srcSignal (s : Nat) : Nat := addrOf 0x1A s 0x00
/-- `src_phase` (R114). -/
def srcPhase (s : Nat) : Nat := addrOf 0x1A s 0x01
/-- `src_fb` (R114). -/
def srcFb (s : Nat) : Nat := addrOf 0x1A s 0x02
/-- `src_label` (R114). -/
def srcLabel (s : Nat) : Nat := addrOf 0x1A s 0x03
/-- `dst_target` (R115). -/
def dstTarget (d : Nat) : Nat := addrOf 0x1A (0x0800 + d) 0x00
/-- `dst_pass` (R115). -/
def dstPass (d : Nat) : Nat := addrOf 0x1A (0x0800 + d) 0x01
/-- `dst_shift` (R115). -/
def dstShift (d : Nat) : Nat := addrOf 0x1A (0x0800 + d) 0x02
/-- `lim_lookahead` (R115). -/
def limLookahead (d : Nat) : Nat := addrOf 0x1A (0x0800 + d) 0x03
/-- `lim_enable` (R115). -/
def limEnable (d : Nat) : Nat := addrOf 0x1A (0x0800 + d) 0x04
/-- `lim_ceiling` (R115). -/
def limCeiling (d : Nat) : Nat := addrOf 0x1A (0x0800 + d) 0x05
/-- `lim_release` (R115). -/
def limRelease (d : Nat) : Nat := addrOf 0x1A (0x0800 + d) 0x06
/-- `xp_ramp_time` (R115). -/
def xpRampTime (d : Nat) : Nat := addrOf 0x1A (0x0800 + d) 0x07
/-- `xp_ramp_shape` (R115). -/
def xpRampShape (d : Nat) : Nat := addrOf 0x1A (0x0800 + d) 0x08
/-- `dst_fb` (R115). -/
def dstFb (d : Nat) : Nat := addrOf 0x1A (0x0800 + d) 0x09
/-- `dst_label` (R115). -/
def dstLabel (d : Nat) : Nat := addrOf 0x1A (0x0800 + d) 0x0a
/-- `rd_state` (R116). -/
def rdState (i : Nat) : Nat := addrOf 0x1A (0x0c00 + i) 0x00
/-- `rd_start` (R116). -/
def rdStart (i : Nat) : Nat := addrOf 0x1A (0x0c00 + i) 0x01
/-- `rd_length` (R116). -/
def rdLength (i : Nat) : Nat := addrOf 0x1A (0x0c00 + i) 0x02
/-- `rd_shape` (R116). -/
def rdShape (i : Nat) : Nat := addrOf 0x1A (0x0c00 + i) 0x03
/-- `rd_members` (R116). -/
def rdMembers (i : Nat) : Nat := addrOf 0x1A (0x0c00 + i) 0x04
/-- `rd_in_use` (R116). -/
def rdInUse : Nat := addrOf 0x1A 0x0f00 0x00
/-- `rd_in_use_max` (R116). -/
def rdInUseMax : Nat := addrOf 0x1A 0x0f00 0x01
/-- `rd_refusals` (R116). -/
def rdRefusals : Nat := addrOf 0x1A 0x0f00 0x02
/-- `so_clear` (R116). -/
def soClear : Nat := addrOf 0x1A 0x0f00 0x03
/-- `xp_gain` (R117). -/
def xpGain (s d : Nat) : Nat := addrOf (0x12 + s / 256) d (s % 256)
/-- `m_peak` (R119). -/
def mPeak (p : Nat) : Nat := addrOf 0x1B p 0x00
/-- `m_tpeak` (R119). -/
def mTpeak (p : Nat) : Nat := addrOf 0x1B p 0x01
/-- `m_rms` (R119). -/
def mRms (p : Nat) : Nat := addrOf 0x1B p 0x02
/-- `m_hold` (R119). -/
def mHold (p : Nat) : Nat := addrOf 0x1B p 0x03
/-- `m_clips` (R119). -/
def mClips (p : Nat) : Nat := addrOf 0x1B p 0x04
/-- `m_gr` (R119). -/
def mGr (p : Nat) : Nat := addrOf 0x1B p 0x05
/-- `m_rms_window` (R119). -/
def mRmsWindow (p : Nat) : Nat := addrOf 0x1B p 0x08
/-- `m_hold_time` (R119). -/
def mHoldTime (p : Nat) : Nat := addrOf 0x1B p 0x09
/-- `m_clear` (R119). -/
def mClear (p : Nat) : Nat := addrOf 0x1B p 0x0a
/-- `ld_point0` (R120). -/
def ldPoint (L : Nat) (e : Nat) : Nat := addrOf 0x1B (0x0c00 + L) (0x00 + e)
/-- `ld_weight0` (R120). -/
def ldWeight (L : Nat) (e : Nat) : Nat := addrOf 0x1B (0x0c00 + L) (0x08 + e)
/-- `ld_run` (R120). -/
def ldRun (L : Nat) : Nat := addrOf 0x1B (0x0c00 + L) 0x10
/-- `ld_momentary` (R120). -/
def ldMomentary (L : Nat) : Nat := addrOf 0x1B (0x0c00 + L) 0x20
/-- `ld_short` (R120). -/
def ldShort (L : Nat) : Nat := addrOf 0x1B (0x0c00 + L) 0x21
/-- `ld_integrated` (R120). -/
def ldIntegrated (L : Nat) : Nat := addrOf 0x1B (0x0c00 + L) 0x22
/-- `ld_range` (R120). -/
def ldRange (L : Nat) : Nat := addrOf 0x1B (0x0c00 + L) 0x23
/-- `ld_tp_max` (R120). -/
def ldTpMax (L : Nat) : Nat := addrOf 0x1B (0x0c00 + L) 0x24
/-- `ld_time` (R120). -/
def ldTime (L : Nat) : Nat := addrOf 0x1B (0x0c00 + L) 0x25
/-- `pub_period` (R121). -/
def pubPeriod (j : Nat) : Nat := addrOf 0x1B (0x0e00 + j) 0x00
/-- `pub_fields` (R121). -/
def pubFields (j : Nat) : Nat := addrOf 0x1B (0x0e00 + j) 0x01
/-- `pub_points` (R121). -/
def pubPoints (j : Nat) : Nat := addrOf 0x1B (0x0e00 + j) 0x02
/-- `pub_merged` (R121). -/
def pubMerged (j : Nat) : Nat := addrOf 0x1B (0x0e00 + j) 0x03
/-- `st_label` (R126). -/
def stLabel (bus : Bool) (n : Nat) : Nat := addrOf (stripArea bus) n 0x00
/-- `st_program` (R126). -/
def stProgram (bus : Bool) (n : Nat) : Nat := addrOf (stripArea bus) n 0x01
/-- `st_in_primary` (R126). -/
def stInPrimary (bus : Bool) (n : Nat) : Nat := addrOf (stripArea bus) n 0x02
/-- `st_in_backup` (R126). -/
def stInBackup (bus : Bool) (n : Nat) : Nat := addrOf (stripArea bus) n 0x03
/-- `st_trim` (R126). -/
def stTrim (bus : Bool) (n : Nat) : Nat := addrOf (stripArea bus) n 0x04
/-- `st_polarity` (R126). -/
def stPolarity (bus : Bool) (n : Nat) : Nat := addrOf (stripArea bus) n 0x05
/-- `st_delay` (R126). -/
def stDelay (bus : Bool) (n : Nat) : Nat := addrOf (stripArea bus) n 0x06
/-- `hpf_freq` (R126). -/
def hpfFreq (bus : Bool) (n : Nat) : Nat := addrOf (stripArea bus) n 0x07
/-- `hpf_slope` (R126). -/
def hpfSlope (bus : Bool) (n : Nat) : Nat := addrOf (stripArea bus) n 0x08
/-- `lpf_freq` (R126). -/
def lpfFreq (bus : Bool) (n : Nat) : Nat := addrOf (stripArea bus) n 0x09
/-- `lpf_slope` (R126). -/
def lpfSlope (bus : Bool) (n : Nat) : Nat := addrOf (stripArea bus) n 0x0a
/-- `eq_type` (R126). -/
def eqType (bus : Bool) (n : Nat) (b : Nat) : Nat := addrOf (stripArea bus) n (0x10 + 4 * b)
/-- `eq_freq` (R126). -/
def eqFreq (bus : Bool) (n : Nat) (b : Nat) : Nat := addrOf (stripArea bus) n (0x11 + 4 * b)
/-- `eq_gain` (R126). -/
def eqGain (bus : Bool) (n : Nat) (b : Nat) : Nat := addrOf (stripArea bus) n (0x12 + 4 * b)
/-- `eq_q` (R126). -/
def eqQ (bus : Bool) (n : Nat) (b : Nat) : Nat := addrOf (stripArea bus) n (0x13 + 4 * b)
/-- `gate_mode` (R126). -/
def gateMode (bus : Bool) (n : Nat) : Nat := addrOf (stripArea bus) n 0x30
/-- `gate_threshold` (R126). -/
def gateThreshold (bus : Bool) (n : Nat) : Nat := addrOf (stripArea bus) n 0x31
/-- `gate_depth` (R126). -/
def gateDepth (bus : Bool) (n : Nat) : Nat := addrOf (stripArea bus) n 0x32
/-- `gate_ratio` (R126). -/
def gateRatio (bus : Bool) (n : Nat) : Nat := addrOf (stripArea bus) n 0x33
/-- `gate_attack` (R126). -/
def gateAttack (bus : Bool) (n : Nat) : Nat := addrOf (stripArea bus) n 0x34
/-- `gate_hold` (R126). -/
def gateHold (bus : Bool) (n : Nat) : Nat := addrOf (stripArea bus) n 0x35
/-- `gate_release` (R126). -/
def gateRelease (bus : Bool) (n : Nat) : Nat := addrOf (stripArea bus) n 0x36
/-- `gate_key` (R126). -/
def gateKey (bus : Bool) (n : Nat) : Nat := addrOf (stripArea bus) n 0x37
/-- `comp_on` (R126). -/
def compOn (bus : Bool) (n : Nat) : Nat := addrOf (stripArea bus) n 0x38
/-- `comp_threshold` (R126). -/
def compThreshold (bus : Bool) (n : Nat) : Nat := addrOf (stripArea bus) n 0x39
/-- `comp_ratio` (R126). -/
def compRatio (bus : Bool) (n : Nat) : Nat := addrOf (stripArea bus) n 0x3a
/-- `comp_knee` (R126). -/
def compKnee (bus : Bool) (n : Nat) : Nat := addrOf (stripArea bus) n 0x3b
/-- `comp_attack` (R126). -/
def compAttack (bus : Bool) (n : Nat) : Nat := addrOf (stripArea bus) n 0x3c
/-- `comp_release` (R126). -/
def compRelease (bus : Bool) (n : Nat) : Nat := addrOf (stripArea bus) n 0x3d
/-- `comp_makeup` (R126). -/
def compMakeup (bus : Bool) (n : Nat) : Nat := addrOf (stripArea bus) n 0x3e
/-- `comp_key` (R126). -/
def compKey (bus : Bool) (n : Nat) : Nat := addrOf (stripArea bus) n 0x3f
/-- `fader` (R126). -/
def fader (bus : Bool) (n : Nat) : Nat := addrOf (stripArea bus) n 0x40
/-- `mute` (R126). -/
def mute (bus : Bool) (n : Nat) : Nat := addrOf (stripArea bus) n 0x41
/-- `pan` (R126). -/
def pan (bus : Bool) (n : Nat) : Nat := addrOf (stripArea bus) n 0x42
/-- `width` (R126). -/
def width (bus : Bool) (n : Nat) : Nat := addrOf (stripArea bus) n 0x43
/-- `st_out_ph` (R126). -/
def stOutPh (bus : Bool) (n : Nat) : Nat := addrOf (stripArea bus) n 0x44
/-- `st_tap` (R126). -/
def stTap (bus : Bool) (n : Nat) : Nat := addrOf (stripArea bus) n 0x45
/-- `ins_enable` (R126). -/
def insEnable (bus : Bool) (n : Nat) : Nat := addrOf (stripArea bus) n 0x50
/-- `ins_point` (R126). -/
def insPoint (bus : Bool) (n : Nat) : Nat := addrOf (stripArea bus) n 0x51
/-- `ins_return` (R126). -/
def insReturn (bus : Bool) (n : Nat) : Nat := addrOf (stripArea bus) n 0x52
/-- `ins_send_level` (R126). -/
def insSendLevel (bus : Bool) (n : Nat) : Nat := addrOf (stripArea bus) n 0x53
/-- `ins_return_level` (R126). -/
def insReturnLevel (bus : Bool) (n : Nat) : Nat := addrOf (stripArea bus) n 0x54
/-- `morph_time` (R126). -/
def morphTime (bus : Bool) (n : Nat) : Nat := addrOf (stripArea bus) n 0xf0
/-- `ramp_time` (R126). -/
def rampTime (bus : Bool) (n : Nat) : Nat := addrOf (stripArea bus) n 0xf1
/-- `ramp_shape` (R126). -/
def rampShape (bus : Bool) (n : Nat) : Nat := addrOf (stripArea bus) n 0xf2
/-- `st_cycles` (R126). -/
def stCycles (bus : Bool) (n : Nat) : Nat := addrOf (stripArea bus) n 0xf8
/-- `st_cycles_max` (R126). -/
def stCyclesMax (bus : Bool) (n : Nat) : Nat := addrOf (stripArea bus) n 0xf9
/-- `st_status` (R126). -/
def stStatus (bus : Bool) (n : Nat) : Nat := addrOf (stripArea bus) n 0xff
/-- `disp_pending` (R158). -/
def dispPending : Nat := addrOf 0x1C 0x0000 0x00
/-- `disp_pending_max` (R158). -/
def dispPendingMax : Nat := addrOf 0x1C 0x0000 0x01
/-- `disp_armed` (R158). -/
def dispArmed : Nat := addrOf 0x1C 0x0000 0x02
/-- `disp_late` (R158). -/
def dispLate : Nat := addrOf 0x1C 0x0000 0x03
/-- `disp_refused_past` (R158). -/
def dispRefusedPast : Nat := addrOf 0x1C 0x0000 0x04
/-- `disp_withdrawn` (R158). -/
def dispWithdrawn : Nat := addrOf 0x1C 0x0000 0x05
/-- `disp_moved` (R158). -/
def dispMoved : Nat := addrOf 0x1C 0x0000 0x06
/-- `env_open` (R158). -/
def envOpen : Nat := addrOf 0x1C 0x0000 0x07
/-- `env_discarded` (R158). -/
def envDiscarded : Nat := addrOf 0x1C 0x0000 0x08
/-- `disp_clear` (R158). -/
def dispClear : Nat := addrOf 0x1C 0x0000 0x0f
/-- `pend_state` (R159). -/
def pendState (i : Nat) : Nat := addrOf 0x1C (0x0100 + i) 0x00
/-- `pend_kind` (R159). -/
def pendKind (i : Nat) : Nat := addrOf 0x1C (0x0100 + i) 0x01
/-- `pend_scene` (R159). -/
def pendScene (i : Nat) : Nat := addrOf 0x1C (0x0100 + i) 0x02
/-- `pend_sample` (R159). -/
def pendSample (i : Nat) : Nat := addrOf 0x1C (0x0100 + i) 0x03
/-- `pend_values` (R159). -/
def pendValues (i : Nat) : Nat := addrOf 0x1C (0x0100 + i) 0x04
/-- `pend_flags` (R159). -/
def pendFlags (i : Nat) : Nat := addrOf 0x1C (0x0100 + i) 0x05
/-- `pend_cancel` (R159). -/
def pendCancel (i : Nat) : Nat := addrOf 0x1C (0x0100 + i) 0x06
/-- `scene_data` (R160). -/
def sceneData (n : Nat) : Nat := addrOf 0x1C (0x1000 + n) 0x00
/-- `scene_state` (R160). -/
def sceneState (n : Nat) : Nat := addrOf 0x1C (0x1000 + n) 0x01
/-- `scene_length` (R160). -/
def sceneLength (n : Nat) : Nat := addrOf 0x1C (0x1000 + n) 0x02
/-- `scene_values` (R160). -/
def sceneValues (n : Nat) : Nat := addrOf 0x1C (0x1000 + n) 0x03
/-- `scene_crc` (R160). -/
def sceneCrc (n : Nat) : Nat := addrOf 0x1C (0x1000 + n) 0x04
/-- `scene_label` (R160). -/
def sceneLabel (n : Nat) : Nat := addrOf 0x1C (0x1000 + n) 0x05
/-- `cl_state` (R200). -/
def clState (c : Nat) : Nat := addrOf 0x1D (0x0100 + c) 0x00
/-- `cl_relief_state` (R200). -/
def clReliefState (c : Nat) : Nat := addrOf 0x1D (0x0100 + c) 0x01
/-- `cl_audit_enable` (R200). -/
def clAuditEnable (c : Nat) : Nat := addrOf 0x1D (0x0100 + c) 0x02
/-- `cl_audit_core` (R200). -/
def clAuditCore (c : Nat) : Nat := addrOf 0x1D (0x0100 + c) 0x03
/-- `cl_audits` (R200). -/
def clAudits (c : Nat) : Nat := addrOf 0x1D (0x0100 + c) 0x04
/-- `cl_audits_skipped` (R200). -/
def clAuditsSkipped (c : Nat) : Nat := addrOf 0x1D (0x0100 + c) 0x05
/-- `cl_freq` (R200). -/
def clFreq (c : Nat) : Nat := addrOf 0x1D (0x0100 + c) 0x06
/-- `cl_store_rate` (R200). -/
def clStoreRate (c : Nat) : Nat := addrOf 0x1D (0x0100 + c) 0x07
/-- `cl_clear` (R200). -/
def clClear (c : Nat) : Nat := addrOf 0x1D (0x0100 + c) 0x0f
/-- `core_state` (R201). -/
def coreState (c j : Nat) : Nat := addrOf 0x1D (0x0200 + 16 * c + j) 0x00
/-- `core_carries` (R201). -/
def coreCarries (c j : Nat) : Nat := addrOf 0x1D (0x0200 + 16 * c + j) 0x01
/-- `core_retired_at` (R201). -/
def coreRetiredAt (c j : Nat) : Nat := addrOf 0x1D (0x0200 + 16 * c + j) 0x02
/-- `core_audits_passed` (R201). -/
def coreAuditsPassed (c j : Nat) : Nat := addrOf 0x1D (0x0200 + 16 * c + j) 0x03
/-- `core_exceptions` (R201). -/
def coreExceptions (c j : Nat) : Nat := addrOf 0x1D (0x0200 + 16 * c + j) 0x04
/-- `core_halted` (R201). -/
def coreHalted (c j : Nat) : Nat := addrOf 0x1D (0x0200 + 16 * c + j) 0x05
/-- `core_cycles` (R201). -/
def coreCycles (c j : Nat) : Nat := addrOf 0x1D (0x0200 + 16 * c + j) 0x08
/-- `core_cycles_max` (R201). -/
def coreCyclesMax (c j : Nat) : Nat := addrOf 0x1D (0x0200 + 16 * c + j) 0x09
/-- `core_retire` (R201). -/
def coreRetire (c j : Nat) : Nat := addrOf 0x1D (0x0200 + 16 * c + j) 0x0e
/-- `core_restore` (R201). -/
def coreRestore (c j : Nat) : Nat := addrOf 0x1D (0x0200 + 16 * c + j) 0x0f
/-- `img_data` (R238). -/
def imgData (c : Nat) : Nat := addrOf 0x1D (0x0010 + c) 0x00
/-- `img_state` (R238). -/
def imgState (c : Nat) : Nat := addrOf 0x1D (0x0010 + c) 0x01
/-- `img_refusal` (R238). -/
def imgRefusal (c : Nat) : Nat := addrOf 0x1D (0x0010 + c) 0x02
/-- `img_error_at` (R238). -/
def imgErrorAt (c : Nat) : Nat := addrOf 0x1D (0x0010 + c) 0x03
/-- `img_crc` (R238). -/
def imgCrc (c : Nat) : Nat := addrOf 0x1D (0x0010 + c) 0x04
/-- `img_active_crc` (R238). -/
def imgActiveCrc (c : Nat) : Nat := addrOf 0x1D (0x0010 + c) 0x05
/-- `img_activate` (R238). -/
def imgActivate (c : Nat) : Nat := addrOf 0x1D (0x0010 + c) 0x06
/-- `img_path` (R238). -/
def imgPath (c : Nat) : Nat := addrOf 0x1D (0x0010 + c) 0x07
/-- `img_rate` (R238). -/
def imgRate (c : Nat) : Nat := addrOf 0x1D (0x0010 + c) 0x08
/-- `job_number` (R239). -/
def jobNumber (c j pos : Nat) : Nat := addrOf 0x1D (0x1000 + 512 * c + 64 * j + pos) 0x00
/-- `job_flags` (R239). -/
def jobFlags (c j pos : Nat) : Nat := addrOf 0x1D (0x1000 + 512 * c + 64 * j + pos) 0x01
/-- `job_budget` (R239). -/
def jobBudget (c j pos : Nat) : Nat := addrOf 0x1D (0x1000 + 512 * c + 64 * j + pos) 0x02
/-- `job_cycles` (R239). -/
def jobCycles (c j pos : Nat) : Nat := addrOf 0x1D (0x1000 + 512 * c + 64 * j + pos) 0x03
/-- `job_cycles_max` (R239). -/
def jobCyclesMax (c j pos : Nat) : Nat := addrOf 0x1D (0x1000 + 512 * c + 64 * j + pos) 0x04
/-- `job_state` (R239). -/
def jobState (c j pos : Nat) : Nat := addrOf 0x1D (0x1000 + 512 * c + 64 * j + pos) 0x05
/-- `job_exception` (R239). -/
def jobException (c j pos : Nat) : Nat := addrOf 0x1D (0x1000 + 512 * c + 64 * j + pos) 0x06
/-- `job_exc_pc` (R239). -/
def jobExcPc (c j pos : Nat) : Nat := addrOf 0x1D (0x1000 + 512 * c + 64 * j + pos) 0x07
/-- `job_overflow_rounds` (R239). -/
def jobOverflowRounds (c j pos : Nat) : Nat := addrOf 0x1D (0x1000 + 512 * c + 64 * j + pos) 0x08
/-- `job_clear` (R239). -/
def jobClear (c j pos : Nat) : Nat := addrOf 0x1D (0x1000 + 512 * c + 64 * j + pos) 0x0f
/-- `vendor` (R246). -/
def vendor : Nat := addrOf 0x00 0x0000 0x00
/-- `device_code` (R246). -/
def deviceCode : Nat := addrOf 0x00 0x0000 0x01
/-- `stepping` (R246). -/
def stepping : Nat := addrOf 0x00 0x0000 0x02
/-- `die_id` (R246). -/
def dieId : Nat := addrOf 0x00 0x0000 0x03
/-- `fw_version` (R246). -/
def fwVersion : Nat := addrOf 0x00 0x0000 0x04
/-- `settings_format` (R246). -/
def settingsFormat : Nat := addrOf 0x00 0x0000 0x05
/-- `bop_version` (R246). -/
def bopVersion : Nat := addrOf 0x00 0x0000 0x06
/-- `engine_number` (R246). -/
def engineNumber : Nat := addrOf 0x00 0x0020 0x00
/-- `engine_label` (R246). -/
def engineLabel : Nat := addrOf 0x00 0x0020 0x01
/-- `disagree_count` (R247). -/
def disagreeCount : Nat := addrOf 0x01 0x0200 0x00
/-- `disagree_last` (R247). -/
def disagreeLast : Nat := addrOf 0x01 0x0200 0x01
/-- `disagree_clear` (R247). -/
def disagreeClear : Nat := addrOf 0x01 0x0200 0x0f
/-- `log_next` (R251). -/
def logNext : Nat := addrOf 0x0E 0x0000 0x00
/-- `log_data` (R251). -/
def logData : Nat := addrOf 0x0E 0x0000 0x01
/-- `log_clear` (R251). -/
def logClear : Nat := addrOf 0x0E 0x0000 0x02
/-- `tg_type` (R251). -/
def tgType (g : Nat) : Nat := addrOf 0x0E (0x0100 + g) 0x00
/-- `tg_freq` (R251). -/
def tgFreq (g : Nat) : Nat := addrOf 0x0E (0x0100 + g) 0x01
/-- `tg_level` (R251). -/
def tgLevel (g : Nat) : Nat := addrOf 0x0E (0x0100 + g) 0x02
/-- `bop_udp_port` (R286). -/
def bopUdpPort : Nat := addrOf 0x02 0x0000 0x00
/-- `bop_ports` (R286). -/
def bopPorts : Nat := addrOf 0x02 0x0000 0x01
/-- `bop_dscp` (R286). -/
def bopDscp : Nat := addrOf 0x02 0x0000 0x02
/-- `bop_max_msg` (R286). -/
def bopMaxMsg : Nat := addrOf 0x02 0x0000 0x03
/-- `sess_timeout` (R286). -/
def sessTimeout : Nat := addrOf 0x02 0x0000 0x04
/-- `bop_tag_fails` (R286). -/
def bopTagFails : Nat := addrOf 0x02 0x0000 0x08
/-- `bop_stale` (R286). -/
def bopStale : Nat := addrOf 0x02 0x0000 0x09
/-- `bop_bad` (R286). -/
def bopBad : Nat := addrOf 0x02 0x0000 0x0a
/-- `bop_busy` (R286). -/
def bopBusy : Nat := addrOf 0x02 0x0000 0x0b
/-- `bop_foreign` (R286). -/
def bopForeign : Nat := addrOf 0x02 0x0000 0x0c
/-- `bop_clear` (R286). -/
def bopClear : Nat := addrOf 0x02 0x0000 0x0f
/-- `session_open` (R286). -/
def sessionOpen : Nat := addrOf 0x02 0x0001 0x00
/-- `session_close` (R286). -/
def sessionClose : Nat := addrOf 0x02 0x0001 0x01
/-- `session_self` (R286). -/
def sessionSelf : Nat := addrOf 0x02 0x0001 0x02
/-- `key_role` (R287). -/
def keyRole (s : Nat) : Nat := addrOf 0x02 (0x0100 + s) 0x00
/-- `key_value` (R287). -/
def keyValue (s : Nat) : Nat := addrOf 0x02 (0x0100 + s) 0x01
/-- `key_state` (R287). -/
def keyState (s : Nat) : Nat := addrOf 0x02 (0x0100 + s) 0x02
/-- `key_sessions` (R287). -/
def keySessions (s : Nat) : Nat := addrOf 0x02 (0x0100 + s) 0x03
/-- `sess_state` (R287). -/
def sessState (i : Nat) : Nat := addrOf 0x02 (0x0200 + i) 0x00
/-- `sess_slot` (R287). -/
def sessSlot (i : Nat) : Nat := addrOf 0x02 (0x0200 + i) 0x01
/-- `sess_port` (R287). -/
def sessPort (i : Nat) : Nat := addrOf 0x02 (0x0200 + i) 0x02
/-- `sess_seq` (R287). -/
def sessSeq (i : Nat) : Nat := addrOf 0x02 (0x0200 + i) 0x03
/-- `sess_subs` (R287). -/
def sessSubs (i : Nat) : Nat := addrOf 0x02 (0x0200 + i) 0x04
/-- `sess_envelopes` (R287). -/
def sessEnvelopes (i : Nat) : Nat := addrOf 0x02 (0x0200 + i) 0x05
/-- `grp_addr` (R288). -/
def grpAddr (g : Nat) : Nat := addrOf 0x02 (0x0300 + g) 0x00
/-- `grp_slot` (R288). -/
def grpSlot (g : Nat) : Nat := addrOf 0x02 (0x0300 + g) 0x01
/-- `grp_enable` (R288). -/
def grpEnable (g : Nat) : Nat := addrOf 0x02 (0x0300 + g) 0x02
/-- `sp_enable` (R319). -/
def spEnable (p : Nat) : Nat := addrOf 0x08 (0x0000 + p) 0x00
/-- `sp_format` (R319). -/
def spFormat (p : Nat) : Nat := addrOf 0x08 (0x0000 + p) 0x01
/-- `sp_clocking` (R319). -/
def spClocking (p : Nat) : Nat := addrOf 0x08 (0x0000 + p) 0x02
/-- `sp_domain` (R319). -/
def spDomain (p : Nat) : Nat := addrOf 0x08 (0x0000 + p) 0x03
/-- `sp_slots` (R319). -/
def spSlots (p : Nat) : Nat := addrOf 0x08 (0x0000 + p) 0x04
/-- `sp_width` (R319). -/
def spWidth (p : Nat) : Nat := addrOf 0x08 (0x0000 + p) 0x05
/-- `sp_frame_len` (R319). -/
def spFrameLen (p : Nat) : Nat := addrOf 0x08 (0x0000 + p) 0x06
/-- `sp_offset` (R319). -/
def spOffset (p : Nat) : Nat := addrOf 0x08 (0x0000 + p) 0x07
/-- `sp_fsync` (R319). -/
def spFsync (p : Nat) : Nat := addrOf 0x08 (0x0000 + p) 0x08
/-- `sp_bclk_edge` (R319). -/
def spBclkEdge (p : Nat) : Nat := addrOf 0x08 (0x0000 + p) 0x09
/-- `sp_rx_mask` (R319). -/
def spRxMask (p : Nat) : Nat := addrOf 0x08 (0x0000 + p) 0x0a
/-- `sp_tx_mask` (R319). -/
def spTxMask (p : Nat) : Nat := addrOf 0x08 (0x0000 + p) 0x0b
/-- `sp_unused_out` (R319). -/
def spUnusedOut (p : Nat) : Nat := addrOf 0x08 (0x0000 + p) 0x0c
/-- `sp_rx_on` (R319). -/
def spRxOn (p : Nat) : Nat := addrOf 0x08 (0x0000 + p) 0x0d
/-- `sp_tx_on` (R319). -/
def spTxOn (p : Nat) : Nat := addrOf 0x08 (0x0000 + p) 0x0e
/-- `sp_zc_timeout` (R319). -/
def spZcTimeout (p : Nat) : Nat := addrOf 0x08 (0x0000 + p) 0x0f
/-- `sp_apply_at` (R319). -/
def spApplyAt (p : Nat) : Nat := addrOf 0x08 (0x0000 + p) 0x10
/-- `sp_cs_tx` (R319). -/
def spCsTx (p : Nat) : Nat := addrOf 0x08 (0x0000 + p) 0x11
/-- `sp_state` (R319). -/
def spState (p : Nat) : Nat := addrOf 0x08 (0x0000 + p) 0x18
/-- `sp_rate` (R319). -/
def spRate (p : Nat) : Nat := addrOf 0x08 (0x0000 + p) 0x19
/-- `sp_slips` (R319). -/
def spSlips (p : Nat) : Nat := addrOf 0x08 (0x0000 + p) 0x1a
/-- `sp_start_sample` (R319). -/
def spStartSample (p : Nat) : Nat := addrOf 0x08 (0x0000 + p) 0x1b
/-- `sp_errors` (R319). -/
def spErrors (p : Nat) : Nat := addrOf 0x08 (0x0000 + p) 0x1c
/-- `sp_cs_rx` (R319). -/
def spCsRx (p : Nat) : Nat := addrOf 0x08 (0x0000 + p) 0x1d
/-- `sp_clear` (R319). -/
def spClear (p : Nat) : Nat := addrOf 0x08 (0x0000 + p) 0x1f
/-- `sap_start_ports` (R320). -/
def sapStartPorts : Nat := addrOf 0x08 0x0100 0x00
/-- `sap_start_src` (R320). -/
def sapStartSrc : Nat := addrOf 0x08 0x0100 0x01
/-- `sap_start_at` (R320). -/
def sapStartAt : Nat := addrOf 0x08 0x0100 0x02
/-- `sap_start_arm` (R320). -/
def sapStartArm : Nat := addrOf 0x08 0x0100 0x03
/-- `sap_start_state` (R320). -/
def sapStartState : Nat := addrOf 0x08 0x0100 0x04
/-- `sap_start_sample` (R320). -/
def sapStartSample : Nat := addrOf 0x08 0x0100 0x05
/-- `ring_dir` (R321). -/
def ringDir (r : Nat) : Nat := addrOf 0x08 (0x0200 + r) 0x00
/-- `ring_port` (R321). -/
def ringPort (r : Nat) : Nat := addrOf 0x08 (0x0200 + r) 0x01
/-- `ring_mask` (R321). -/
def ringMask (r : Nat) : Nat := addrOf 0x08 (0x0200 + r) 0x02
/-- `ring_pack` (R321). -/
def ringPack (r : Nat) : Nat := addrOf 0x08 (0x0200 + r) 0x03
/-- `ring_base` (R321). -/
def ringBase (r : Nat) : Nat := addrOf 0x08 (0x0200 + r) 0x04
/-- `ring_frames` (R321). -/
def ringFrames (r : Nat) : Nat := addrOf 0x08 (0x0200 + r) 0x05
/-- `ring_full` (R321). -/
def ringFull (r : Nat) : Nat := addrOf 0x08 (0x0200 + r) 0x06
/-- `ring_run` (R321). -/
def ringRun (r : Nat) : Nat := addrOf 0x08 (0x0200 + r) 0x07
/-- `ring_wr` (R321). -/
def ringWr (r : Nat) : Nat := addrOf 0x08 (0x0200 + r) 0x08
/-- `ring_rd` (R321). -/
def ringRd (r : Nat) : Nat := addrOf 0x08 (0x0200 + r) 0x09
/-- `ring_state` (R321). -/
def ringState (r : Nat) : Nat := addrOf 0x08 (0x0200 + r) 0x0a
/-- `ring_start_sample` (R321). -/
def ringStartSample (r : Nat) : Nat := addrOf 0x08 (0x0200 + r) 0x0b
/-- `ring_xruns` (R321). -/
def ringXruns (r : Nat) : Nat := addrOf 0x08 (0x0200 + r) 0x0c
/-- `asrc_source` (R322). -/
def asrcSource (n : Nat) : Nat := addrOf 0x09 (0x0000 + n) 0x00
/-- `asrc_group` (R322). -/
def asrcGroup (n : Nat) : Nat := addrOf 0x09 (0x0000 + n) 0x01
/-- `asrc_state` (R322). -/
def asrcState (n : Nat) : Nat := addrOf 0x09 (0x0000 + n) 0x02
/-- `ag_source` (R323). -/
def agSource (g : Nat) : Nat := addrOf 0x09 (0x0100 + g) 0x00
/-- `ag_bandwidth` (R323). -/
def agBandwidth (g : Nat) : Nat := addrOf 0x09 (0x0100 + g) 0x01
/-- `ag_state` (R323). -/
def agState (g : Nat) : Nat := addrOf 0x09 (0x0100 + g) 0x02
/-- `ag_rate` (R323). -/
def agRate (g : Nat) : Nat := addrOf 0x09 (0x0100 + g) 0x03
/-- `ag_ratio` (R323). -/
def agRatio (g : Nat) : Nat := addrOf 0x09 (0x0100 + g) 0x04
/-- `ag_locks` (R323). -/
def agLocks (g : Nat) : Nat := addrOf 0x09 (0x0100 + g) 0x05
/-- `ag_unlocks` (R323). -/
def agUnlocks (g : Nat) : Nat := addrOf 0x09 (0x0100 + g) 0x06
/-- `ag_clear` (R323). -/
def agClear (g : Nat) : Nat := addrOf 0x09 (0x0100 + g) 0x0f
/-- `port_enable` (R358). -/
def portEnable (p : Nat) : Nat := addrOf 0x05 (0x0000 + p) 0x00
/-- `port_speed` (R358). -/
def portSpeed (p : Nat) : Nat := addrOf 0x05 (0x0000 + p) 0x01
/-- `port_fec` (R358). -/
def portFec (p : Nat) : Nat := addrOf 0x05 (0x0000 + p) 0x02
/-- `port_mac` (R358). -/
def portMac (p : Nat) : Nat := addrOf 0x05 (0x0000 + p) 0x03
/-- `port_ip4` (R358). -/
def portIp4 (p : Nat) : Nat := addrOf 0x05 (0x0000 + p) 0x04
/-- `port_ip4_prefix` (R358). -/
def portIp4Prefix (p : Nat) : Nat := addrOf 0x05 (0x0000 + p) 0x05
/-- `port_ip4_gw` (R358). -/
def portIp4Gw (p : Nat) : Nat := addrOf 0x05 (0x0000 + p) 0x06
/-- `port_ip6` (R358). -/
def portIp6 (p : Nat) : Nat := addrOf 0x05 (0x0000 + p) 0x07
/-- `port_ip6_prefix` (R358). -/
def portIp6Prefix (p : Nat) : Nat := addrOf 0x05 (0x0000 + p) 0x08
/-- `port_vlan` (R358). -/
def portVlan (p : Nat) : Nat := addrOf 0x05 (0x0000 + p) 0x09
/-- `port_eco` (R358). -/
def portEco (p : Nat) : Nat := addrOf 0x05 (0x0000 + p) 0x0b
/-- `port_phy_addr` (R358). -/
def portPhyAddr (p : Nat) : Nat := addrOf 0x05 (0x0000 + p) 0x0c
/-- `port_link` (R358). -/
def portLink (p : Nat) : Nat := addrOf 0x05 (0x0000 + p) 0x10
/-- `port_rate_now` (R358). -/
def portRateNow (p : Nat) : Nat := addrOf 0x05 (0x0000 + p) 0x11
/-- `port_rx_frames` (R358). -/
def portRxFrames (p : Nat) : Nat := addrOf 0x05 (0x0000 + p) 0x12
/-- `port_tx_frames` (R358). -/
def portTxFrames (p : Nat) : Nat := addrOf 0x05 (0x0000 + p) 0x13
/-- `port_runts` (R358). -/
def portRunts (p : Nat) : Nat := addrOf 0x05 (0x0000 + p) 0x14
/-- `port_fcs_err` (R358). -/
def portFcsErr (p : Nat) : Nat := addrOf 0x05 (0x0000 + p) 0x15
/-- `port_oversize` (R358). -/
def portOversize (p : Nat) : Nat := addrOf 0x05 (0x0000 + p) 0x16
/-- `port_tx_underruns` (R358). -/
def portTxUnderruns (p : Nat) : Nat := addrOf 0x05 (0x0000 + p) 0x17
/-- `port_stomped` (R358). -/
def portStomped (p : Nat) : Nat := addrOf 0x05 (0x0000 + p) 0x18
/-- `port_rx_drops` (R358). -/
def portRxDrops (p : Nat) : Nat := addrOf 0x05 (0x0000 + p) 0x19
/-- `port_load0` (R358). -/
def portLoad (p : Nat) (e : Nat) : Nat := addrOf 0x05 (0x0000 + p) (0x1a + e)
/-- `port_tx_drops` (R358). -/
def portTxDrops (p : Nat) : Nat := addrOf 0x05 (0x0000 + p) 0x22
/-- `port_clear` (R358). -/
def portClear (p : Nat) : Nat := addrOf 0x05 (0x0000 + p) 0x2f
/-- `net_mode` (R359). -/
def netMode : Nat := addrOf 0x05 0x0010 0x00
/-- `sw_age` (R359). -/
def swAge : Nat := addrOf 0x05 0x0010 0x01
/-- `sw_media_dscp` (R359). -/
def swMediaDscp : Nat := addrOf 0x05 0x0010 0x02
/-- `sw_learned` (R359). -/
def swLearned : Nat := addrOf 0x05 0x0010 0x03
/-- `sw_forwarded` (R359). -/
def swForwarded : Nat := addrOf 0x05 0x0010 0x04
/-- `txr_priority` (R360). -/
def txrPriority (p r : Nat) : Nat := addrOf 0x05 (0x0400 + 64 * p + r) 0x00
/-- `txr_shaper` (R360). -/
def txrShaper (p r : Nat) : Nat := addrOf 0x05 (0x0400 + 64 * p + r) 0x01
/-- `txr_idle_slope` (R360). -/
def txrIdleSlope (p r : Nat) : Nat := addrOf 0x05 (0x0400 + 64 * p + r) 0x02
/-- `txr_threshold` (R360). -/
def txrThreshold (p r : Nat) : Nat := addrOf 0x05 (0x0400 + 64 * p + r) 0x03
/-- `txr_threshold_reset` (R360). -/
def txrThresholdReset (p r : Nat) : Nat := addrOf 0x05 (0x0400 + 64 * p + r) 0x04
/-- `txr_frames` (R360). -/
def txrFrames (p r : Nat) : Nat := addrOf 0x05 (0x0400 + 64 * p + r) 0x05
/-- `txr_underruns` (R360). -/
def txrUnderruns (p r : Nat) : Nat := addrOf 0x05 (0x0400 + 64 * p + r) 0x06
/-- `rx_enable` (R361). -/
def rxEnable (i : Nat) : Nat := addrOf 0x06 (0x0000 + i) 0x00
/-- `rx_format` (R361). -/
def rxFormat (i : Nat) : Nat := addrOf 0x06 (0x0000 + i) 0x01
/-- `rx_channels` (R361). -/
def rxChannels (i : Nat) : Nat := addrOf 0x06 (0x0000 + i) 0x02
/-- `rx_rate` (R361). -/
def rxRate (i : Nat) : Nat := addrOf 0x06 (0x0000 + i) 0x03
/-- `rx_ptime` (R361). -/
def rxPtime (i : Nat) : Nat := addrOf 0x06 (0x0000 + i) 0x04
/-- `rx_first` (R361). -/
def rxFirst (i : Nat) : Nat := addrOf 0x06 (0x0000 + i) 0x05
/-- `rx_domain` (R361). -/
def rxDomain (i : Nat) : Nat := addrOf 0x06 (0x0000 + i) 0x06
/-- `rx_link_offset` (R361). -/
def rxLinkOffset (i : Nat) : Nat := addrOf 0x06 (0x0000 + i) 0x07
/-- `rx_fill` (R361). -/
def rxFill (i : Nat) : Nat := addrOf 0x06 (0x0000 + i) 0x08
/-- `rx_pt` (R361). -/
def rxPt (i : Nat) : Nat := addrOf 0x06 (0x0000 + i) 0x09
/-- `rx_ssrc` (R361). -/
def rxSsrc (i : Nat) : Nat := addrOf 0x06 (0x0000 + i) 0x0a
/-- `rx_rtp_offset` (R361). -/
def rxRtpOffset (i : Nat) : Nat := addrOf 0x06 (0x0000 + i) 0x0b
/-- `rx_legs` (R361). -/
def rxLegs (i : Nat) : Nat := addrOf 0x06 (0x0000 + i) 0x0c
/-- `rx_jumbo` (R361). -/
def rxJumbo (i : Nat) : Nat := addrOf 0x06 (0x0000 + i) 0x0d
/-- `rx_dst_a` (R361). -/
def rxDstA (i : Nat) : Nat := addrOf 0x06 (0x0000 + i) 0x10
/-- `rx_port_a` (R361). -/
def rxPortA (i : Nat) : Nat := addrOf 0x06 (0x0000 + i) 0x11
/-- `rx_src_a` (R361). -/
def rxSrcA (i : Nat) : Nat := addrOf 0x06 (0x0000 + i) 0x12
/-- `rx_dst_b` (R361). -/
def rxDstB (i : Nat) : Nat := addrOf 0x06 (0x0000 + i) 0x13
/-- `rx_port_b` (R361). -/
def rxPortB (i : Nat) : Nat := addrOf 0x06 (0x0000 + i) 0x14
/-- `rx_src_b` (R361). -/
def rxSrcB (i : Nat) : Nat := addrOf 0x06 (0x0000 + i) 0x15
/-- `rx_state` (R361). -/
def rxState (i : Nat) : Nat := addrOf 0x06 (0x0000 + i) 0x18
/-- `rx_packets_a` (R361). -/
def rxPacketsA (i : Nat) : Nat := addrOf 0x06 (0x0000 + i) 0x19
/-- `rx_packets_b` (R361). -/
def rxPacketsB (i : Nat) : Nat := addrOf 0x06 (0x0000 + i) 0x1a
/-- `rx_missing_a` (R361). -/
def rxMissingA (i : Nat) : Nat := addrOf 0x06 (0x0000 + i) 0x1b
/-- `rx_missing_b` (R361). -/
def rxMissingB (i : Nat) : Nat := addrOf 0x06 (0x0000 + i) 0x1c
/-- `rx_replaced` (R361). -/
def rxReplaced (i : Nat) : Nat := addrOf 0x06 (0x0000 + i) 0x1d
/-- `rx_late` (R361). -/
def rxLate (i : Nat) : Nat := addrOf 0x06 (0x0000 + i) 0x1e
/-- `rx_early` (R361). -/
def rxEarly (i : Nat) : Nat := addrOf 0x06 (0x0000 + i) 0x1f
/-- `rx_other` (R361). -/
def rxOther (i : Nat) : Nat := addrOf 0x06 (0x0000 + i) 0x20
/-- `rx_margin` (R361). -/
def rxMargin (i : Nat) : Nat := addrOf 0x06 (0x0000 + i) 0x21
/-- `rx_clear` (R361). -/
def rxClear (i : Nat) : Nat := addrOf 0x06 (0x0000 + i) 0x2f
/-- `tx_enable` (R362). -/
def txEnable (j : Nat) : Nat := addrOf 0x06 (0x0200 + j) 0x00
/-- `tx_format` (R362). -/
def txFormat (j : Nat) : Nat := addrOf 0x06 (0x0200 + j) 0x01
/-- `tx_channels` (R362). -/
def txChannels (j : Nat) : Nat := addrOf 0x06 (0x0200 + j) 0x02
/-- `tx_ptime` (R362). -/
def txPtime (j : Nat) : Nat := addrOf 0x06 (0x0200 + j) 0x03
/-- `tx_first` (R362). -/
def txFirst (j : Nat) : Nat := addrOf 0x06 (0x0200 + j) 0x04
/-- `tx_ring` (R362). -/
def txRing (j : Nat) : Nat := addrOf 0x06 (0x0200 + j) 0x05
/-- `tx_dscp` (R362). -/
def txDscp (j : Nat) : Nat := addrOf 0x06 (0x0200 + j) 0x06
/-- `tx_pt` (R362). -/
def txPt (j : Nat) : Nat := addrOf 0x06 (0x0200 + j) 0x07
/-- `tx_ssrc` (R362). -/
def txSsrc (j : Nat) : Nat := addrOf 0x06 (0x0200 + j) 0x08
/-- `tx_rtp_offset` (R362). -/
def txRtpOffset (j : Nat) : Nat := addrOf 0x06 (0x0200 + j) 0x09
/-- `tx_seq_base` (R362). -/
def txSeqBase (j : Nat) : Nat := addrOf 0x06 (0x0200 + j) 0x0a
/-- `tx_ttl` (R362). -/
def txTtl (j : Nat) : Nat := addrOf 0x06 (0x0200 + j) 0x0b
/-- `tx_legs` (R362). -/
def txLegs (j : Nat) : Nat := addrOf 0x06 (0x0200 + j) 0x0c
/-- `tx_jumbo` (R362). -/
def txJumbo (j : Nat) : Nat := addrOf 0x06 (0x0200 + j) 0x0d
/-- `tx_dst_a` (R362). -/
def txDstA (j : Nat) : Nat := addrOf 0x06 (0x0200 + j) 0x10
/-- `tx_port_a` (R362). -/
def txPortA (j : Nat) : Nat := addrOf 0x06 (0x0200 + j) 0x11
/-- `tx_sport_a` (R362). -/
def txSportA (j : Nat) : Nat := addrOf 0x06 (0x0200 + j) 0x12
/-- `tx_dst_b` (R362). -/
def txDstB (j : Nat) : Nat := addrOf 0x06 (0x0200 + j) 0x13
/-- `tx_port_b` (R362). -/
def txPortB (j : Nat) : Nat := addrOf 0x06 (0x0200 + j) 0x14
/-- `tx_sport_b` (R362). -/
def txSportB (j : Nat) : Nat := addrOf 0x06 (0x0200 + j) 0x15
/-- `tx_cs` (R362). -/
def txCs (j : Nat) : Nat := addrOf 0x06 (0x0200 + j) 0x16
/-- `tx_state` (R362). -/
def txState (j : Nat) : Nat := addrOf 0x06 (0x0200 + j) 0x18
/-- `tx_packets_a` (R362). -/
def txPacketsA (j : Nat) : Nat := addrOf 0x06 (0x0200 + j) 0x19
/-- `tx_packets_b` (R362). -/
def txPacketsB (j : Nat) : Nat := addrOf 0x06 (0x0200 + j) 0x1a
/-- `tx_wire_rate` (R362). -/
def txWireRate (j : Nat) : Nat := addrOf 0x06 (0x0200 + j) 0x1b
/-- `tx_clear` (R362). -/
def txClear (j : Nat) : Nat := addrOf 0x06 (0x0200 + j) 0x1f
/-- `cl_enable` (R392). -/
def lkEnable (l : Nat) : Nat := addrOf 0x07 (0x0000 + l) 0x00
/-- `cl_polarity` (R392). -/
def lkPolarity (l : Nat) : Nat := addrOf 0x07 (0x0000 + l) 0x01
/-- `cl_tx_channels` (R392). -/
def lkTxChannels (l : Nat) : Nat := addrOf 0x07 (0x0000 + l) 0x02
/-- `cl_fill` (R392). -/
def lkFill (l : Nat) : Nat := addrOf 0x07 (0x0000 + l) 0x03
/-- `cl_sum_wait` (R392). -/
def lkSumWait (l : Nat) : Nat := addrOf 0x07 (0x0000 + l) 0x04
/-- `cl_pair` (R392). -/
def lkPair (l : Nat) : Nat := addrOf 0x07 (0x0000 + l) 0x05
/-- `cl_state` (R392). -/
def lkState (l : Nat) : Nat := addrOf 0x07 (0x0000 + l) 0x08
/-- `cl_refusal` (R392). -/
def lkRefusal (l : Nat) : Nat := addrOf 0x07 (0x0000 + l) 0x09
/-- `cl_far_engine` (R392). -/
def lkFarEngine (l : Nat) : Nat := addrOf 0x07 (0x0000 + l) 0x0a
/-- `cl_far_quality` (R392). -/
def lkFarQuality (l : Nat) : Nat := addrOf 0x07 (0x0000 + l) 0x0b
/-- `cl_quality_out` (R392). -/
def lkQualityOut (l : Nat) : Nat := addrOf 0x07 (0x0000 + l) 0x0c
/-- `cl_delay` (R392). -/
def lkDelay (l : Nat) : Nat := addrOf 0x07 (0x0000 + l) 0x0d
/-- `cl_offset` (R392). -/
def lkOffset (l : Nat) : Nat := addrOf 0x07 (0x0000 + l) 0x0e
/-- `cl_rx_channels` (R392). -/
def lkRxChannels (l : Nat) : Nat := addrOf 0x07 (0x0000 + l) 0x0f
/-- `cl_load` (R392). -/
def lkLoad (l : Nat) : Nat := addrOf 0x07 (0x0000 + l) 0x10
/-- `cl_crc_err` (R392). -/
def lkCrcErr (l : Nat) : Nat := addrOf 0x07 (0x0000 + l) 0x11
/-- `cl_late` (R392). -/
def lkLate (l : Nat) : Nat := addrOf 0x07 (0x0000 + l) 0x12
/-- `cl_tunnel_drops` (R392). -/
def lkTunnelDrops (l : Nat) : Nat := addrOf 0x07 (0x0000 + l) 0x13
/-- `cl_clear` (R392). -/
def lkClear (l : Nat) : Nat := addrOf 0x07 (0x0000 + l) 0x1f
/-- `tg_id` (R393). -/
def tgId : Nat := addrOf 0x07 0x0100 0x00
/-- `tg_map_crc` (R393). -/
def tgMapCrc : Nat := addrOf 0x07 0x0100 0x01
/-- `db_role` (R394). -/
def dbRole (b : Nat) : Nat := addrOf 0x07 (0x0200 + b) 0x00
/-- `db_owner` (R394). -/
def dbOwner (b : Nat) : Nat := addrOf 0x07 (0x0200 + b) 0x01
/-- `db_depth` (R394). -/
def dbDepth (b : Nat) : Nat := addrOf 0x07 (0x0200 + b) 0x02
/-- `db_hop` (R394). -/
def dbHop (b : Nat) : Nat := addrOf 0x07 (0x0200 + b) 0x03
/-- `db_dst` (R394). -/
def dbDst (b : Nat) : Nat := addrOf 0x07 (0x0200 + b) 0x04
/-- `db_uplink` (R394). -/
def dbUplink (b : Nat) : Nat := addrOf 0x07 (0x0200 + b) 0x05
/-- `db_sat` (R394). -/
def dbSat (b : Nat) : Nat := addrOf 0x07 (0x0200 + b) 0x06
/-- `db_missing` (R394). -/
def dbMissing (b : Nat) : Nat := addrOf 0x07 (0x0200 + b) 0x07
/-- `ptp_profile` (R430). -/
def ptpProfile : Nat := addrOf 0x03 0x0000 0x00
/-- `ptp_domain` (R430). -/
def ptpDomain : Nat := addrOf 0x03 0x0000 0x01
/-- `ptp_priority1` (R430). -/
def ptpPriority1 : Nat := addrOf 0x03 0x0000 0x02
/-- `ptp_priority2` (R430). -/
def ptpPriority2 : Nat := addrOf 0x03 0x0000 0x03
/-- `ptp_clock_class` (R430). -/
def ptpClockClass : Nat := addrOf 0x03 0x0000 0x04
/-- `ptp_clock_id` (R430). -/
def ptpClockId : Nat := addrOf 0x03 0x0000 0x05
/-- `ptp_time` (R430). -/
def ptpTime : Nat := addrOf 0x03 0x0000 0x06
/-- `time_set` (R430). -/
def timeSet : Nat := addrOf 0x03 0x0000 0x07
/-- `ptp_q_class` (R430). -/
def ptpQClass : Nat := addrOf 0x03 0x0000 0x08
/-- `ptp_q_acc` (R430). -/
def ptpQAcc : Nat := addrOf 0x03 0x0000 0x09
/-- `ptp_q_var` (R430). -/
def ptpQVar : Nat := addrOf 0x03 0x0000 0x0a
/-- `ptp_dscp` (R430). -/
def ptpDscp : Nat := addrOf 0x03 0x0000 0x0b
/-- `ptp_enable` (R431). -/
def ptpEnable (p : Nat) : Nat := addrOf 0x03 (0x0010 + p) 0x00
/-- `ptp_role` (R431). -/
def ptpRole (p : Nat) : Nat := addrOf 0x03 (0x0010 + p) 0x01
/-- `ptp_log_sync` (R431). -/
def ptpLogSync (p : Nat) : Nat := addrOf 0x03 (0x0010 + p) 0x02
/-- `ptp_log_announce` (R431). -/
def ptpLogAnnounce (p : Nat) : Nat := addrOf 0x03 (0x0010 + p) 0x03
/-- `ptp_log_delay` (R431). -/
def ptpLogDelay (p : Nat) : Nat := addrOf 0x03 (0x0010 + p) 0x04
/-- `ptp_announce_to` (R431). -/
def ptpAnnounceTo (p : Nat) : Nat := addrOf 0x03 (0x0010 + p) 0x05
/-- `ptp_transport` (R431). -/
def ptpTransport (p : Nat) : Nat := addrOf 0x03 (0x0010 + p) 0x06
/-- `ptp_tx_lat` (R431). -/
def ptpTxLat (p : Nat) : Nat := addrOf 0x03 (0x0010 + p) 0x07
/-- `ptp_rx_lat` (R431). -/
def ptpRxLat (p : Nat) : Nat := addrOf 0x03 (0x0010 + p) 0x08
/-- `ptp_asym` (R431). -/
def ptpAsym (p : Nat) : Nat := addrOf 0x03 (0x0010 + p) 0x09
/-- `ptp_state` (R431). -/
def ptpState (p : Nat) : Nat := addrOf 0x03 (0x0010 + p) 0x10
/-- `ptp_offset` (R431). -/
def ptpOffset (p : Nat) : Nat := addrOf 0x03 (0x0010 + p) 0x11
/-- `ptp_mean_delay` (R431). -/
def ptpMeanDelay (p : Nat) : Nat := addrOf 0x03 (0x0010 + p) 0x12
/-- `ptp_gm_id` (R431). -/
def ptpGmId (p : Nat) : Nat := addrOf 0x03 (0x0010 + p) 0x13
/-- `ptp_gm_class` (R431). -/
def ptpGmClass (p : Nat) : Nat := addrOf 0x03 (0x0010 + p) 0x14
/-- `ptp_gm_acc` (R431). -/
def ptpGmAcc (p : Nat) : Nat := addrOf 0x03 (0x0010 + p) 0x15
/-- `ptp_gm_var` (R431). -/
def ptpGmVar (p : Nat) : Nat := addrOf 0x03 (0x0010 + p) 0x16
/-- `ptp_losses` (R431). -/
def ptpLosses (p : Nat) : Nat := addrOf 0x03 (0x0010 + p) 0x17
/-- `ref_prio0` (R432). -/
def refPrio (e : Nat) : Nat := addrOf 0x04 0x0000 (0x00 + e)
/-- `ref_revertive` (R432). -/
def refRevertive : Nat := addrOf 0x04 0x0000 0x08
/-- `ref_wtr` (R432). -/
def refWtr : Nat := addrOf 0x04 0x0000 0x09
/-- `ref_q_coach` (R432). -/
def refQCoach : Nat := addrOf 0x04 0x0000 0x0a
/-- `dpll_bw_h` (R432). -/
def dpllBwH : Nat := addrOf 0x04 0x0000 0x0b
/-- `dpll_bw_q` (R432). -/
def dpllBwQ : Nat := addrOf 0x04 0x0000 0x0c
/-- `hold_avg` (R432). -/
def holdAvg : Nat := addrOf 0x04 0x0000 0x0d
/-- `ref_selected` (R432). -/
def refSelected : Nat := addrOf 0x04 0x0000 0x10
/-- `time_state` (R432). -/
def timeState : Nat := addrOf 0x04 0x0000 0x11
/-- `dpll_phase_err` (R432). -/
def dpllPhaseErr : Nat := addrOf 0x04 0x0000 0x12
/-- `dpll_freq` (R432). -/
def dpllFreq : Nat := addrOf 0x04 0x0000 0x13
/-- `ref_switches` (R432). -/
def refSwitches : Nat := addrOf 0x04 0x0000 0x14
/-- `href_num` (R433). -/
def hrefNum (c : Nat) : Nat := addrOf 0x04 (0x0100 + c) 0x00
/-- `href_den` (R433). -/
def hrefDen (c : Nat) : Nat := addrOf 0x04 (0x0100 + c) 0x01
/-- `href_offset` (R433). -/
def hrefOffset (c : Nat) : Nat := addrOf 0x04 (0x0100 + c) 0x02
/-- `href_edge` (R433). -/
def hrefEdge (c : Nat) : Nat := addrOf 0x04 (0x0100 + c) 0x03
/-- `href_accept` (R433). -/
def hrefAccept (c : Nat) : Nat := addrOf 0x04 (0x0100 + c) 0x04
/-- `href_accept_time` (R433). -/
def hrefAcceptTime (c : Nat) : Nat := addrOf 0x04 (0x0100 + c) 0x05
/-- `href_reject` (R433). -/
def hrefReject (c : Nat) : Nat := addrOf 0x04 (0x0100 + c) 0x06
/-- `href_missing` (R433). -/
def hrefMissing (c : Nat) : Nat := addrOf 0x04 (0x0100 + c) 0x07
/-- `href_state` (R433). -/
def hrefState (c : Nat) : Nat := addrOf 0x04 (0x0100 + c) 0x10
/-- `href_freq_err` (R433). -/
def hrefFreqErr (c : Nat) : Nat := addrOf 0x04 (0x0100 + c) 0x11
/-- `href_phase` (R433). -/
def hrefPhase (c : Nat) : Nat := addrOf 0x04 (0x0100 + c) 0x12
/-- `po_enable` (R434). -/
def poEnable (o : Nat) : Nat := addrOf 0x04 (0x0200 + o) 0x00
/-- `po_num` (R434). -/
def poNum (o : Nat) : Nat := addrOf 0x04 (0x0200 + o) 0x01
/-- `po_den` (R434). -/
def poDen (o : Nat) : Nat := addrOf 0x04 (0x0200 + o) 0x02
/-- `po_align` (R434). -/
def poAlign (o : Nat) : Nat := addrOf 0x04 (0x0200 + o) 0x03
/-- `po_offset` (R434). -/
def poOffset (o : Nat) : Nat := addrOf 0x04 (0x0200 + o) 0x04
/-- `po_width` (R434). -/
def poWidth (o : Nat) : Nat := addrOf 0x04 (0x0200 + o) 0x05
/-- `po_state` (R434). -/
def poState (o : Nat) : Nat := addrOf 0x04 (0x0200 + o) 0x10
/-- `clk_base` (R435). -/
def clkBase : Nat := addrOf 0x04 0x0300 0x00
/-- `clk_state` (R435). -/
def clkState : Nat := addrOf 0x04 0x0300 0x01
/-- `clk_safe_count` (R435). -/
def clkSafeCount : Nat := addrOf 0x04 0x0300 0x02
/-- `clk_safe_cause` (R435). -/
def clkSafeCause : Nat := addrOf 0x04 0x0300 0x03
/-- `clk_safe_time` (R435). -/
def clkSafeTime : Nat := addrOf 0x04 0x0300 0x04
/-- `dvfs_min` (R437). -/
def dvfsMin : Nat := addrOf 0x04 0x0400 0x00
/-- `dvfs_max` (R437). -/
def dvfsMax : Nat := addrOf 0x04 0x0400 0x01
/-- `dvfs_if` (R437). -/
def dvfsIf : Nat := addrOf 0x04 0x0400 0x02
/-- `dvfs_pmbus_addr` (R437). -/
def dvfsPmbusAddr : Nat := addrOf 0x04 0x0400 0x03
/-- `dvfs_settle` (R437). -/
def dvfsSettle : Nat := addrOf 0x04 0x0400 0x04
/-- `dvfs_state` (R437). -/
def dvfsState : Nat := addrOf 0x04 0x0400 0x10
/-- `dvfs_point` (R437). -/
def dvfsPoint : Nat := addrOf 0x04 0x0400 0x11
/-- `dvfs_changes` (R437). -/
def dvfsChanges : Nat := addrOf 0x04 0x0400 0x12
/-- `dvfs_errors` (R437). -/
def dvfsErrors : Nat := addrOf 0x04 0x0400 0x13
/-- `dram_channels` (R469). -/
def dramChannels : Nat := addrOf 0x0B 0x0000 0x00
/-- `dram_ch_size` (R469). -/
def dramChSize : Nat := addrOf 0x0B 0x0000 0x01
/-- `dram_rate` (R469). -/
def dramRate : Nat := addrOf 0x0B 0x0000 0x02
/-- `dram_engine_segs` (R469). -/
def dramEngineSegs : Nat := addrOf 0x0B 0x0000 0x03
/-- `dram_user_size` (R469). -/
def dramUserSize : Nat := addrOf 0x0B 0x0000 0x04
/-- `dram_retain` (R469). -/
def dramRetain : Nat := addrOf 0x0B 0x0000 0x05
/-- `dram_retrain_ms` (R469). -/
def dramRetrainMs : Nat := addrOf 0x0B 0x0000 0x06
/-- `dram_scrub_hours` (R469). -/
def dramScrubHours : Nat := addrOf 0x0B 0x0000 0x07
/-- `dram_ce_limit` (R469). -/
def dramCeLimit : Nat := addrOf 0x0B 0x0000 0x08
/-- `dram_clear` (R469). -/
def dramClear : Nat := addrOf 0x0B 0x0000 0x0f
/-- `dc_ce` (R470). -/
def dcCe (ch : Nat) : Nat := addrOf 0x0B (0x0010 + ch) 0x00
/-- `dc_ue` (R470). -/
def dcUe (ch : Nat) : Nat := addrOf 0x0B (0x0010 + ch) 0x01
/-- `dc_load_exp` (R470). -/
def dcLoadExp (ch : Nat) : Nat := addrOf 0x0B (0x0010 + ch) 0x02
/-- `dc_load_first` (R470). -/
def dcLoadFirst (ch : Nat) : Nat := addrOf 0x0B (0x0010 + ch) 0x03
/-- `dc_load_second` (R470). -/
def dcLoadSecond (ch : Nat) : Nat := addrOf 0x0B (0x0010 + ch) 0x04
/-- `dc_load_bulk` (R470). -/
def dcLoadBulk (ch : Nat) : Nat := addrOf 0x0B (0x0010 + ch) 0x05
/-- `dc_promoted` (R470). -/
def dcPromoted (ch : Nat) : Nat := addrOf 0x0B (0x0010 + ch) 0x06
/-- `dc_retrains` (R470). -/
def dcRetrains (ch : Nat) : Nat := addrOf 0x0B (0x0010 + ch) 0x07
/-- `dc_redirects` (R470). -/
def dcRedirects (ch : Nat) : Nat := addrOf 0x0B (0x0010 + ch) 0x08
/-- `dc_repaired` (R470). -/
def dcRepaired (ch : Nat) : Nat := addrOf 0x0B (0x0010 + ch) 0x09
/-- `dc_waiting` (R470). -/
def dcWaiting (ch : Nat) : Nat := addrOf 0x0B (0x0010 + ch) 0x0a
/-- `dm_size` (R471). -/
def dmSize (r : Nat) : Nat := addrOf 0x0B (0x0100 + r) 0x00
/-- `dm_grain` (R471). -/
def dmGrain (r : Nat) : Nat := addrOf 0x0B (0x0100 + r) 0x01
/-- `dm_channel` (R471). -/
def dmChannel (r : Nat) : Nat := addrOf 0x0B (0x0100 + r) 0x02
/-- `dram_win_addr` (R472). -/
def dramWinAddr : Nat := addrOf 0x0B 0x0200 0x00
/-- `dram_win_data` (R472). -/
def dramWinData : Nat := addrOf 0x0B 0x0200 0x01
/-- `bist_enable` (R473). -/
def bistEnable : Nat := addrOf 0x0B 0x0300 0x00
/-- `bist_period` (R473). -/
def bistPeriod : Nat := addrOf 0x0B 0x0300 0x01
/-- `bist_regions` (R473). -/
def bistRegions : Nat := addrOf 0x0B 0x0300 0x02
/-- `bist_repairs` (R473). -/
def bistRepairs : Nat := addrOf 0x0B 0x0300 0x03
/-- `bist_unrepaired` (R473). -/
def bistUnrepaired : Nat := addrOf 0x0B 0x0300 0x04
/-- `sram_ce` (R473). -/
def sramCe : Nat := addrOf 0x0B 0x0300 0x05
/-- `fab_decode_err` (R473). -/
def fabDecodeErr : Nat := addrOf 0x0B 0x0400 0x00
/-- `fab_decode_addr` (R473). -/
def fabDecodeAddr : Nat := addrOf 0x0B 0x0400 0x01
/-- `fab_denied` (R473). -/
def fabDenied : Nat := addrOf 0x0B 0x0400 0x02
/-- `sram_clear` (R473). -/
def sramClear : Nat := addrOf 0x0B 0x0400 0x0f
/-- `tw_enable` (R501). -/
def twEnable : Nat := addrOf 0x0A 0x0000 0x00
/-- `tw_rank` (R501). -/
def twRank : Nat := addrOf 0x0A 0x0000 0x01
/-- `tw_fail_rounds` (R501). -/
def twFailRounds : Nat := addrOf 0x0A 0x0000 0x02
/-- `tw_courier_wait` (R501). -/
def twCourierWait : Nat := addrOf 0x0A 0x0000 0x03
/-- `tw_mismatch_limit` (R501). -/
def twMismatchLimit : Nat := addrOf 0x0A 0x0000 0x04
/-- `tw_alone_wait` (R501). -/
def twAloneWait : Nat := addrOf 0x0A 0x0000 0x05
/-- `tw_resync` (R501). -/
def twResync : Nat := addrOf 0x0A 0x0000 0x06
/-- `tw_clear` (R501). -/
def twClear : Nat := addrOf 0x0A 0x0000 0x0f
/-- `tw_role` (R502). -/
def twRole : Nat := addrOf 0x0A 0x0000 0x10
/-- `tw_claim` (R502). -/
def twClaim : Nat := addrOf 0x0A 0x0000 0x11
/-- `tw_partner_claim` (R502). -/
def twPartnerClaim : Nat := addrOf 0x0A 0x0000 0x12
/-- `tw_health` (R502). -/
def twHealth : Nat := addrOf 0x0A 0x0000 0x13
/-- `tw_penalties` (R502). -/
def twPenalties : Nat := addrOf 0x0A 0x0000 0x14
/-- `tw_paths` (R502). -/
def twPaths : Nat := addrOf 0x0A 0x0000 0x15
/-- `tw_partner_engine` (R502). -/
def twPartnerEngine : Nat := addrOf 0x0A 0x0000 0x16
/-- `tw_refusal` (R502). -/
def twRefusal : Nat := addrOf 0x0A 0x0000 0x17
/-- `tw_takeovers` (R502). -/
def twTakeovers : Nat := addrOf 0x0A 0x0000 0x18
/-- `tw_mismatches` (R502). -/
def twMismatches : Nat := addrOf 0x0A 0x0000 0x19
/-- `tw_last_drove` (R502). -/
def twLastDrove : Nat := addrOf 0x0A 0x0000 0x1a
/-- `tw_resync_progress` (R502). -/
def twResyncProgress : Nat := addrOf 0x0A 0x0000 0x1b
/-- `tw_resync_attempts` (R502). -/
def twResyncAttempts : Nat := addrOf 0x0A 0x0000 0x1c
/-- `psc_on` (R529). -/
def pscOn (n : Nat) : Nat := addrOf 0x1E (0x0000 + n) 0x00
/-- `psc_profile` (R529). -/
def pscProfile (n : Nat) : Nat := addrOf 0x1E (0x0000 + n) 0x01
/-- `psc_vfs` (R529). -/
def pscVfs (n : Nat) : Nat := addrOf 0x1E (0x0000 + n) 0x02
/-- `psc_sv_scale` (R529). -/
def pscSvScale (n : Nat) : Nat := addrOf 0x1E (0x0000 + n) 0x03
/-- `psc_si_scale` (R529). -/
def pscSiScale (n : Nat) : Nat := addrOf 0x1E (0x0000 + n) 0x04
/-- `psc_filt_l` (R529). -/
def pscFiltL (n : Nat) : Nat := addrOf 0x1E (0x0000 + n) 0x05
/-- `psc_filt_c` (R529). -/
def pscFiltC (n : Nat) : Nat := addrOf 0x1E (0x0000 + n) 0x06
/-- `psc_loop_bw` (R529). -/
def pscLoopBw (n : Nat) : Nat := addrOf 0x1E (0x0000 + n) 0x07
/-- `psc_dead` (R529). -/
def pscDead (n : Nat) : Nat := addrOf 0x1E (0x0000 + n) 0x08
/-- `psc_oc_blank` (R529). -/
def pscOcBlank (n : Nat) : Nat := addrOf 0x1E (0x0000 + n) 0x09
/-- `psc_model` (R529). -/
def pscModel (n : Nat) : Nat := addrOf 0x1E (0x0000 + n) 0x0a
/-- `psc_test_on_start` (R529). -/
def pscTestOnStart (n : Nat) : Nat := addrOf 0x1E (0x0000 + n) 0x0b
/-- `psc_r_min` (R529). -/
def pscRMin (n : Nat) : Nat := addrOf 0x1E (0x0000 + n) 0x0c
/-- `psc_r_max` (R529). -/
def pscRMax (n : Nat) : Nat := addrOf 0x1E (0x0000 + n) 0x0d
/-- `psc_soft` (R529). -/
def pscSoft (n : Nat) : Nat := addrOf 0x1E (0x0000 + n) 0x0e
/-- `psc_test` (R529). -/
def pscTest (n : Nat) : Nat := addrOf 0x1E (0x0000 + n) 0x0f
/-- `psc_unlatch` (R529). -/
def pscUnlatch (n : Nat) : Nat := addrOf 0x1E (0x0000 + n) 0x10
/-- `psc_state` (R529). -/
def pscState (n : Nat) : Nat := addrOf 0x1E (0x0000 + n) 0x18
/-- `psc_retries` (R529). -/
def pscRetries (n : Nat) : Nat := addrOf 0x1E (0x0000 + n) 0x19
/-- `psc_next_retry` (R529). -/
def pscNextRetry (n : Nat) : Nat := addrOf 0x1E (0x0000 + n) 0x1a
/-- `psc_cut_cycles` (R529). -/
def pscCutCycles (n : Nat) : Nat := addrOf 0x1E (0x0000 + n) 0x1b
/-- `psc_shutdowns` (R529). -/
def pscShutdowns (n : Nat) : Nat := addrOf 0x1E (0x0000 + n) 0x1c
/-- `psc_meas_r` (R529). -/
def pscMeasR (n : Nat) : Nat := addrOf 0x1E (0x0000 + n) 0x1d
/-- `psc_i_peak` (R529). -/
def pscIPeak (n : Nat) : Nat := addrOf 0x1E (0x0000 + n) 0x1e
/-- `psc_x_peak` (R529). -/
def pscXPeak (n : Nat) : Nat := addrOf 0x1E (0x0000 + n) 0x1f
/-- `psc_t_coil` (R529). -/
def pscTCoil (n : Nat) : Nat := addrOf 0x1E (0x0000 + n) 0x20
/-- `psc_gr` (R529). -/
def pscGr (n : Nat) : Nat := addrOf 0x1E (0x0000 + n) 0x21
/-- `psc_clear` (R529). -/
def pscClear (n : Nat) : Nat := addrOf 0x1E (0x0000 + n) 0x2f
/-- `pg_fsw_mode` (R530). -/
def pgFswMode (g : Nat) : Nat := addrOf 0x1E (0x0100 + g) 0x00
/-- `pg_fsw_pref` (R530). -/
def pgFswPref (g : Nat) : Nat := addrOf 0x1E (0x0100 + g) 0x01
/-- `pg_stagger_run` (R530). -/
def pgStaggerRun (g : Nat) : Nat := addrOf 0x1E (0x0100 + g) 0x02
/-- `pg_fsw` (R530). -/
def pgFsw (g : Nat) : Nat := addrOf 0x1E (0x0100 + g) 0x03
/-- `pg_fsw_clear` (R530). -/
def pgFswClear (g : Nat) : Nat := addrOf 0x1E (0x0100 + g) 0x04
/-- `pg_margin` (R530). -/
def pgMargin (g : Nat) : Nat := addrOf 0x1E (0x0100 + g) 0x05
/-- `pg_channels_on` (R530). -/
def pgChannelsOn (g : Nat) : Nat := addrOf 0x1E (0x0100 + g) 0x06
/-- `psc_excl0` (R530). -/
def pscExcl (e : Nat) : Nat := addrOf 0x1E 0x0200 (0x00 + e)
/-- `lm_bl` (R531). -/
def lmBl (j : Nat) : Nat := addrOf 0x1F (0x0000 + j) 0x00
/-- `lm_mms` (R531). -/
def lmMms (j : Nat) : Nat := addrOf 0x1F (0x0000 + j) 0x01
/-- `lm_kms` (R531). -/
def lmKms (j : Nat) : Nat := addrOf 0x1F (0x0000 + j) 0x02
/-- `lm_rms` (R531). -/
def lmRms (j : Nat) : Nat := addrOf 0x1F (0x0000 + j) 0x03
/-- `lm_re` (R531). -/
def lmRe (j : Nat) : Nat := addrOf 0x1F (0x0000 + j) 0x04
/-- `lm_le` (R531). -/
def lmLe (j : Nat) : Nat := addrOf 0x1F (0x0000 + j) 0x05
/-- `lm_xmax` (R531). -/
def lmXmax (j : Nat) : Nat := addrOf 0x1F (0x0000 + j) 0x06
/-- `lm_rth_vc` (R531). -/
def lmRthVc (j : Nat) : Nat := addrOf 0x1F (0x0000 + j) 0x07
/-- `lm_tau_vc` (R531). -/
def lmTauVc (j : Nat) : Nat := addrOf 0x1F (0x0000 + j) 0x08
/-- `lm_rth_mag` (R531). -/
def lmRthMag (j : Nat) : Nat := addrOf 0x1F (0x0000 + j) 0x09
/-- `lm_tau_mag` (R531). -/
def lmTauMag (j : Nat) : Nat := addrOf 0x1F (0x0000 + j) 0x0a
/-- `lm_tmax` (R531). -/
def lmTmax (j : Nat) : Nat := addrOf 0x1F (0x0000 + j) 0x0b
/-- `lm_t_amb` (R531). -/
def lmTAmb (j : Nat) : Nat := addrOf 0x1F (0x0000 + j) 0x0c
/-- `lm_release` (R531). -/
def lmRelease (j : Nat) : Nat := addrOf 0x1F (0x0000 + j) 0x0d
/-- `lm_label` (R531). -/
def lmLabel (j : Nat) : Nat := addrOf 0x1F (0x0000 + j) 0x0e
/-- `mode` (R562). -/
def mode : Nat := addrOf 0x01 0x0000 0x00
/-- `mode_request` (R562). -/
def modeRequest : Nat := addrOf 0x01 0x0000 0x01
/-- `mode_prev` (R562). -/
def modePrev : Nat := addrOf 0x01 0x0000 0x02
/-- `mode_time` (R562). -/
def modeTime : Nat := addrOf 0x01 0x0000 0x03
/-- `boot_status` (R562). -/
def bootStatus : Nat := addrOf 0x01 0x0000 0x04
/-- `boot_slot` (R562). -/
def bootSlot : Nat := addrOf 0x01 0x0000 0x05
/-- `boot_fallback` (R562). -/
def bootFallback : Nat := addrOf 0x01 0x0000 0x06
/-- `reset_cause` (R562). -/
def resetCause : Nat := addrOf 0x01 0x0000 0x07
/-- `reset_request` (R562). -/
def resetRequest : Nat := addrOf 0x01 0x0000 0x08
/-- `boot_auto_run` (R562). -/
def bootAutoRun : Nat := addrOf 0x01 0x0000 0x09
/-- `fault_cause` (R562). -/
def faultCause : Nat := addrOf 0x01 0x0000 0x0a
/-- `fault_record` (R562). -/
def faultRecord : Nat := addrOf 0x01 0x0000 0x0b
/-- `fault_auto_reset` (R562). -/
def faultAutoReset : Nat := addrOf 0x01 0x0000 0x0c
/-- `pd_on` (R563). -/
def pdOn (i : Nat) : Nat := addrOf 0x0C (0x0000 + i) 0x00
/-- `pd_state` (R563). -/
def pdState (i : Nat) : Nat := addrOf 0x0C (0x0000 + i) 0x01
/-- `die_temp` (R563). -/
def dieTemp : Nat := addrOf 0x0C 0x0100 0x00
/-- `die_temp_max` (R563). -/
def dieTempMax : Nat := addrOf 0x0C 0x0100 0x01
/-- `th_fault` (R563). -/
def thFault : Nat := addrOf 0x0C 0x0100 0x02
/-- `pwr_est` (R563). -/
def pwrEst : Nat := addrOf 0x0C 0x0100 0x03
/-- `pwr_est_max` (R563). -/
def pwrEstMax : Nat := addrOf 0x0C 0x0100 0x04
/-- `th_clear` (R563). -/
def thClear : Nat := addrOf 0x0C 0x0100 0x0f
/-- `upd_data` (R564). -/
def updData : Nat := addrOf 0x0D 0x0000 0x00
/-- `upd_state` (R564). -/
def updState : Nat := addrOf 0x0D 0x0000 0x01
/-- `upd_fail` (R564). -/
def updFail : Nat := addrOf 0x0D 0x0000 0x02
/-- `upd_progress` (R564). -/
def updProgress : Nat := addrOf 0x0D 0x0000 0x03
/-- `upd_verify` (R564). -/
def updVerify : Nat := addrOf 0x0D 0x0000 0x04
/-- `upd_activate` (R564). -/
def updActivate : Nat := addrOf 0x0D 0x0000 0x05
/-- `upd_confirm` (R564). -/
def updConfirm : Nat := addrOf 0x0D 0x0000 0x06
/-- `upd_abort` (R564). -/
def updAbort : Nat := addrOf 0x0D 0x0000 0x07
/-- `slot_a_version` (R564). -/
def slotAVersion : Nat := addrOf 0x0D 0x0000 0x08
/-- `slot_b_version` (R564). -/
def slotBVersion : Nat := addrOf 0x0D 0x0000 0x09
/-- `rollback_count` (R564). -/
def rollbackCount : Nat := addrOf 0x0D 0x0000 0x0a
/-- `settings_save` (R564). -/
def settingsSave : Nat := addrOf 0x0D 0x0100 0x00
/-- `settings_autosave` (R564). -/
def settingsAutosave : Nat := addrOf 0x0D 0x0100 0x01
/-- `settings_seq` (R564). -/
def settingsSeq : Nat := addrOf 0x0D 0x0100 0x02
/-- `settings_factory` (R564). -/
def settingsFactory : Nat := addrOf 0x0D 0x0100 0x03
/-- `sec_owner_hash` (R564). -/
def secOwnerHash : Nat := addrOf 0x0D 0x0200 0x00
/-- `sec_owner_req` (R564). -/
def secOwnerReq : Nat := addrOf 0x0D 0x0200 0x01
/-- `sec_debug_off` (R564). -/
def secDebugOff : Nat := addrOf 0x0D 0x0200 0x02
/-- `sec_fuses` (R564). -/
def secFuses : Nat := addrOf 0x0D 0x0200 0x03
/-- `dbg_state` (R564). -/
def dbgState : Nat := addrOf 0x0D 0x0200 0x04

end El

end Sys2Proof.Machine
end

