-- ==== Sys2Proof/Machine/Ops.lean ====
section
/-! DEFINITION. The named operations over the state: sparse tables, the object dictionary and its defaults, time. -/

namespace Sys2Proof.Machine

/-! ### Sparse tables -/

/-- The value at key `k`; an unlisted key holds `d`. -/
def Tab.get {α : Type} (d : α) : Tab α → Nat → α
  | [], _ => d
  | (k', v) :: m, k => if k' = k then v else Tab.get d m k

/-- Remove key `k`. -/
def Tab.drop {α : Type} : Tab α → Nat → Tab α
  | [], _ => []
  | (k', v) :: m, k => if k' = k then Tab.drop m k else (k', v) :: Tab.drop m k

/-- Insert a key and its value in key order. -/
def Tab.ins {α : Type} (k : Nat) (v : α) : Tab α → Tab α
  | [] => [(k, v)]
  | (k', v') :: m => if k < k' then (k, v) :: (k', v') :: m else if k = k' then (k, v) :: m else (k', v') :: Tab.ins k v m

/-- Write `v` at key `k`; the value of an unlisted key removes the entry. -/
def Tab.put {α : Type} [DecidableEq α] (d : α) (m : Tab α) (k : Nat) (v : α) : Tab α :=
  if v = d then m.drop k else m.ins k v

/-- The canonical form: strictly rising keys, and no entry that equals what its key reads as unlisted. -/
def Tab.wf {α : Type} [DecidableEq α] (d : Nat → α) : Tab α → Bool
  | [] => true
  | [(k, v)] => decide (v ≠ d k)
  | (k, v) :: (k', v') :: m => decide (v ≠ d k) && decide (k < k') && Tab.wf d ((k', v') :: m)

/-! ### Variants (R17 to R23, R31) -/

namespace Variant
def clusters : Variant → Nat | ivm7424 => 8 | ivm7416 => 4 | ivm7408 => 2
def strips : Variant → Nat | ivm7424 => 1024 | ivm7416 => 512 | ivm7408 => 256
def buses : Variant → Nat | ivm7424 => 512 | ivm7416 => 256 | ivm7408 => 128
def sources : Variant → Nat | ivm7424 => 2048 | ivm7416 => 1024 | ivm7408 => 512
def dests : Variant → Nat | ivm7424 => 512 | ivm7416 => 256 | ivm7408 => 128
def serialPorts : Variant → Nat | ivm7424 => 24 | ivm7416 => 24 | ivm7408 => 12
def asrcChannels : Variant → Nat | ivm7424 => 256 | ivm7416 => 256 | ivm7408 => 128
def pscChannels : Variant → Nat | ivm7424 => 32 | ivm7416 => 16 | ivm7408 => 0
def dramChannels : Variant → Nat | ivm7424 => 4 | ivm7416 => 4 | ivm7408 => 2
/-- The lowest coach link present; links keep their numbers up to 3 (R18). -/
def firstLink : Variant → Nat | ivm7424 => 0 | ivm7416 => 2 | ivm7408 => 3
def net25g : Variant → Bool | ivm7424 => true | ivm7416 => true | ivm7408 => false
def featureMap : Variant → Nat
  | ivm7424 => 0x0000_0000_000F_FF08 | ivm7416 => 0x0000_0000_001D_F104 | ivm7408 => 0x0000_0000_0008_2002
def deviceCode : Variant → Nat | ivm7424 => 0x7424 | ivm7416 => 0x7416 | ivm7408 => 0x7408
end Variant

/-! ### The object dictionary (R240 to R244) -/

/-- The text "Gulsia Semiconductor" in 32 bytes (R241, R246). -/
def vendorText : List Byte :=
  [0x47, 0x75, 0x6C, 0x73, 0x69, 0x61, 0x20, 0x53, 0x65, 0x6D, 0x69, 0x63, 0x6F, 0x6E, 0x64, 0x75, 0x63, 0x74, 0x6F,
    0x72] ++ List.replicate 12 0

/-- The default priority of transmit ring `r` (R337). -/
def ringPriority (r : Nat) : Nat :=
  if r = 0 then 7 else if r = 1 then 5 else if r = 2 then 4 else if r = 3 then 0 else 6

/-- The defaults that the tables give in words (R246, R358, R360, R432, R433, R434, R469, R471). -/
def specialDefault (v : Variant) (a : Nat) : Val :=
  let o := objectOf a
  let e := elementOf a
  match areaOf a with
  | 0x00 =>
    if o = 0x0010 then .int v.featureMap
    else if e = 0 then .bytes vendorText
    else if e = 1 then .int v.deviceCode
    else if e = 2 then .int (1 + Config.stepping % 255 : Nat)
    else if e = 3 then .int Config.dieId
    else if e = 4 then .int Config.fwVersion
    else .int Config.settingsFormat
  | 0x03 => .int 0
  | 0x04 =>
    if o = 0 then .int (if e = 0 then 0x30 else 0)
    else if o = 0x0204 then .int 1
    else if o / 256 = 2 then .int 96000
    else if o = 0x0101 ∨ o = 0x0102 then .int 96000
    else if o = 0x0104 then .int 25
    else .int 1
  | 0x05 =>
    if e = 0 ∧ o < 3 then .int (if o = 2 then 1 else 0)
    else if e = 1 ∧ o < 3 then .int (if o = 2 ∨ !v.net25g then 0 else 1)
    else if o < 3 then .bytes (Config.portMac o)
    else .int (ringPriority (o % 64))
  | 0x0B => if o = 0 then .int v.dramChannels else .int (if o = 0x0100 then 0xFFFFFFFF else 0)
  | _ => .int 0

/-- What an element holds while nothing has written it: its default (R244). -/
def defaultVal (v : Variant) (a : Nat) : Val :=
  match elemOf a with
  | none => .int 0
  | some e =>
    match e.dflt with
    | .int z => .int z
    | .zeros n => .bytes (List.replicate n 0)
    | .special => specialDefault v a

/-- The value of the element at address `a`. -/
def State.val (s : State) (a : Nat) : Val := Tab.get (defaultVal s.variant a) s.regs a

/-- The number that the element at address `a` holds. -/
def State.int (s : State) (a : Nat) : Int := (s.val a).toInt
def State.nat (s : State) (a : Nat) : Nat := (s.val a).toNat
/-- Whether a BOOL element, or a status that counts from 0, is not 0. -/
def State.on (s : State) (a : Nat) : Bool := decide (s.nat a ≠ 0)

/-- Store a value in an element. -/
def State.setV (s : State) (a : Nat) (v : Val) : State :=
  { s with regs := Tab.put (defaultVal s.variant a) s.regs a v }

/-- Store a number in an element. -/
def State.setN (s : State) (a n : Nat) : State := s.setV a (.int n)
def State.setI (s : State) (a : Nat) (z : Int) : State := s.setV a (.int z)
def State.setB (s : State) (a : Nat) (b : List Byte) : State := s.setV a (.bytes b)

/-- Set each element of a list to a number. -/
def State.setAll (s : State) (l : List Nat) (n : Nat) : State := l.foldl (fun s a => s.setN a n) s

/-- A counter of `bits` bits rises by `n`; a count that no rule lets wrap stays at its largest value (log entry 7). -/
def State.bump (s : State) (a n bits : Nat) : State := s.setN a (min (s.nat a + n) (2 ^ bits - 1))
/-- A U32 counter rises by 1. -/
def State.inc (s : State) (a : Nat) : State := s.bump a 1 32

/-- Raise a "largest since cleared" element to `n`. -/
def State.raise (s : State) (a n : Nat) : State := if s.nat a < n then s.setN a n else s

/-- Take a fresh open value (log entry 3). -/
def State.fresh (s : State) : Nat × State := (Config.freeNat s.free, { s with free := s.free + 1 })
/-- Whether a pulse of a width, in ns, is taken: from `least` on it is, below `noise` it is not, and between them the manual leaves it
open (R581, R583; log entry 118). -/
def State.takesPulse (s : State) (width least noise : Nat) : Bool × State :=
  if least ≤ width then (true, s) else if width < noise then (false, s) else (decide (s.fresh.1 % 2 = 1), s.fresh.2)

/-! ### Modes (R532) -/

/-- The mode code. -/
def State.mode (s : State) : Nat := s.nat El.mode

/-- Rounds run in SOLO, ACTIVE, SHADOW, RESYNC and, while its restart has not stopped them, ACTIVATING, which keeps the
timeline (R532, R553, R554). -/
def State.roundsRun (s : State) : Bool := s.on El.anchorState && !(s.mode == 9 && decide (2 ≤ s.sys.actStep))

/-- Whether bit `m` of a mode set names mode `m`. -/
def inModes (set m : Nat) : Bool := set / 2 ^ m % 2 = 1

/-- Whether the domain of index `i` is up (R31, R563): AO whenever the part has power, CTL outside OFF and DORMANT, the
others where `pd_state` says so. -/
def State.domainUp (s : State) (i : Nat) : Bool :=
  if i = 0 then s.sys.powered else if i = 1 then decide (2 ≤ s.mode) else decide (s.nat (El.pdState i) = 2)

/-- Whether the variant has domain `i` (R31). -/
def domainPresent (v : Variant) (i : Nat) : Bool :=
  if i < 2 then true
  else if i < 10 then decide (i - 2 < v.clusters)
  else if i = 0x0C then decide (v.dramChannels = 4)
  else if i = 0x12 then decide (0 < v.pscChannels)
  else decide (i < 20)

/-! ### Byte strings -/

/-- The value of bytes, least significant first (R241). -/
def leVal : List Byte → Nat
  | [] => 0
  | b :: l => b.toNat + 256 * leVal l

/-- `n` bytes of a number, least significant first. -/
def leBytes : Nat → Nat → List Byte
  | 0, _ => []
  | n + 1, x => BitVec.ofNat 8 x :: leBytes n (x / 256)

/-- `len` items at offset `off`. -/
def slice {α : Type} (b : List α) (off len : Nat) : List α := (b.drop off).take len
/-- The number in `len` bytes at offset `off`. -/
def field (b : List Byte) (off len : Nat) : Nat := leVal (slice b off len)

/-- Bit `i` of a number. -/
def bitOf (n i : Nat) : Bool := decide (n / 2 ^ i % 2 = 1)

/-- A number of `w` bits read as two's complement. -/
def signed (w n : Nat) : Int := if n % 2 ^ w < 2 ^ (w - 1) then (n % 2 ^ w : Nat) else (n % 2 ^ w : Nat) - (2 ^ w : Nat)

/-- The two's complement bits of an integer, as a number of `w` bits. -/
def wrap (w : Nat) (z : Int) : Nat := (z % (2 ^ w : Nat)).toNat

/-- Whether [a, a + n) and [b, b + m) share a place. -/
def overlap (a n b m : Nat) : Bool := decide (a < b + m) && decide (b < a + n) && decide (0 < n) && decide (0 < m)

end Sys2Proof.Machine
end

