-- ==== Sys2Proof/Machine/Operands.lean ====
section
/-! DEFINITION. The operand forms of a DSP core: registers (R168, R210), accumulators (R174 to R176), pointers
(R172, R211) and memories (R164). -/

namespace Sys2Proof.Machine

/-- A core after power-up: every register 0 (R168), every memory cleared (R35), the return stack empty. -/
def Core.cleared : Core where
  d := Vector.replicate 16 0
  a := Vector.replicate 4 0
  p := Vector.replicate 8 0
  n := Vector.replicate 8 0
  l := Vector.replicate 8 0
  b := Vector.replicate 8 0
  lc := Vector.replicate 4 0
  sr := 0
  cyc := 0
  job := 0
  pc := 0
  ret := []
  loops := []
  x := []
  y := []
  prog := []
  now := 0
  flights := []
  run := none
  overflowed := []
  since := 0
  ended := []
  halted := []
  ready := []
  handed := []
  used := []
  libs := []

/-! ### Registers -/

def Core.getD (c : Core) (i : DReg) : Word := c.d.get i
def Core.setD (c : Core) (i : DReg) (v : Word) : Core := { c with d := c.d.set i.val v i.isLt }
def Core.getA (c : Core) (i : Acc) : BitVec 72 := c.a.get i
def Core.setA (c : Core) (i : Acc) (v : BitVec 72) : Core := { c with a := c.a.set i.val v i.isLt }
def Core.getP (c : Core) (i : Ptr) : BitVec 16 := c.p.get i
def Core.setP (c : Core) (i : Ptr) (v : BitVec 16) : Core := { c with p := c.p.set i.val v i.isLt }

/-- The value of a register as a source (R210): 16-bit registers zero-extended, `N0`-`N7` sign-extended. `CYC` is the
count that includes the current instruction (R177, log entry 11). -/
def Core.readReg (c : Core) (cyc : Word) : Reg → Word
  | .d i => c.d.get i
  | .p i => (c.p.get i).setWidth 32
  | .n i => (c.n.get i).signExtend 32
  | .l i => (c.l.get i).setWidth 32
  | .b i => (c.b.get i).setWidth 32
  | .lc i => (c.lc.get i).setWidth 32
  | .sr => c.sr.setWidth 32
  | .cyc => cyc
  | .job => c.job

/-- A write of a register (R210): a 16-bit register keeps bits [15:0]; `CYC` and `JOB` are read only, and a word that
writes them is a reserved encoding, so no decoded instruction names them here. -/
def Core.writeReg (c : Core) (r : Reg) (v : Word) : Core :=
  match r with
  | .d i => c.setD i v
  | .p i => c.setP i (v.setWidth 16)
  | .n i => { c with n := c.n.set i.val (v.setWidth 16) i.isLt }
  | .l i => { c with l := c.l.set i.val (v.setWidth 16) i.isLt }
  | .b i => { c with b := c.b.set i.val (v.setWidth 16) i.isLt }
  | .lc i => { c with lc := c.lc.set i.val (v.setWidth 16) i.isLt }
  | .sr => c.writeSR (v.setWidth 16)
  | .cyc => c
  | .job => c

/-! ### Accumulators (R174 to R176, R183) -/

/-- The exact product of two Q1.31 operands in units of 2^-63, with −1 × −1 delivered as 1 − 2^-63 (R175). -/
def product (x y : Word) : Int :=
  if x = 0x80000000 ∧ y = 0x80000000 then 9223372036854775807 else 2 * (x.toInt * y.toInt)

/-- Whether an exact accumulator value lies outside the range of R174. -/
def out72 (z : Int) : Bool := decide (z < -(2 ^ 71 : Nat)) || decide ((2 ^ 71 : Nat) ≤ z)

/-- An exact value brought to the accumulator (R183). -/
def clip72 (s : Bool) (z : Int) : BitVec 72 :=
  if s && out72 z then (if z < 0 then 0x800000000000000000 else 0x7FFFFFFFFFFFFFFFFF) else BitVec.ofInt 72 z

/-- The job that runs is marked as having overflowed in this round (R183). -/
def Core.markOverflow (c : Core) : Core :=
  match c.run with
  | none => c
  | some p => if p ∈ c.overflowed then c else { c with overflowed := p :: c.overflowed }

/-- Write an exact result to an accumulator under R183: `GVn`, the job's mark, saturation or wrapping. -/
def Core.accumulate (c : Core) (s : Bool) (n : Acc) (z : Int) : Core :=
  let c1 := c.setA n (clip72 s z)
  if out72 z then (c1.raiseGV n true).markOverflow else c1

/-- A whole accumulator written from a data word: `high`, `guard` by sign, `low` 0 (R176). -/
def accOfWord (v : Word) : BitVec 72 := (v.signExtend 40 : BitVec 40) ++ (0 : BitVec 32)

def guardOf (a : BitVec 72) : BitVec 8 := a.extractLsb' 64 8
def highOf (a : BitVec 72) : Word := a.extractLsb' 32 32
def lowOf (a : BitVec 72) : Word := a.extractLsb' 0 32
/-- An accumulator from its three parts (R168). -/
def accParts (g : BitVec 8) (h l : Word) : BitVec 72 := (g ++ h : BitVec 40) ++ l

/-! ### Pointers (R172, R211) -/

/-- The pointer after a step, by linear or circular arithmetic (R172). -/
def stepPtr (p l b : BitVec 16) (s : Int) : BitVec 16 :=
  if l = 0 then BitVec.ofInt 16 (p.toNat + s)
  else
    let len : Nat := min l.toNat 32768
    BitVec.ofInt 16 (b.toNat + ((p.toNat : Int) - b.toNat + s) % len)

/-- The step that a modify code names for pointer `i` (R211). -/
def Core.modStep (c : Core) (i : Ptr) : Mod → Int
  | .keep => 0
  | .inc => 1
  | .dec => -1
  | .byN => (c.n.get i).toInt

/-- The value of pointer `i` after a post-modify; a code of no change leaves it (R172). -/
def Core.modPtr (c : Core) (i : Ptr) (m : Mod) : BitVec 16 :=
  match m with
  | .keep => c.getP i
  | _ => stepPtr (c.getP i) (c.l.get i) (c.b.get i) (c.modStep i m)

/-- The memory word that a pointer value addresses: bit [15] is ignored (R168). -/
def wordAt (p : BitVec 16) : Nat := p.toNat % 32768

/-- What an unlisted word of X, of Y or of program memory holds: 0, but for what the loader laid down for a strip job, whose
contents no rule gives (R233, log entry 3). -/
def Core.blankX (c : Core) (w : Nat) : Word :=
  match c.libs.find? (fun l => decide (l.xAt ≤ w) && decide (w < l.xAt + l.xLen)) with
  | none => 0
  | some l => Config.libX l.program (w - l.xAt)
def Core.blankY (c : Core) (w : Nat) : Word :=
  match c.libs.find? (fun l => decide (l.yAt ≤ w) && decide (w < l.yAt + l.yLen)) with
  | none => 0
  | some l => Config.libY l.program (w - l.yAt)

def Core.readX (c : Core) (w : Nat) : Word := Tab.get (c.blankX w) c.x w
def Core.readY (c : Core) (w : Nat) : Word := Tab.get (c.blankY w) c.y w
def Core.writeX (c : Core) (w : Nat) (v : Word) : Core := { c with x := Tab.put (c.blankX w) c.x w v }
def Core.writeY (c : Core) (w : Nat) (v : Word) : Core := { c with y := Tab.put (c.blankY w) c.y w v }

/-! ### Interlock (R188, R228) -/

/-- How an instruction uses a result. -/
inductive Use where | macAcc | accRead | macOp | alu | store | move | access | branch | other
deriving DecidableEq, Repr

/-- The distance from a producer to a use (R188, R228); 1 where neither table names the pair. -/
def distance : Prod → Use → Nat
  | .mac, .accRead => 3
  | .ldacc, .accRead => 3
  | .load, _ => 2
  | .alu, .macOp => 2
  | .move, .access => 3
  | .sr, _ => 2
  | .mul, _ => 2
  | .log, _ => 3
  | _, _ => 1

/-- The stall of an instruction that issues at cycle `now` with the given uses. -/
def Core.stall (c : Core) (uses : List (Res × Use)) : Nat :=
  uses.foldl (fun m u =>
    c.flights.foldl (fun m f => if f.res = u.1 then max m (f.at_ + distance f.prod u.2 - c.now) else m) m) 0

/-- Note the results of an instruction that issued at cycle `t`; a newer result of a register replaces the older one,
and results that every use can see are forgotten. -/
def Core.produce (c : Core) (t : Nat) (l : List (Res × Prod)) : Core :=
  let keep := c.flights.filter (fun f => decide (t < f.at_ + 3) && !(l.any (fun w => decide (w.1 = f.res))))
  { c with flights := l.map (fun w => ⟨w.1, w.2, t⟩) ++ keep }

end Sys2Proof.Machine
end

