-- ==== Sys2Proof/Machine/DspCore.lean ====
section
/-! DEFINITION. A DSP core executes one instruction (R165 to R167, R172 to R177, R183 to R190, R203 to R228). -/

namespace Sys2Proof.Machine

/-! ### MAC-class operations (R213, R214, R216) -/

/-- The operands of an FTAP: the words that its X and Y pointers address, as they stood before the bundle. -/
abbrev Tap := Word × Word

/-- One MAC slot on the accumulators that it finds; `c0` holds the registers as they stood before the bundle, `c` the
core after the earlier slot. An accumulator operand `Am` is read before the bundle unless slot 0 wrote it (R214). MACR's
overflow is judged on the rounded result (DESIGN CHOICE, log entry 90). -/
def macSlot (c0 c : Core) (first : Option Acc) (tap : Tap) : SlotOp → Core
  | .nop => c
  | .mac s an da db => c.accumulate s an ((c.getA an).toInt + product (c0.getD da) (c0.getD db))
  | .msu s an da db => c.accumulate s an ((c.getA an).toInt - product (c0.getD da) (c0.getD db))
  | .mpy s an da db => c.accumulate s an (product (c0.getD da) (c0.getD db))
  | .mpyn s an da db => c.accumulate s an (-(product (c0.getD da) (c0.getD db)))
  | .macr s an da db =>
    c.accumulate s an (roundShift ((c.getA an).toInt + product (c0.getD da) (c0.getD db)) 32 * (2 ^ 32 : Nat))
  | .ftap s an => c.accumulate s an ((c.getA an).toInt + product tap.1 tap.2)
  | .adda s an am => c.accumulate s an ((c.getA an).toInt + (source am).toInt)
  | .suba s an am => c.accumulate s an ((c.getA an).toInt - (source am).toInt)
  | .clr an => c.setA an 0
  | .mova an am => c.setA an (source am)
where
  /-- `Am` as slot 1 sees it: slot 0's result where slot 0 names it as destination, the old value otherwise. -/
  source (am : Acc) : BitVec 72 := if first = some am then c.getA am else c0.getA am

/-- The accumulator that a slot writes. -/
def slotDest : SlotOp → Option Acc
  | .nop => none
  | .mac _ an _ _ | .msu _ an _ _ | .mpy _ an _ _ | .mpyn _ an _ _ | .macr _ an _ _ => some an
  | .ftap _ an | .adda _ an _ | .suba _ an _ | .clr an | .mova an _ => some an

/-- Whether a slot holds FTAP. -/
def slotTap : SlotOp → Bool
  | .ftap _ _ => true
  | _ => false

/-- The registers that a slot uses (R188, R228). -/
def slotUses : SlotOp → List (Res × Use)
  | .nop => []
  | .mac _ an da db | .msu _ an da db | .macr _ an da db => [(.a an, .macAcc), (.d da, .macOp), (.d db, .macOp)]
  | .mpy _ _ da db | .mpyn _ _ da db => [(.d da, .macOp), (.d db, .macOp)]
  | .ftap _ an => [(.a an, .macAcc)]
  | .adda _ an am | .suba _ an am => [(.a an, .macAcc), (.a am, .macAcc)]
  | .clr _ => []
  | .mova _ am => [(.a am, .macAcc)]

def slotMakes (o : SlotOp) : List (Res × Prod) :=
  match slotDest o with
  | none => []
  | some an => [(.a an, .mac)]

/-! ### Moves (R165 to R167, R207, R215, R217) -/

/-- The X words that a bundle reads and writes, in slot order (R166). -/
def bundleXReads (c : Core) (b : Bundle) : List Nat :=
  match b.mv with
  | .normal (.load _ px _) _ => [wordAt (c.getP px)]
  | .normal _ _ => []
  | .ftap pa pb _ _ _ _ =>
    (if slotTap b.s0 then [wordAt (c.getP pa)] else []) ++ (if slotTap b.s1 then [wordAt (c.getP pb)] else [])

/-- `Px` + 1 formed under R172 (R216). -/
def Core.tapNext (c : Core) (i : Ptr) : Nat := wordAt (stepPtr (c.getP i) (c.l.get i) (c.b.get i) 1)

def bundleXWrites (c : Core) (b : Bundle) : List (Nat × Word) :=
  match b.mv with
  | .normal (.store dn px _) _ => [(wordAt (c.getP px), c.getD dn)]
  | .normal _ _ => []
  | .ftap pa pb _ _ _ _ =>
    (if slotTap b.s0 then [(c.tapNext pa, c.readX (wordAt (c.getP pa)))] else []) ++
    (if slotTap b.s1 then [(c.tapNext pb, c.readX (wordAt (c.getP pb)))] else [])

/-- The Y words that a bundle reads. -/
def bundleYReads (c : Core) (b : Bundle) : List Nat :=
  match b.mv with
  | .normal _ (.load _ py _) => [wordAt (c.getP py)]
  | .normal _ .none => []
  | .ftap _ _ _ pc pd _ =>
    (if slotTap b.s0 then [wordAt (c.getP pc)] else []) ++ (if slotTap b.s1 then [wordAt (c.getP pd)] else [])

/-- One extra cycle for each access beyond the first in a bank of X: word w is in bank w mod 8 (R164, R167). -/
def bankStall : List Nat → Nat
  | [] => 0
  | w :: l => (if l.any (fun v => v % 8 == w % 8) then 1 else 0) + bankStall l

/-- Registers that the moves load, in the order X move, Y move (R215). -/
def bundleLoads (c : Core) (b : Bundle) : List (DReg × Word) :=
  match b.mv with
  | .normal x y =>
    (match x with
      | .load dn px _ => [(dn, c.readX (wordAt (c.getP px)))]
      | _ => []) ++
    (match y with
      | .load dn py _ => [(dn, c.readY (wordAt (c.getP py)))]
      | .none => [])
  | .ftap .. => []

/-- The pointers that the bundle's moves name with their modify codes, in slot and move order. -/
def bundleMods (b : Bundle) : List (Ptr × Mod) :=
  match b.mv with
  | .normal x y =>
    (match x with
      | .none => []
      | .load _ px m => [(px, m)]
      | .store _ px m => [(px, m)]) ++
    (match y with
      | .load _ py m => [(py, m)]
      | .none => [])
  | .ftap pa pb mx pc pd my =>
    (if slotTap b.s0 then [(pa, mx), (pc, my)] else []) ++ (if slotTap b.s1 then [(pb, mx), (pd, my)] else [])

/-- Pointers that the bundle moves, all from their values before the bundle (R215, R216); a code of no change writes no
pointer (R211). -/
def bundleSteps (c : Core) (b : Bundle) : List (Ptr × BitVec 16) :=
  ((bundleMods b).filter (fun e => e.2 ≠ .keep)).map (fun e => (e.1, c.modPtr e.1 e.2))

/-- The operands of an FTAP in a slot. -/
def bundleTap (c : Core) (b : Bundle) (slot1 : Bool) : Tap :=
  match b.mv with
  | .ftap pa pb _ pc pd _ =>
    if slot1 then (c.readX (wordAt (c.getP pb)), c.readY (wordAt (c.getP pd)))
    else (c.readX (wordAt (c.getP pa)), c.readY (wordAt (c.getP pc)))
  | .normal .. => (0, 0)

def bundleMoveUses (b : Bundle) : List (Res × Use) :=
  match b.mv with
  | .normal x y =>
    (match x with
      | .none => []
      | .load _ px _ => [(.p px, .access)]
      | .store dn px _ => [(.d dn, .store), (.p px, .access)]) ++
    (match y with
      | .load _ py _ => [(.p py, .access)]
      | .none => [])
  | .ftap pa pb _ pc pd _ =>
    (if slotTap b.s0 then [(.p pa, .access), (.p pc, .access)] else []) ++
    (if slotTap b.s1 then [(.p pb, .access), (.p pd, .access)] else [])

def bundleMoveMakes (b : Bundle) : List (Res × Prod) :=
  match b.mv with
  | .normal x y =>
    (match x with
      | .load dn _ _ => [(.d dn, .load)]
      | _ => []) ++
    (match y with
      | .load dn _ _ => [(.d dn, .load)]
      | .none => [])
  | .ftap .. => []

/-- The registers and memories after a bundle (R165, R166, R213 to R217). -/
def bundleEffect (c : Core) (b : Bundle) : Core :=
  let c1 := macSlot c c none (bundleTap c b false) b.s0
  let c2 := macSlot c c1 (slotDest b.s0) (bundleTap c b true) b.s1
  let c3 := (bundleXWrites c b).foldl (fun k w => k.writeX w.1 w.2) c2
  let c4 := (bundleLoads c b).foldl (fun k w => k.setD w.1 w.2) c3
  (bundleSteps c b).foldl (fun k w => k.setP w.1 w.2) c4

/-! ### Program flow (R189, R223 to R227) -/

/-- The causes of a core exception, by the codes of `job_exception` (R189, R239). -/
inductive CoreExc where | reserved | loopDepth | retStack | bounds | dmaRights
deriving DecidableEq, Repr

def CoreExc.code : CoreExc → Nat
  | .reserved => 1 | .loopDepth => 2 | .retStack => 3 | .bounds => 4 | .dmaRights => 5

/-- What an instruction leaves: the core after it, the core after END, or an exception. -/
inductive CoreResult where
  | ok (c : Core)
  | ended (c : Core)
  | exc (e : CoreExc) (c : Core)
deriving DecidableEq, Repr

/-- `PC` moves to `n`; past 8,191 it is out of the program (R189). -/
def Core.goto (c : Core) (n : Nat) : CoreResult :=
  if n < 8192 then .ok { c with pc := BitVec.ofNat 13 n } else .exc .bounds c

/-- `PC` after it completes an instruction that does not branch: the innermost loop's end is checked (R223). -/
def Core.advancePc (c : Core) : CoreResult :=
  match c.loops with
  | [] => c.goto (c.pc.toNat + 1)
  | (st, en) :: rest =>
    if c.pc.toNat = en then
      let lv : Fin 4 := Fin.ofNat 4 rest.length
      if 1 < (c.lc.get lv).toNat then
        ({ c with lc := c.lc.set lv.val (c.lc.get lv - 1) lv.isLt } : Core).goto st
      else ({ c with loops := rest } : Core).syncLD.goto (en + 1)
    else c.goto (c.pc.toNat + 1)

/-- The cycles pass that an instruction and its stalls take; `CYC` counts them (R177). -/
def Core.spend (c : Core) (n : Nat) : Core := { c with now := c.now + n, cyc := c.cyc + BitVec.ofNat 32 n }

/-- An instruction that does not branch completes: its stall, its cycles, its results and `PC`. `eff` holds the
registers and memories after it, made from the core after the stall. -/
def Core.complete (c : Core) (uses : List (Res × Use)) (makes : List (Res × Prod)) (extra : Nat)
    (eff : Core → Core) : CoreResult :=
  let c1 := c.spend (c.stall uses)
  (((eff c1).produce (c1.now + extra) makes).spend (1 + extra)).advancePc

/-- A conditional branch: `taken` in 3 cycles, or 1 cycle and on to the next instruction (R218). -/
def Core.branch (c : Core) (cc : Cond) (taken : Core → CoreResult) : CoreResult :=
  let c1 := c.spend (c.stall (if cc = .al then [] else [(.sr, .branch)]))
  if c1.holds cc then taken (c1.spend 3) else (c1.spend 1).advancePc

/-- LOOP and LOOPV with a count and a body of `n` instructions (R223). -/
def Core.openLoop (c : Core) (count : BitVec 16) (n : Nat) : CoreResult :=
  if 4 ≤ c.loops.length then .exc .loopDepth c
  else if count = 0 then (c.spend 3).goto (c.pc.toNat + n + 1)
  else
    let lv : Fin 4 := Fin.ofNat 4 c.loops.length
    let c1 : Core := { c with
      lc := c.lc.set lv.val count lv.isLt
      loops := (c.pc.toNat + 1, c.pc.toNat + n) :: c.loops }
    (c1.syncLD.spend 2).goto (c.pc.toNat + 1)

/-! ### Single operations (R218 to R222, R185, R186) -/

/-- An ALU sum or difference `z` of exact integers with its carry or borrow: `Z`, `N`, `C`, `V`, `SV` (R218). -/
def Core.aluSum (c : Core) (s : Bool) (rd : DReg) (z : Int) (carry : Bool) : Core :=
  let r := clip32 s z
  ((((c.setD rd r).setZN r).setFC carry).setFV (out32 z)).raiseSV (s && out32 z)

/-- A result that sets `Z`, `N` and `V` from an exact integer (ABS, MPYR). -/
def Core.aluV (c : Core) (s : Bool) (rd : DReg) (z : Int) : Core :=
  let r := clip32 s z
  (((c.setD rd r).setZN r).setFV (out32 z)).raiseSV (s && out32 z)

/-- A bitwise result: `Z`, `N`, and `V` ← 0. -/
def Core.aluLogic (c : Core) (rd : DReg) (r : Word) : Core := ((c.setD rd r).setZN r).setFV false
/-- A result that sets `Z` and `N` alone. -/
def Core.aluZN (c : Core) (rd : DReg) (r : Word) : Core := (c.setD rd r).setZN r

/-- Unsigned carry out of an addition, and borrow of a subtraction (R169). -/
def carryAdd (x y : Word) : Bool := decide (2 ^ 32 ≤ x.toNat + y.toNat)
def borrowSub (x y : Word) : Bool := decide (x.toNat < y.toNat)

/-- The last bit that a left or right shift by `n` moves out; by 0 places none does, and the flag is open. -/
def outLeft (x : Word) (n : Nat) : Bool := if n = 0 then Config.shiftZeroCarry x else x.getLsbD (32 - n)
def outRight (x : Word) (n : Nat) : Bool := if n = 0 then Config.shiftZeroCarry x else x.getLsbD (n - 1)

/-- An exact accumulator value times 2^sh, as a numerator over 2^32 in units of 2^-63 (R185). -/
def scaled (a : Int) (sh : Int) : Int := if 0 ≤ sh then a * (2 ^ sh.toNat : Nat) * (2 ^ 32 : Nat) else a * (2 ^ (32 + sh).toNat : Nat)

/-- EXT: the rounded value of `An` × 2^sh in units of 2^-31 (R185, R186). -/
def extValue (a : BitVec 72) (sh : BitVec 6) : Int := roundShift (scaled a.toInt sh.toInt) 64

/-- SHA: `An` × 2^sh in units of 2^-63, right shifts rounded (R218). -/
def shaValue (a : BitVec 72) (sh : BitVec 6) : Int :=
  if 0 ≤ sh.toInt then a.toInt * (2 ^ sh.toInt.toNat : Nat) else roundShift a.toInt (-sh.toInt).toNat

/-- Whether `An` × 2^s lies in [−1, 1). -/
def normFits (a : Int) (s : Int) : Bool :=
  if 0 ≤ s then decide (-(2 ^ 63 : Nat) ≤ a * (2 ^ s.toNat : Nat)) && decide (a * (2 ^ s.toNat : Nat) < (2 ^ 63 : Nat))
  else decide (-((2 ^ 63 : Nat) * (2 ^ (-s).toNat : Nat) : Int) ≤ a) && decide (a < ((2 ^ 63 : Nat) * (2 ^ (-s).toNat : Nat) : Int))

/-- NORM: the largest s from −8 to 31 that fits; every accumulator fits at −8 (R218). -/
def normShift (a : BitVec 72) : Int :=
  (List.range 40).foldl (fun (best : Int) (k : Nat) => if normFits a.toInt ((k : Int) - 8) then (k : Int) - 8 else best) (-8)

/-- DIVS: the new remainder and the quotient bit (R220). -/
def divStep (r d : Word) : Word × Bool :=
  if r.msb || d.msb then (Config.divsRem r d, Config.divsBit r d)
  else if d.toNat ≤ 2 * r.toNat then (BitVec.ofNat 32 (2 * r.toNat - d.toNat), true)
  else (BitVec.ofNat 32 (2 * r.toNat), false)

/-- The position of the highest set bit. -/
def topBit (x : Nat) : Nat := Nat.log2 x

/-- The 26 fraction bits of a base-2 logarithm: a mantissa in [1, 2) over 2^255, squared once per bit. -/
def logBits : Nat → Nat → Nat → Nat
  | 0, _, acc => acc
  | n + 1, m, acc =>
    let q := m * m / 2 ^ 255
    if 2 ^ 256 ≤ q then logBits n (q / 2) (2 * acc + 1) else logBits n q (2 * acc)

/-- log₂ of a positive Q1.31 value, rounded down to the Q6.26 grid. -/
def logFloor (x : Nat) : Int :=
  let t := topBit x
  ((t : Int) - 31) * (2 ^ 26 : Nat) + logBits 26 (x * 2 ^ 255 / 2 ^ t) 0

/-- LG2 (R221): exact for a power of two, and one of the results within 2^-24 otherwise. -/
def lg2Value (x : Word) : Word :=
  if x.toInt ≤ 0 then 0x80000000
  else if x.toNat = 2 ^ topBit x.toNat then BitVec.ofInt 32 (logFloor x.toNat)
  else BitVec.ofInt 32 (logFloor x.toNat + ((Config.lg2Pick x % 8 : Nat) : Int) - 3)

/-- The `n`-fold square root of 2 over 2^200. -/
def rootTwo : Nat → Nat
  | 0 => 2 * 2 ^ 200
  | n + 1 => Nat.sqrt (rootTwo n * 2 ^ 200)

/-- 2^(f / 2^26) over 2^200 for a fraction `f`, from its bits: bit 25 weighs 1/2. -/
def exp2Frac (f : Nat) : Nat :=
  (List.range 26).foldl (fun acc k => if bitOf f (25 - k) then acc * rootTwo (k + 1) / 2 ^ 200 else acc) (2 ^ 200)

/-- 2^(a / 2^26) for a negative Q6.26 value, over 2^231 × 2^-31: a numerator over 2^(200 + n) in units of 2^-31. -/
def exp2Lo (a : Int) (errNum : Int) : Nat :=
  let q := a / (2 ^ 26 : Nat)
  let f := (a % (2 ^ 26 : Nat)).toNat
  let num : Int := (exp2Frac f : Int) * ((2 ^ 24 : Nat) + errNum)
  (roundShift num (200 + 24 + (-q).toNat - 31)).toNat

/-- EX2 (R222): exact for an integer from −31 to −1, 0 below 2^-32, and one of the results that a relative error of
2^-24 allows otherwise. -/
def ex2Value (x : Word) : Word :=
  let a := x.toInt
  if 0 ≤ a then 0x7FFFFFFF
  else if a % (2 ^ 26 : Nat) = 0 then BitVec.ofNat 32 (2 ^ (31 + a / (2 ^ 26 : Nat)).toNat * (if a / (2 ^ 26 : Nat) = -32 then 0 else 1))
  else
    let lo := exp2Lo a (-1)
    let hi := min (exp2Lo a 1) 0x7FFFFFFF
    BitVec.ofNat 32 (lo + Config.ex2Pick x % (hi - lo + 1))

/-- The destination resources of a register write, for R188. A write of SR is one by MOV, LDI or ADDI: flags that an ALU
operation or a compare sets are seen by the next instruction (DESIGN CHOICE, log entry 91). -/
def regMakes : Reg → List (Res × Prod)
  | .d i => [(.d i, .alu)]
  | .p i | .n i | .l i | .b i => [(.p i, .move)]
  | .sr => [(.sr, .sr)]
  | .lc _ | .cyc | .job => []

def regUses : Reg → List (Res × Use)
  | .d i => [(.d i, .move)]
  | .p i => [(.p i, .other)]
  | .sr => [(.sr, .other)]
  | _ => []

/-! ### One instruction -/

/-- Uses of `D` operands by an ALU operation. -/
def dUses (l : List DReg) : List (Res × Use) := l.map (fun (r : DReg) => (.d r.val, .alu))
def dMakes (r : DReg) : List (Res × Prod) := [(.d r, .alu)]

/-- An F1 bundle (R205, R213 to R217): one cycle, and the bank stalls of R167. -/
def Core.runBundle (c : Core) (b : Bundle) : CoreResult :=
  c.complete (slotUses b.s0 ++ slotUses b.s1 ++ bundleMoveUses b) (slotMakes b.s0 ++ slotMakes b.s1 ++ bundleMoveMakes b)
    (bankStall (bundleXReads c b) + bankStall ((bundleXWrites c b).map (·.1))) (fun k => bundleEffect k b)

/-- An ALU operation on `D` registers in one cycle. -/
def Core.alu (c : Core) (src : List DReg) (dst : List DReg) (eff : Core → Core) : CoreResult :=
  c.complete (dUses src) (dst.map (fun (r : DReg) => (.d r.val, .alu))) 0 eff

/-- An operation that reads an accumulator into a `D` register. -/
def Core.fromAcc (c : Core) (an : Acc) (rd : DReg) (eff : Core → Core) : CoreResult :=
  c.complete [(.a an, .accRead)] (dMakes rd) 0 eff

/-- An operation that loads an accumulator. -/
def Core.toAcc (c : Core) (an : Acc) (uses : List (Res × Use)) (eff : Core → Core) : CoreResult :=
  c.complete uses [(.a an, .ldacc)] 0 eff

/-- ASH (R218): left by a positive rb[5:0] with `S`, right with rounding otherwise. -/
def ashExact (x y : Word) : Int :=
  let n := (y.setWidth 6).toInt
  if 0 ≤ n then x.toInt * (2 ^ n.toNat : Nat) else roundShift x.toInt (-n).toNat

/-- The 32 pointer registers in the order of the context block (R171). -/
def Core.contextWords (c : Core) : List (BitVec 16) := c.p.toList ++ c.n.toList ++ c.l.toList ++ c.b.toList

/-- Halfwords paired into words, the first in bits [15:0] (R171). -/
def pairWords : List (BitVec 16) → List Word
  | lo :: hi :: l => (hi ++ lo : BitVec 32) :: pairWords l
  | [lo] => [lo.setWidth 32]
  | [] => []

/-- Write words to X from word `w` on. -/
def Core.writeXs (c : Core) (w : Nat) : List Word → Core
  | [] => c
  | v :: l => (c.writeX (w % 32768) v).writeXs (w + 1) l

/-- One instruction of a core (R203 to R228). END leaves `ended`: the caller writes the context block back. A CALL at address
8,191 pushes `PC` + 1 in 13 bits, so that its RET goes to address 0 (DESIGN CHOICE, log entry 92). -/
def Core.run1 (c : Core) : DspInsn → CoreResult
  | .f1 b => c.runBundle b
  | .nop => c.complete [] [] 0 id
  | .endJob => .ended (c.spend 1)
  | .mov rd ra =>
    c.complete (regUses ra) (regMakes rd) 0 (fun k => k.writeReg rd (k.readReg (k.cyc + 1) ra))
  | .add s rd ra rb => c.alu [ra, rb] [rd] (fun k =>
      k.aluSum s rd ((k.getD ra).toInt + (k.getD rb).toInt) (carryAdd (k.getD ra) (k.getD rb)))
  | .sub s rd ra rb => c.alu [ra, rb] [rd] (fun k =>
      k.aluSum s rd ((k.getD ra).toInt - (k.getD rb).toInt) (borrowSub (k.getD ra) (k.getD rb)))
  | .neg s rd ra => c.alu [ra] [rd] (fun k => k.aluSum s rd (-(k.getD ra).toInt) (borrowSub 0 (k.getD ra)))
  | .abs s rd ra => c.alu [ra] [rd] (fun k => k.aluV s rd ((k.getD ra).toInt.natAbs : Int))
  | .min rd ra rb => c.alu [ra, rb] [rd] (fun k =>
      k.aluZN rd (if (k.getD ra).toInt ≤ (k.getD rb).toInt then k.getD ra else k.getD rb))
  | .max rd ra rb => c.alu [ra, rb] [rd] (fun k =>
      k.aluZN rd (if (k.getD rb).toInt ≤ (k.getD ra).toInt then k.getD ra else k.getD rb))
  | .and rd ra rb => c.alu [ra, rb] [rd] (fun k => k.aluLogic rd (k.getD ra &&& k.getD rb))
  | .or rd ra rb => c.alu [ra, rb] [rd] (fun k => k.aluLogic rd (k.getD ra ||| k.getD rb))
  | .xor rd ra rb => c.alu [ra, rb] [rd] (fun k => k.aluLogic rd (k.getD ra ^^^ k.getD rb))
  | .not rd ra => c.alu [ra] [rd] (fun k => k.aluLogic rd (~~~(k.getD ra)))
  | .cmp ra rb => c.alu [ra, rb] [] (fun k =>
      let z := (k.getD ra).toInt - (k.getD rb).toInt
      ((k.setZN (BitVec.ofInt 32 z)).setFC (borrowSub (k.getD ra) (k.getD rb))).setFV (out32 z))
  | .asl s rd ra sh => c.alu [ra] [rd] (fun k =>
      let z := (k.getD ra).toInt * (2 ^ sh.val : Nat)
      k.aluSum s rd z (outLeft (k.getD ra) sh.val))
  | .asr rd ra sh => c.alu [ra] [rd] (fun k =>
      (k.aluZN rd ((k.getD ra).sshiftRight sh.val)).setFC (outRight (k.getD ra) sh.val))
  | .asrr rd ra sh => c.alu [ra] [rd] (fun k => k.aluZN rd (BitVec.ofInt 32 (roundShift (k.getD ra).toInt sh.val)))
  | .lsl rd ra sh => c.alu [ra] [rd] (fun k =>
      (k.aluZN rd (k.getD ra <<< sh.val)).setFC (outLeft (k.getD ra) sh.val))
  | .lsr rd ra sh => c.alu [ra] [rd] (fun k =>
      (k.aluZN rd (k.getD ra >>> sh.val)).setFC (outRight (k.getD ra) sh.val))
  | .ash s rd ra rb => c.alu [ra, rb] [rd] (fun k => k.aluV s rd (ashExact (k.getD ra) (k.getD rb)))
  | .ext s rd an sh => c.fromAcc an rd (fun k => k.aluV s rd (extValue (k.getA an) sh))
  | .norm rd an => c.fromAcc an rd (fun k => k.aluZN rd (BitVec.ofInt 32 (normShift (k.getA an))))
  | .lda an ra => c.toAcc an [(.d ra, .alu)] (fun k => k.setA an (accOfWord (k.getD ra)))
  | .ldag an ra => c.toAcc an [(.d ra, .alu)] (fun k =>
      k.setA an (accParts ((k.getD ra).setWidth 8) (highOf (k.getA an)) (lowOf (k.getA an))))
  | .ldah an ra => c.toAcc an [(.d ra, .alu)] (fun k =>
      k.setA an (accParts (guardOf (k.getA an)) (k.getD ra) (lowOf (k.getA an))))
  | .ldal an ra => c.toAcc an [(.d ra, .alu)] (fun k =>
      k.setA an (accParts (guardOf (k.getA an)) (highOf (k.getA an)) (k.getD ra)))
  | .stag rd an => c.fromAcc an rd (fun k => k.setD rd ((guardOf (k.getA an)).signExtend 32))
  | .stah rd an => c.fromAcc an rd (fun k => k.setD rd (highOf (k.getA an)))
  | .stal rd an => c.fromAcc an rd (fun k => k.setD rd (lowOf (k.getA an)))
  | .sha s an sh => c.complete [(.a an, .accRead)] [(.a an, .alu)] 0 (fun k => k.accumulate s an (shaValue (k.getA an) sh))
  | .clra an => c.complete [] [(.a an, .alu)] 0 (fun k => k.setA an 0)
  | .divs rd ra rb => c.alu [rd, ra, rb] [rd, rb] (fun k =>
      let q := divStep (k.getD rd) (k.getD ra)
      ((k.setD rd q.1).setD rb ((k.getD rb <<< 1) + (if q.2 then 1 else 0))).setFC q.2)
  | .mpyr s rd ra rb => c.complete (dUses [ra, rb]) [(.d rd, .mul)] 0 (fun k =>
      k.aluV s rd (roundShift ((k.getD ra).toInt * (k.getD rb).toInt) 31))
  | .lg2 rd ra => c.complete (dUses [ra]) [(.d rd, .log)] 0 (fun k =>
      (k.aluZN rd (lg2Value (k.getD ra))).setFV (decide ((k.getD ra).toInt ≤ 0)))
  | .ex2 s rd ra => c.complete (dUses [ra]) [(.d rd, .log)] 0 (fun k =>
      ((k.aluZN rd (ex2Value (k.getD ra))).setFV (decide (0 ≤ (k.getD ra).toInt))).raiseSV
        (s && decide (0 ≤ (k.getD ra).toInt)))
  | .sty pn rb m => c.complete [(.p pn, .access), (.d rb, .store)] [] 0 (fun k =>
      (k.writeY (wordAt (k.getP pn)) (k.getD rb)).setP pn (k.modPtr pn m))
  | .jmp cc tgt => c.branch cc (fun k => k.goto tgt.toNat)
  | .call cc tgt => c.branch cc (fun k =>
      if 16 ≤ k.ret.length then .exc .retStack k
      else ({ k with ret := (k.pc + 1) :: k.ret } : Core).goto tgt.toNat)
  | .ret cc => c.branch cc (fun k =>
      match k.ret with
      | [] => .exc .retStack k
      | r :: l => ({ k with ret := l } : Core).goto r.toNat)
  | .loop count body => c.openLoop count body.toNat
  | .loopv dn body =>
    let k := c.spend (c.stall [(.d dn, .move)])
    k.openLoop ((k.getD dn).setWidth 16) body.toNat
  | .leave cc => c.branch cc (fun k =>
      match k.loops with
      | [] => k.advancePc
      | (_, en) :: rest => ({ k with loops := rest } : Core).syncLD.goto (en + 1))
  | .ldi rd imm => c.complete [] (regMakes rd) 0 (fun k => k.writeReg rd imm)
  | .addi s rd imm =>
    match rd with
    | .d i => c.alu [i] [i] (fun k =>
        k.aluSum s i ((k.getD i).toInt + imm.toInt) (carryAdd (k.getD i) imm))
    | r => c.complete (regUses r) (regMakes r) 0 (fun k => k.writeReg r (k.readReg (k.cyc + 1) r + imm))
  | .andi rd imm => c.alu [rd] [rd] (fun k => k.aluLogic rd (k.getD rd &&& imm))
  | .ori rd imm => c.alu [rd] [rd] (fun k => k.aluLogic rd (k.getD rd ||| imm))
  | .xori rd imm => c.alu [rd] [rd] (fun k => k.aluLogic rd (k.getD rd ^^^ imm))
  | .cmpi rd imm => c.alu [rd] [] (fun k =>
      let z := (k.getD rd).toInt - imm.toInt
      ((k.setZN (BitVec.ofInt 32 z)).setFC (borrowSub (k.getD rd) imm)).setFV (out32 z))
  | .ldia an imm => c.toAcc an [] (fun k => k.setA an (accOfWord imm))
  | .mpyri s rd imm => c.complete (dUses [rd]) [(.d rd, .mul)] 0 (fun k =>
      k.aluV s rd (roundShift ((k.getD rd).toInt * imm.toInt) 31))

/-- The words of X and Y that an instruction reads or writes, for the locks of R181; END writes the context block at `ctx`
(R171). -/
def touches (c : Core) (ctx : Option Nat) : DspInsn → List Nat × List Nat
  | .endJob => (match ctx with
    | none => []
    | some w => (List.range 16).map (fun i => (w + i) % 32768), [])
  | .f1 b => (bundleXReads c b ++ (bundleXWrites c b).map (·.1), bundleYReads c b)
  | .sty pn _ _ => ([], [wordAt (c.getP pn)])
  | _ => ([], [])

end Sys2Proof.Machine
end

