-- ==== Sys2Proof/WellFormed.lean ====
section
/-! DEFINITION. Well-formed commands: what an encoding can hold of a DSP core instruction (R204, R207, R210, R219). -/

namespace Sys2Proof

/-- A bundle whose move form matches its slots, with 0 in the pointer fields of a slot without FTAP (R207). -/
def bundleWf (b : Bundle) : Bool :=
  match b.mv with
  | .normal _ _ => !isFtap b.s0 && !isFtap b.s1
  | .ftap pa pb _ pc pd _ =>
    (isFtap b.s0 || isFtap b.s1) && (isFtap b.s0 || (decide (pa = 0) && decide (pc = 0))) &&
      (isFtap b.s1 || (decide (pb = 0) && decide (pd = 0)))

/-- Whether a register is a `D` register. -/
def isD : Reg → Bool
  | .d _ => true
  | _ => false

/-- A well-formed instruction of a core: no write of `CYC` or `JOB` (R204), and a saturation bit of ADDI only with a
`D` register (R219). -/
def dspWf : DspInsn → Bool
  | .f1 b => bundleWf b
  | .mov rd _ => regWritable rd
  | .ldi rd _ => regWritable rd
  | .addi s rd _ => regWritable rd && (!s || isD rd)
  | _ => true

/-- The core and the core instruction of a command that is one. A NOP command carries the word that the core reaches. -/
def dspOf : Instr → Option (CoreId × DspInsn)
  | .slotNop k slot r => some (k, .f1 (bundleOf slot .nop r))
  | .mac k slot s an da db r => some (k, .f1 (bundleOf slot (.mac s an da db) r))
  | .msu k slot s an da db r => some (k, .f1 (bundleOf slot (.msu s an da db) r))
  | .mpy k slot s an da db r => some (k, .f1 (bundleOf slot (.mpy s an da db) r))
  | .mpyn k slot s an da db r => some (k, .f1 (bundleOf slot (.mpyn s an da db) r))
  | .macr k slot s an da db r => some (k, .f1 (bundleOf slot (.macr s an da db) r))
  | .ftap k slot s an r => some (k, .f1 (bundleOf slot (.ftap s an) r))
  | .adda k slot s an am r => some (k, .f1 (bundleOf slot (.adda s an am) r))
  | .suba k slot s an am r => some (k, .f1 (bundleOf slot (.suba s an am) r))
  | .clr k slot an r => some (k, .f1 (bundleOf slot (.clr an) r))
  | .mova k slot an am r => some (k, .f1 (bundleOf slot (.mova an am) r))
  | .xLoad k dn px m s0 s1 y => some (k, .f1 ⟨s0, s1, .normal (.load dn px m) y⟩)
  | .xStore k dn px m s0 s1 y => some (k, .f1 ⟨s0, s1, .normal (.store dn px m) y⟩)
  | .yLoad k dn py m s0 s1 x => some (k, .f1 ⟨s0, s1, .normal x (.load dn py m)⟩)
  | .nop k w => (decodeDsp w).map (fun i => (k, i))
  | .endJob k => some (k, .endJob)
  | .mov k rd ra => some (k, .mov rd ra)
  | .add k s rd ra rb => some (k, .add s rd ra rb)
  | .sub k s rd ra rb => some (k, .sub s rd ra rb)
  | .neg k s rd ra => some (k, .neg s rd ra)
  | .abs k s rd ra => some (k, .abs s rd ra)
  | .min k rd ra rb => some (k, .min rd ra rb)
  | .max k rd ra rb => some (k, .max rd ra rb)
  | .and k rd ra rb => some (k, .and rd ra rb)
  | .or k rd ra rb => some (k, .or rd ra rb)
  | .xor k rd ra rb => some (k, .xor rd ra rb)
  | .not k rd ra => some (k, .not rd ra)
  | .cmp k ra rb => some (k, .cmp ra rb)
  | .asl k s rd ra sh => some (k, .asl s rd ra sh)
  | .asr k rd ra sh => some (k, .asr rd ra sh)
  | .asrr k rd ra sh => some (k, .asrr rd ra sh)
  | .lsl k rd ra sh => some (k, .lsl rd ra sh)
  | .lsr k rd ra sh => some (k, .lsr rd ra sh)
  | .ash k s rd ra rb => some (k, .ash s rd ra rb)
  | .ext k s rd an sh => some (k, .ext s rd an sh)
  | .norm k rd an => some (k, .norm rd an)
  | .lda k an ra => some (k, .lda an ra)
  | .ldag k an ra => some (k, .ldag an ra)
  | .ldah k an ra => some (k, .ldah an ra)
  | .ldal k an ra => some (k, .ldal an ra)
  | .stag k rd an => some (k, .stag rd an)
  | .stah k rd an => some (k, .stah rd an)
  | .stal k rd an => some (k, .stal rd an)
  | .sha k s an sh => some (k, .sha s an sh)
  | .clra k an => some (k, .clra an)
  | .divs k rd ra rb => some (k, .divs rd ra rb)
  | .mpyr k s rd ra rb => some (k, .mpyr s rd ra rb)
  | .lg2 k rd ra => some (k, .lg2 rd ra)
  | .ex2 k s rd ra => some (k, .ex2 s rd ra)
  | .sty k pn rb m => some (k, .sty pn rb m)
  | .jmp k c tgt => some (k, .jmp c tgt)
  | .call k c tgt => some (k, .call c tgt)
  | .ret k c => some (k, .ret c)
  | .loop k count body => some (k, .loop count body)
  | .loopv k dn body => some (k, .loopv dn body)
  | .leave k c => some (k, .leave c)
  | .ldi k rd imm => some (k, .ldi rd imm)
  | .addi k s rd imm => some (k, .addi s rd imm)
  | .andi k rd imm => some (k, .andi rd imm)
  | .ori k rd imm => some (k, .ori rd imm)
  | .xori k rd imm => some (k, .xori rd imm)
  | .cmpi k rd imm => some (k, .cmpi rd imm)
  | .ldia k an imm => some (k, .ldia an imm)
  | .mpyri k s rd imm => some (k, .mpyri s rd imm)
  | _ => none

/-- A well-formed command: the core instruction of a DSP row is well-formed; a NOP row holds any word (R204); every
other row takes any operands, and the engine judges them (R275). -/
def wf (i : Instr) : Bool :=
  match dspOf i with
  | some (_, d) => dspWf d
  | none => true

end Sys2Proof
end

