-- ==== Sys2Proof/Machine/Dsp.lean ====
section
/-! DEFINITION. The DSP core commands on the state: where a core stands, what waits for a lock (R181), the end of a job
(R171, R227) and the core exception (R189, R190). -/

namespace Sys2Proof.Machine

/-! ### Cores, clusters and jobs -/

/-- A cluster after power-up (R35, R168). -/
def Cluster.cleared : Cluster where
  image := none
  loadFrom := 0
  loadUntil := 0
  loading := false
  store := []
  dma := []
  auditing := false
  auditAt := 0
  auditCore := 0
  forced := none
  retiring := none
  auditNext := none
  guardAt := []
  auditRound := none
  audited := none
  replay := []
  replayTop := 0
  sent := []
  resent := []
  taken := none
  storeMoved := 0

def State.cluster (s : State) (c : Nat) : Cluster := Tab.get Cluster.cleared s.dsp.clusters c
def State.setCluster (s : State) (c : Nat) (x : Cluster) : State :=
  { s with dsp := { s.dsp with clusters := Tab.put Cluster.cleared s.dsp.clusters c x } }

/-- The key of core j of cluster c in the table of cores. -/
def coreKey (c j : Nat) : Nat := 16 * c + j
def State.core (s : State) (c j : Nat) : Core := Tab.get Core.cleared s.dsp.cores (coreKey c j)
def State.setCore (s : State) (c j : Nat) (x : Core) : State :=
  { s with dsp := { s.dsp with cores := Tab.put Core.cleared s.dsp.cores (coreKey c j) x } }

/-- Whether a cluster is present and its domain is up (R17, R33). -/
def State.clusterUp (s : State) (c : Nat) : Bool := decide (c < s.variant.clusters) && s.domainUp (2 + c)

/-- The service core whose schedule a core runs: its own, or, on the relief core, the one that `JOB` names (R170). -/
def Core.service (k : Core) (j : Nat) : Nat := if j = 8 then (k.job.extractLsb' 20 4).toNat else j

/-- The core section of service core j in the image in effect (R230). -/
def State.sectionOf (s : State) (c j : Nat) : Option Section :=
  match (s.cluster c).image with
  | none => none
  | some im => im.sections.find? (fun x => x.core = j)

/-- The job at a position of a core's section. -/
def State.jobAt (s : State) (c j pos : Nat) : Option Job :=
  match s.sectionOf c j with
  | none => none
  | some x => x.jobs[pos]?

/-- Samples in a round (R41). -/
def State.roundB (s : State) : Nat := s.nat El.roundSize

/-- First word of in-tray or out-tray half `h` of a core (R178). -/
def inTrayBase (tin tout h : Nat) : Nat := 32768 - 2 * tout - (2 - h) * tin
def outTrayBase (tout h : Nat) : Nat := 32768 - (2 - h) * tout

/-- Whether core j of cluster c is the relief core in an audit round: it runs the audited core's jobs on its copy (R192). -/
def State.inAudit (s : State) (c j : Nat) : Bool := decide (j = 8) && (s.cluster c).auditing && (s.cluster c).auditRound.isSome

/-- The half that a core uses: that of the round being computed, or of the audit round (R178, R192). -/
def State.half (s : State) (c j : Nat) : Nat :=
  (if s.inAudit c j then (s.cluster c).auditRound.getD 0 else s.rounds.current.getD 0) % 2

/-- `n` words of X from word `w` on. -/
def Core.readXs (k : Core) (w n : Nat) : List Word := (List.range n).map (fun i => k.readX ((w + i) % 32768))

/-! ### Locks (R181) -/

/-- The words of one end of a transfer: rows of `len` words, `stride` apart (R180). -/
def rowWords (start stride len rows : Nat) : List Nat :=
  (List.range rows).flatMap (fun r => (List.range len).map (fun i => start + r * stride + i))

/-- The X and Y words of service core j that transfers in progress lock: every destination word there, and the source
words of a transfer that leaves the core. -/
def Cluster.locked (x : Cluster) (j : Nat) : List Nat × List Nat :=
  x.dma.foldl (fun acc e =>
    match e.2 with
    | none => acc
    | some d =>
      if d.core ≠ j then acc
      else
        let t := d.xfer
        let dst := rowWords t.dstAt t.dstStride t.len t.rows
        let src := rowWords t.srcAt t.srcStride t.len t.rows
        let leaves : Bool := t.dst = .store || t.dst = .dram
        let ax := (if t.dst = .x then dst else []) ++ (if t.src = .x && leaves then src else [])
        let ay := (if t.dst = .y then dst else []) ++ (if t.src = .y && leaves then src else [])
        (acc.1 ++ ax, acc.2 ++ ay)) ([], [])

/-- The context block of the job that a core runs (R171). -/
def State.contextAt (s : State) (c j : Nat) (k : Core) : Option Nat :=
  match k.run with
  | none => none
  | some pos => (s.jobAt c (k.service j) pos).map (·.xAt)

/-- Whether an instruction touches a locked word and waits (R181). The copy that the relief core audits on holds no words that a
transfer locks. -/
def State.waits (s : State) (c j : Nat) (k : Core) (i : DspInsn) : Bool :=
  let l := if s.inAudit c j then ([], []) else (s.cluster c).locked (k.service j)
  let t := touches k (s.contextAt c j k) i
  t.1.any (fun w => l.1.contains w) || t.2.any (fun w => l.2.contains w)

/-! ### The end of a job, and the core exception -/

/-- The measured cycles of a job (R51): `CYC`, the 16 cycles of entry and exit (R227), and an open number of cycles
spent waiting (log entry 3). -/
def measured (k : Core) (wait : Nat) : Nat := k.now + 16 + wait

/-- The cycles of a job that ended are recorded for the round (R51). -/
def State.recordCycles (s : State) (c j pos n : Nat) : State :=
  s.setCore c j { s.core c j with used := Tab.put 0 (s.core c j).used pos n }

/-- END: the 32 pointer registers go back to the context block, the cycles are recorded, and the job is over (R171,
R227). A core that runs no job stays as END leaves it. -/
def State.endJob (s : State) (c j : Nat) (k : Core) : State :=
  match k.run with
  | none => s.setCore c j k
  | some pos =>
    let w := s.fresh
    let k1 := k.writeXs ((s.contextAt c j k).getD 0) (pairWords k.contextWords)
    (w.2.setCore c j { k1 with run := none, ended := pos :: k.ended }).recordCycles c j pos (measured k w.1)

/-- Words already written in the round's out-tray of a halted job become zero (R190). -/
def State.zeroOutputs (s : State) (c j : Nat) (k : Core) (pos : Nat) : Core :=
  match s.jobAt c (k.service j) pos, s.sectionOf c (k.service j) with
  | some jb, some x =>
    jb.outs.foldl (fun m o => m.writeXs (outTrayBase x.tout (s.half c j) + o.off) (List.replicate s.roundB 0)) k
  | _, _ => k

/-- A core exception (R190, R191): the job ends and is halted, its outputs are zero, its state stays and its context
block is not written back; the halt is shown and counted, and the core is audited next. On the copy of an audit it halts the
copy of the job alone, for the comparison. -/
def State.coreException (s : State) (c j : Nat) (e : CoreExc) (k : Core) : State :=
  match k.run with
  | none => s.setCore c j k
  | some pos =>
    let sv := k.service j
    let k1 := s.zeroOutputs c j k pos
    let s1 := s.setCore c j { k1 with run := none, halted := pos :: k.halted }
    if s.inAudit c j then s1
    else
      let s2 := (s1.setN (El.jobState c sv pos) 2).setN (El.jobException c sv pos) e.code
      let s3 := (s2.setN (El.jobExcPc c sv pos) k.pc.toNat).inc (El.coreExceptions c j)
      let s4 := s3.bump (El.coreHalted c j) 1 16
      s4.setCluster c { s4.cluster c with auditNext := some sv }

/-! ### One instruction of a core -/

/-- What a result of the core does to the state. -/
def State.settle (s : State) (c j : Nat) : CoreResult → State
  | .ok k => s.setCore c j k
  | .ended k => s.endJob c j k
  | .exc e k => s.coreException c j e k

/-- Core j of cluster c executes an instruction. A core that is absent or powered down executes nothing, and one that
would touch a locked word waits (R181). -/
def State.runDsp (s : State) (k : CoreId) (i : DspInsn) : State :=
  if !s.clusterUp k.c then s
  else if s.waits k.c k.j (s.core k.c k.j) i then s
  else s.settle k.c k.j ((s.core k.c k.j).run1 i)

/-- The core reaches a word of its program: a reserved encoding is a core exception (R204). -/
def State.runWord (s : State) (k : CoreId) (w : DspWord) : State :=
  match decodeDsp w with
  | some i => s.runDsp k i
  | none => if s.clusterUp k.c then s.coreException k.c k.j .reserved (s.core k.c k.j) else s

/-! ### The commands -/

/-- SLOT_NOP (R213). -/
def execSlotNop (k : CoreId) (slot : Fin 2) (r : Beside) (s : State) : Host.Outcome State Fault Refusal :=
  .next (s.runDsp k (.f1 (bundleOf slot .nop r)))
/-- MAC (R213). -/
def execMac (k : CoreId) (slot : Fin 2) (sat : Bool) (an : Acc) (da db : DReg) (r : Beside) (s : State) : Host.Outcome State Fault Refusal :=
  .next (s.runDsp k (.f1 (bundleOf slot (.mac sat an da db) r)))
/-- MSU (R213). -/
def execMsu (k : CoreId) (slot : Fin 2) (sat : Bool) (an : Acc) (da db : DReg) (r : Beside) (s : State) : Host.Outcome State Fault Refusal :=
  .next (s.runDsp k (.f1 (bundleOf slot (.msu sat an da db) r)))
/-- MPY (R213). -/
def execMpy (k : CoreId) (slot : Fin 2) (sat : Bool) (an : Acc) (da db : DReg) (r : Beside) (s : State) : Host.Outcome State Fault Refusal :=
  .next (s.runDsp k (.f1 (bundleOf slot (.mpy sat an da db) r)))
/-- MPYN (R213). -/
def execMpyn (k : CoreId) (slot : Fin 2) (sat : Bool) (an : Acc) (da db : DReg) (r : Beside) (s : State) : Host.Outcome State Fault Refusal :=
  .next (s.runDsp k (.f1 (bundleOf slot (.mpyn sat an da db) r)))
/-- MACR (R213). -/
def execMacr (k : CoreId) (slot : Fin 2) (sat : Bool) (an : Acc) (da db : DReg) (r : Beside) (s : State) : Host.Outcome State Fault Refusal :=
  .next (s.runDsp k (.f1 (bundleOf slot (.macr sat an da db) r)))
/-- FTAP (R216). -/
def execFtap (k : CoreId) (slot : Fin 2) (sat : Bool) (an : Acc) (r : Beside) (s : State) : Host.Outcome State Fault Refusal :=
  .next (s.runDsp k (.f1 (bundleOf slot (.ftap sat an) r)))
/-- ADDA (R213). -/
def execAdda (k : CoreId) (slot : Fin 2) (sat : Bool) (an am : Acc) (r : Beside) (s : State) : Host.Outcome State Fault Refusal :=
  .next (s.runDsp k (.f1 (bundleOf slot (.adda sat an am) r)))
/-- SUBA (R213). -/
def execSuba (k : CoreId) (slot : Fin 2) (sat : Bool) (an am : Acc) (r : Beside) (s : State) : Host.Outcome State Fault Refusal :=
  .next (s.runDsp k (.f1 (bundleOf slot (.suba sat an am) r)))
/-- CLR (R213). -/
def execClr (k : CoreId) (slot : Fin 2) (an : Acc) (r : Beside) (s : State) : Host.Outcome State Fault Refusal :=
  .next (s.runDsp k (.f1 (bundleOf slot (.clr an) r)))
/-- MOVA (R213). -/
def execMova (k : CoreId) (slot : Fin 2) (an am : Acc) (r : Beside) (s : State) : Host.Outcome State Fault Refusal :=
  .next (s.runDsp k (.f1 (bundleOf slot (.mova an am) r)))
/-- X_LOAD (R207). -/
def execXLoad (k : CoreId) (dn : DReg) (px : Ptr) (m : Mod) (s0 s1 : SlotOp) (y : YMove) (s : State) : Host.Outcome State Fault Refusal :=
  .next (s.runDsp k (.f1 ⟨s0, s1, .normal (.load dn px m) y⟩))
/-- X_STORE (R207). -/
def execXStore (k : CoreId) (dn : DReg) (px : Ptr) (m : Mod) (s0 s1 : SlotOp) (y : YMove) (s : State) : Host.Outcome State Fault Refusal :=
  .next (s.runDsp k (.f1 ⟨s0, s1, .normal (.store dn px m) y⟩))
/-- Y_LOAD (R207). -/
def execYLoad (k : CoreId) (dn : DReg) (py : Ptr) (m : Mod) (s0 s1 : SlotOp) (x : XMove) (s : State) : Host.Outcome State Fault Refusal :=
  .next (s.runDsp k (.f1 ⟨s0, s1, .normal x (.load dn py m)⟩))
/-- NOP (R204, R218): the core reaches a word; NOP does nothing but take a cycle. -/
def execNop (k : CoreId) (w : DspWord) (s : State) : Host.Outcome State Fault Refusal := .next (s.runWord k w)
/-- END (R227). -/
def execEndJob (k : CoreId) (s : State) : Host.Outcome State Fault Refusal :=
  .next (s.runDsp k (.endJob))
/-- MOV (R218). -/
def execMov (k : CoreId) (rd ra : Reg) (s : State) : Host.Outcome State Fault Refusal :=
  .next (s.runDsp k (.mov rd ra))
/-- ADD (R218). -/
def execAdd (k : CoreId) (sat : Bool) (rd ra rb : DReg) (s : State) : Host.Outcome State Fault Refusal :=
  .next (s.runDsp k (.add sat rd ra rb))
/-- SUB (R218). -/
def execSub (k : CoreId) (sat : Bool) (rd ra rb : DReg) (s : State) : Host.Outcome State Fault Refusal :=
  .next (s.runDsp k (.sub sat rd ra rb))
/-- NEG (R218). -/
def execNeg (k : CoreId) (sat : Bool) (rd ra : DReg) (s : State) : Host.Outcome State Fault Refusal :=
  .next (s.runDsp k (.neg sat rd ra))
/-- ABS (R218). -/
def execAbs (k : CoreId) (sat : Bool) (rd ra : DReg) (s : State) : Host.Outcome State Fault Refusal :=
  .next (s.runDsp k (.abs sat rd ra))
/-- MIN (R218). -/
def execMin (k : CoreId) (rd ra rb : DReg) (s : State) : Host.Outcome State Fault Refusal :=
  .next (s.runDsp k (.min rd ra rb))
/-- MAX (R218). -/
def execMax (k : CoreId) (rd ra rb : DReg) (s : State) : Host.Outcome State Fault Refusal :=
  .next (s.runDsp k (.max rd ra rb))
/-- AND (R218). -/
def execAnd (k : CoreId) (rd ra rb : DReg) (s : State) : Host.Outcome State Fault Refusal :=
  .next (s.runDsp k (.and rd ra rb))
/-- OR (R218). -/
def execOr (k : CoreId) (rd ra rb : DReg) (s : State) : Host.Outcome State Fault Refusal :=
  .next (s.runDsp k (.or rd ra rb))
/-- XOR (R218). -/
def execXor (k : CoreId) (rd ra rb : DReg) (s : State) : Host.Outcome State Fault Refusal :=
  .next (s.runDsp k (.xor rd ra rb))
/-- NOT (R218). -/
def execNot (k : CoreId) (rd ra : DReg) (s : State) : Host.Outcome State Fault Refusal :=
  .next (s.runDsp k (.not rd ra))
/-- CMP (R218). -/
def execCmp (k : CoreId) (ra rb : DReg) (s : State) : Host.Outcome State Fault Refusal :=
  .next (s.runDsp k (.cmp ra rb))
/-- ASL (R218). -/
def execAsl (k : CoreId) (sat : Bool) (rd ra : DReg) (sh : Fin 32) (s : State) : Host.Outcome State Fault Refusal :=
  .next (s.runDsp k (.asl sat rd ra sh))
/-- ASR (R218). -/
def execAsr (k : CoreId) (rd ra : DReg) (sh : Fin 32) (s : State) : Host.Outcome State Fault Refusal :=
  .next (s.runDsp k (.asr rd ra sh))
/-- ASRR (R218). -/
def execAsrr (k : CoreId) (rd ra : DReg) (sh : Fin 32) (s : State) : Host.Outcome State Fault Refusal :=
  .next (s.runDsp k (.asrr rd ra sh))
/-- LSL (R218). -/
def execLsl (k : CoreId) (rd ra : DReg) (sh : Fin 32) (s : State) : Host.Outcome State Fault Refusal :=
  .next (s.runDsp k (.lsl rd ra sh))
/-- LSR (R218). -/
def execLsr (k : CoreId) (rd ra : DReg) (sh : Fin 32) (s : State) : Host.Outcome State Fault Refusal :=
  .next (s.runDsp k (.lsr rd ra sh))
/-- ASH (R218). -/
def execAsh (k : CoreId) (sat : Bool) (rd ra rb : DReg) (s : State) : Host.Outcome State Fault Refusal :=
  .next (s.runDsp k (.ash sat rd ra rb))
/-- EXT (R185). -/
def execExt (k : CoreId) (sat : Bool) (rd : DReg) (an : Acc) (sh : BitVec 6) (s : State) : Host.Outcome State Fault Refusal :=
  .next (s.runDsp k (.ext sat rd an sh))
/-- NORM (R218). -/
def execNorm (k : CoreId) (rd : DReg) (an : Acc) (s : State) : Host.Outcome State Fault Refusal :=
  .next (s.runDsp k (.norm rd an))
/-- LDA (R176). -/
def execLda (k : CoreId) (an : Acc) (ra : DReg) (s : State) : Host.Outcome State Fault Refusal :=
  .next (s.runDsp k (.lda an ra))
/-- LDAG (R218). -/
def execLdag (k : CoreId) (an : Acc) (ra : DReg) (s : State) : Host.Outcome State Fault Refusal :=
  .next (s.runDsp k (.ldag an ra))
/-- LDAH (R218). -/
def execLdah (k : CoreId) (an : Acc) (ra : DReg) (s : State) : Host.Outcome State Fault Refusal :=
  .next (s.runDsp k (.ldah an ra))
/-- LDAL (R218). -/
def execLdal (k : CoreId) (an : Acc) (ra : DReg) (s : State) : Host.Outcome State Fault Refusal :=
  .next (s.runDsp k (.ldal an ra))
/-- STAG (R218). -/
def execStag (k : CoreId) (rd : DReg) (an : Acc) (s : State) : Host.Outcome State Fault Refusal :=
  .next (s.runDsp k (.stag rd an))
/-- STAH (R218). -/
def execStah (k : CoreId) (rd : DReg) (an : Acc) (s : State) : Host.Outcome State Fault Refusal :=
  .next (s.runDsp k (.stah rd an))
/-- STAL (R218). -/
def execStal (k : CoreId) (rd : DReg) (an : Acc) (s : State) : Host.Outcome State Fault Refusal :=
  .next (s.runDsp k (.stal rd an))
/-- SHA (R218). -/
def execSha (k : CoreId) (sat : Bool) (an : Acc) (sh : BitVec 6) (s : State) : Host.Outcome State Fault Refusal :=
  .next (s.runDsp k (.sha sat an sh))
/-- CLRA (R218). -/
def execClra (k : CoreId) (an : Acc) (s : State) : Host.Outcome State Fault Refusal :=
  .next (s.runDsp k (.clra an))
/-- DIVS (R220). -/
def execDivs (k : CoreId) (rd ra rb : DReg) (s : State) : Host.Outcome State Fault Refusal :=
  .next (s.runDsp k (.divs rd ra rb))
/-- MPYR (R218). -/
def execMpyr (k : CoreId) (sat : Bool) (rd ra rb : DReg) (s : State) : Host.Outcome State Fault Refusal :=
  .next (s.runDsp k (.mpyr sat rd ra rb))
/-- LG2 (R221). -/
def execLg2 (k : CoreId) (rd ra : DReg) (s : State) : Host.Outcome State Fault Refusal :=
  .next (s.runDsp k (.lg2 rd ra))
/-- EX2 (R222). -/
def execEx2 (k : CoreId) (sat : Bool) (rd ra : DReg) (s : State) : Host.Outcome State Fault Refusal :=
  .next (s.runDsp k (.ex2 sat rd ra))
/-- STY (R218). -/
def execSty (k : CoreId) (pn : Ptr) (rb : DReg) (m : Mod) (s : State) : Host.Outcome State Fault Refusal :=
  .next (s.runDsp k (.sty pn rb m))
/-- JMP (R218). -/
def execJmp (k : CoreId) (c : Cond) (tgt : BitVec 13) (s : State) : Host.Outcome State Fault Refusal :=
  .next (s.runDsp k (.jmp c tgt))
/-- CALL (R218). -/
def execCall (k : CoreId) (c : Cond) (tgt : BitVec 13) (s : State) : Host.Outcome State Fault Refusal :=
  .next (s.runDsp k (.call c tgt))
/-- RET (R218). -/
def execRet (k : CoreId) (c : Cond) (s : State) : Host.Outcome State Fault Refusal :=
  .next (s.runDsp k (.ret c))
/-- LOOP (R223). -/
def execLoop (k : CoreId) (count : BitVec 16) (body : BitVec 13) (s : State) : Host.Outcome State Fault Refusal :=
  .next (s.runDsp k (.loop count body))
/-- LOOPV (R223). -/
def execLoopv (k : CoreId) (dn : DReg) (body : BitVec 13) (s : State) : Host.Outcome State Fault Refusal :=
  .next (s.runDsp k (.loopv dn body))
/-- LEAVE (R225). -/
def execLeave (k : CoreId) (c : Cond) (s : State) : Host.Outcome State Fault Refusal :=
  .next (s.runDsp k (.leave c))
/-- LDI (R219). -/
def execLdi (k : CoreId) (rd : Reg) (imm : Word) (s : State) : Host.Outcome State Fault Refusal :=
  .next (s.runDsp k (.ldi rd imm))
/-- ADDI (R219). -/
def execAddi (k : CoreId) (sat : Bool) (rd : Reg) (imm : Word) (s : State) : Host.Outcome State Fault Refusal :=
  .next (s.runDsp k (.addi sat rd imm))
/-- ANDI (R219). -/
def execAndi (k : CoreId) (rd : DReg) (imm : Word) (s : State) : Host.Outcome State Fault Refusal :=
  .next (s.runDsp k (.andi rd imm))
/-- ORI (R219). -/
def execOri (k : CoreId) (rd : DReg) (imm : Word) (s : State) : Host.Outcome State Fault Refusal :=
  .next (s.runDsp k (.ori rd imm))
/-- XORI (R219). -/
def execXori (k : CoreId) (rd : DReg) (imm : Word) (s : State) : Host.Outcome State Fault Refusal :=
  .next (s.runDsp k (.xori rd imm))
/-- CMPI (R219). -/
def execCmpi (k : CoreId) (rd : DReg) (imm : Word) (s : State) : Host.Outcome State Fault Refusal :=
  .next (s.runDsp k (.cmpi rd imm))
/-- LDIA (R219). -/
def execLdia (k : CoreId) (an : Acc) (imm : Word) (s : State) : Host.Outcome State Fault Refusal :=
  .next (s.runDsp k (.ldia an imm))
/-- MPYRI (R219). -/
def execMpyri (k : CoreId) (sat : Bool) (rd : DReg) (imm : Word) (s : State) : Host.Outcome State Fault Refusal :=
  .next (s.runDsp k (.mpyri sat rd imm))

end Sys2Proof.Machine
end

