-- ==== Sys2Proof/Machine/Timeline.lean ====
section
/-! DEFINITION. The timeline, rounds and effective samples (R37 to R47, R53, R70 to R72, R395). -/

namespace Sys2Proof.Machine

/-! ### Rates (R40, R41) -/

/-- The rate of an `fs_int` code, Hz. -/
def fsHz : Nat → Nat
  | 0 => 44100 | 1 => 48000 | 2 => 88200 | 3 => 96000 | 4 => 176400 | 5 => 192000 | _ => 96000

/-- Fs_int in Hz: the value last written to `fs_int` (R41). -/
def State.fs (s : State) : Nat := fsHz (s.nat El.fsInt)

/-- Whether a rate of 176.4 or 192 kHz halves the capacities of R4 (R598). -/
def State.halved (s : State) : Bool := decide (4 ≤ s.nat El.fsInt)

/-- A capacity quoted at 96 kHz, at the present rate (R4). -/
def State.cap (s : State) (n : Nat) : Nat := if s.halved then n / 2 else n

/-! ### Time -/

/-- The smallest integer at or above a / b. -/
def ceilDiv (a b : Nat) : Nat := (a + b - 1) / b

/-- The first sample at or after a PTP time given in ns (R38). -/
def sampleOfNs (ns fs : Nat) : Nat := ceilDiv (ns * fs) 1000000000

/-- The ns of a TIME80 value (R241). -/
def nsOfTime80 (v : Nat) : Nat := v % 2 ^ 48 * 1000000000 + v / 2 ^ 48
/-- The TIME80 value of a time in ns. -/
def time80OfNs (ns : Nat) : Nat := ns / 1000000000 % 2 ^ 48 + ns % 1000000000 * 2 ^ 48

/-- Time passes to `t`, ns that the base oscillator counts since the CTL domain powered up: the local clock advances at the rate of the DPLL (R395).
Time never runs backwards (log entry 1). -/
def State.advance (s : State) (t : Nat) : State :=
  let dt := t - s.time.tick
  let step : Int := (dt : Int) * 65536 * (1000000000000 + s.refs.freq) / 1000000000000
  { s with time := { s.time with tick := s.time.tick + dt, clk := s.time.clk + step.toNat } }

/-- The local clock in whole ns (R430). -/
def State.localNs (s : State) : Nat := s.time.clk / 65536

/-- Whether the timeline is anchored, so that rounds run (R39). -/
def State.anchored (s : State) : Bool := s.on El.anchorState

/-- The local clock as the sample clock follows it, in units of 2^-16 ns: a step above half a sample reaches the sample
clock at the next round boundary alone (R64, R65). -/
def State.smpClk (s : State) : Nat :=
  match s.rounds.step with
  | none => s.time.clk
  | some w => ((s.time.clk : Int) - w.deltaNs * 65536).toNat

/-- The sample that the sample clock has reached (R37, R39). -/
def State.sampleNow (s : State) : Nat := s.smpClk * s.fs / (1000000000 * 65536)

/-- The local clock value at which sample n falls, rounded up, in units of 2^-16 ns. -/
def State.clkOf (s : State) (n : Nat) : Nat := ceilDiv (n * 1000000000 * 65536) s.fs

/-- A time in ns as 1/256 of a round, rounded down (R52). -/
def State.rd256 (s : State) (ns : Nat) : Nat := ns * s.fs * 256 / (s.nat El.roundSize * 1000000000)

/-- The length of n rounds in ns, rounded up. -/
def State.roundsNs (s : State) (n : Nat) : Nat := ceilDiv (n * s.nat El.roundSize * 1000000000) s.fs

/-- The round whose pulse was issued most recently. -/
def State.roundIssued (s : State) : Nat := s.rounds.nextPulse - 1

/-- A sample on the timeline after a jump by d. -/
def byJump (d : Int) (n : Nat) : Nat := ((n : Int) + d).toNat
/-- The index of a round: a round of the timeline before a re-anchoring keeps its number, marked above bit 64, until its
tray has played (R65). -/
def roundIdx (k : Nat) : Nat := k % 2 ^ 64

/-- First sample of a round (R42). -/
def State.firstSample (s : State) (k : Nat) : Nat := roundIdx k * s.nat El.roundSize

/-- The index that a round has, or would have, on the present numbering. -/
def State.lineUp (s : State) (k : Nat) : Nat := if 2 ^ 64 ≤ k then ((roundIdx k : Int) + s.rounds.jump).toNat else k
/-- The first sample of a round on the present numbering, by which ramps, morphs and meters run on through a re-anchoring
(log entry 88). -/
def State.lineSample (s : State) (k : Nat) : Nat :=
  if 2 ^ 64 ≤ k then ((s.firstSample k : Int) + s.rounds.jumpBy).toNat else s.firstSample k
/-- A sample of round k on the present numbering. -/
def State.onLine (s : State) (k n : Nat) : Nat := if 2 ^ 64 ≤ k then ((n : Int) + s.rounds.jumpBy).toNat else n

/-- The effective sample of an unpostmarked write accepted now (R47): the first sample of round k + 1 if at least
20 µs remain before its pulse, else of round k + 2. -/
def State.effective (s : State) : Nat :=
  let k := s.roundIssued
  if s.smpClk + 20000 * 65536 ≤ s.clkOf (s.firstSample (k + 1)) then s.firstSample (k + 1) else s.firstSample (k + 2)

/-- The sample reported for a write that applies when it is answered (R262). -/
def State.reported (s : State) : Nat := if s.anchored then s.firstSample s.roundIssued else 0

/-- n rounded up to a multiple of B (R71). -/
def State.roundUp (s : State) (n : Nat) : Nat := ceilDiv n (s.nat El.roundSize) * s.nat El.roundSize

end Sys2Proof.Machine
end

