-- ==== Sys2Proof/Machine/Post.lean ====
section
/-! DEFINITION. What the engine sends by itself and how a BOP message is put together: values on the wire (R241),
headers and tags (R257, R268), NOTIFY messages (R278), notices and the event log (R250, R280, R281). -/

namespace Sys2Proof.Machine

/-! ### Values on the wire (R241) -/

/-- Bytes of a type code; 0 for DOMAIN, whose length is its own. -/
def tyBytes : Nat → Nat
  | 1 => 1 | 2 => 1 | 3 => 2 | 4 => 4 | 5 => 8 | 6 => 4 | 7 => 4 | 8 => 4 | 9 => 2 | 10 => 10 | 11 => 8 | 12 => 4
  | 13 => 32 | _ => 0

/-- Whether a type's values are two's complement (R241). -/
def tySigned (ty : Nat) : Bool := ty == 6 || ty == 7 || ty == 8 || ty == 9

/-- The wire form of a value. -/
def encodeVal (ty : Nat) : Val → List Byte
  | .int z => leBytes (tyBytes ty) (wrap (8 * tyBytes ty) z)
  | .bytes b => b

/-- The value that a wire form of a type holds. -/
def decodeVal (ty : Nat) (b : List Byte) : Val :=
  if ty = 13 ∨ ty = 14 then .bytes b
  else if tySigned ty then .int (signed (8 * tyBytes ty) (leVal b)) else .int (leVal b)

/-! ### Messages (R257, R259, R268) -/

/-- Operation codes. -/
def opRead : Nat := 1
def opWrite : Nat := 2
def opWriteAt : Nat := 3
def opSubscribe : Nat := 4
def opOpen : Nat := 6
def opSeal : Nat := 7
def opDrop : Nat := 8
def opRecall : Nat := 9

/-- The wire form of an operation record (R259). -/
def encodeRec (r : Rec) : List Byte :=
  leBytes 1 r.op ++ leBytes 1 r.typ ++ leBytes 2 (12 + r.body.length) ++ leBytes 2 r.opId ++ leBytes 1 r.oflags ++
    leBytes 1 r.status ++ leBytes 4 r.addr.toNat ++ r.body

/-- The header and records of a message from the engine (R257). -/
def messageBody (flags session engine seq : Nat) (recs : List Rec) : List Byte :=
  let body := recs.flatMap encodeRec
  leBytes 2 0x4F42 ++ leBytes 1 1 ++ leBytes 1 flags ++ leBytes 2 session ++ leBytes 2 engine ++ leBytes 4 seq ++
    leBytes 2 recs.length ++ leBytes 2 body.length ++ body

/-- A message with its tag (R268); an untagged answer carries 16 zero bytes (log entry 13). -/
def tagged (key salt msg : List Byte) : List Byte := msg ++ (Config.hmac key (salt ++ msg)).toList.take 16
def untagged (msg : List Byte) : List Byte := msg ++ List.replicate 16 0

/-- The key of a slot (R265); an unlisted slot holds none. -/
def State.key (s : State) (slot : Nat) : List Byte := Tab.get [] s.bop.keys slot

/-! ### Rings and tunnels -/

/-- A network port with nothing in it. -/
def NetPort.fresh : NetPort := ⟨[], [], 0, [], none, none, 0, 0, false, [], []⟩
def State.netPort (s : State) (p : Nat) : NetPort := Tab.get NetPort.fresh s.net.ports p
def State.setNetPort (s : State) (p : Nat) (x : NetPort) : State :=
  { s with net := { s.net with ports := Tab.put NetPort.fresh s.net.ports p x } }

/-- A coach link without lock. -/
def Link.fresh : Link where
  blockLock := false
  matched := 0
  lastSection := 0
  sentAt := 0
  farSent := 0
  arrival := 0
  farDriving := false
  farTwin := false
  farClaim := 0
  farTg := 0
  farCrc := 0
  lastSmp := []
  tunnel := []
  tunnelled := []
  ready := []
  readyAt := []
  sending := none
  lane := []
  used := 0
  relays := []
def State.link (s : State) (l : Nat) : Link := Tab.get Link.fresh s.links l
def State.setLink (s : State) (l : Nat) (x : Link) : State := { s with links := Tab.put Link.fresh s.links l x }

/-- Whether a 16-byte address is an IPv4 address in IPv4-mapped form (R288). -/
def isMapped (b : List Byte) : Bool := b.take 12 == List.replicate 10 0 ++ [0xFF, 0xFF]

/-- The `n` low bytes of a number in network order. -/
def beBytes (n v : Nat) : List Byte := (leBytes n v).reverse

/-- The 4 bytes of an AM824 word (R356, log entry 104): block start, first subframe, parity, channel status, user and validity
bits, then the 24 audio bits. -/
def am824 (first : Bool) (x : Subframe) : List Byte :=
  let flag (b : Bool) (k : Nat) : Nat := if b then 2 ^ k else 0
  BitVec.ofNat 8 (flag x.start 5 + flag first 4 + flag x.parity 3 + flag x.status 2 + flag x.user 1 + flag x.validity 0) ::
    beBytes 3 (wrap 24 x.audio)

/-- The payload of a media packet: sample instants in order, channels in order, each word in network order (R342). -/
def MediaPacket.payload (m : MediaPacket) : List Byte :=
  if m.format = 2 then m.subs.flatMap (fun l => l.zipIdx.flatMap (fun e => am824 (e.2 % 2 == 0) e.1))
  else m.samples.flatMap (fun l => l.flatMap (fun v => beBytes (m.format + 2) (wrap (8 * (m.format + 2)) v)))

/-- The RTP packet: header and payload (R355). -/
def MediaPacket.rtp (m : MediaPacket) : List Byte :=
  [0x80, BitVec.ofNat 8 m.pt] ++ beBytes 2 m.seq ++ beBytes 4 m.ts ++ beBytes 4 m.ssrc ++ m.payload

/-- The sum of 16-bit words in ones' complement. -/
def onesSum : List Byte → Nat
  | a :: b :: l => let z := a.toNat * 256 + b.toNat + onesSum l; z % 65536 + z / 65536
  | [a] => a.toNat * 256
  | [] => 0

/-- The UDP checksum over pseudo header, UDP header and payload (R355). -/
def MediaPacket.udpSum (m : MediaPacket) : Nat :=
  let body := m.rtp
  let n := body.length + 8
  let pseudo := if isMapped m.dst then m.src.drop 12 ++ m.dst.drop 12 ++ [0, 17] ++ beBytes 2 n
    else m.src ++ m.dst ++ beBytes 4 n ++ [0, 0, 0, 17]
  let z := 65535 - onesSum (pseudo ++ beBytes 2 m.sport ++ beBytes 2 m.dport ++ beBytes 2 n ++ [0, 0] ++ body)
  if z = 0 then 65535 else z

/-- The two octets after a message (R402): its ones' complement sum stays what it was when `old` became `new`, and with it the UDP
checksum. -/
def padFor (pad : Nat) (old new : List Byte) : Nat := (pad + onesSum old + (65535 - onesSum new)) % 65535

/-- Whether a PTP message is an event message. -/
def PtpKind.isEvent : PtpKind → Bool
  | .announce => false | .delayResp => false | _ => true

/-- messageType and controlField of IEEE 1588-2019 (log entry 111). -/
def PtpKind.codes : PtpKind → Nat × Nat
  | .sync => (0, 0) | .delayReq => (1, 1) | .pdelayReq => (2, 5) | .pdelayResp => (3, 5) | .delayResp => (9, 3) | .announce => (11, 5)

/-- A time in ns as a Timestamp of IEEE 1588-2019. -/
def ptpStamp (ns : Nat) : List Byte := beBytes 6 (ns / 1000000000) ++ beBytes 4 (ns % 1000000000)

/-- What follows the header of a message (log entry 111). -/
def PtpFrame.body (x : PtpFrame) : List Byte :=
  match x.kind with
  | .sync => ptpStamp x.origin
  | .delayReq => ptpStamp x.origin
  | .pdelayReq => ptpStamp x.origin ++ List.replicate 10 0
  | .pdelayResp => List.replicate 10 0 ++ beBytes 10 x.req
  | .delayResp => ptpStamp (x.got / 65536).toNat ++ beBytes 10 x.req
  | .announce =>
    List.replicate 10 0 ++ beBytes 2 Config.utcOffset ++ [0, BitVec.ofNat 8 x.clock.priority1, BitVec.ofNat 8 x.clock.gmClass,
      BitVec.ofNat 8 x.clock.gmAcc] ++ beBytes 2 x.clock.gmVar ++ [BitVec.ofNat 8 x.clock.priority2] ++ beBytes 8 x.clock.gmId ++
      beBytes 2 x.clock.steps ++ [Config.timeSource]

/-- A PTP message without the octets that follow it: one-step, on the PTP timescale (R395, R402; log entry 111). -/
def PtpFrame.message (x : PtpFrame) : List Byte :=
  let body := x.body
  [BitVec.ofNat 8 (x.kind.codes.1 + (if x.transport = 2 then 16 else 0)), 0x12] ++ beBytes 2 (34 + body.length) ++
    [BitVec.ofNat 8 x.domain, 0, 0, if x.kind = .announce then 8 else 0] ++ beBytes 8 (wrap 64 x.corr) ++ [0, 0, 0, 0] ++
    beBytes 10 x.src ++ beBytes 2 x.seq ++ [BitVec.ofNat 8 x.kind.codes.2, BitVec.ofNat 8 (wrap 8 x.interval)] ++ body

/-- A message leaves at an egress timestamp in units of 2^-16 ns (R402): the timestamp is its originTimestamp with the fraction
in correctionField, and a Pdelay_Resp carries its turnaround time there. -/
def PtpFrame.stamp (x : PtpFrame) (egress asym : Int) : PtpFrame :=
  match x.kind with
  | .pdelayResp => { x with corr := x.corr + (egress - x.got) }
  | .delayResp => x
  | .announce => x
  | .delayReq => { x with origin := (egress / 65536).toNat, corr := x.corr + egress % 65536 - asym }
  | _ => { x with origin := (egress / 65536).toNat, corr := x.corr + egress % 65536 }

/-- The two octets after an event message over IPv6, for the UDP checksum that the message had before its timestamp (R402). -/
def PtpFrame.pad (x : PtpFrame) : Nat :=
  if x.transport = 1 ∧ x.kind.isEvent then padFor 0 ({ x with corr := 0, origin := 0 } : PtpFrame).message x.message else 0

/-- A forwarded event message with its residence time in its correctionField: the checksum of IPv4 is 0, that of IPv6 is kept
through the two octets, and the FCS is formed anew (R402, R403). Other frames pass unchanged. -/
def resideFrame (f : Frame) (residence : Int) : Frame :=
  match f.kind with
  | .ptpEvent transport corr udp pad =>
    let c := corr + residence
    let p := if transport = 1 then padFor pad (beBytes 8 (wrap 64 corr)) (beBytes 8 (wrap 64 c)) else pad
    { f with fcsOk := true, kind := .ptpEvent transport c (if transport = 0 then 0 else udp) p }
  | _ => f

/-- Bytes of a frame on a ring, FCS included: headers of Ethernet, IPv4, UDP and RTP round a payload; messages whose
length the manual does not give count as the shortest frame (log entry 36). -/
def TxItem.bytes : TxItem → Nat
  | .bop _ _ d => max 64 (d.length + 46)
  | .media m => max 64 (m.payload.length + 12 + 8 + (if isMapped m.dst then 20 else 40) + 18)
  | .forward f _ => f.len
  | .ptp x => max 64 (x.message.length + 18 + (if x.transport = 0 then 28 else if x.transport = 1 then 50 else 0))
  | .neighbour _ => 64
  | .report _ _ _ => 64

/-- A time in ps, in units of 2^-16 ns (log entry 113). -/
def psTime (ps : Int) : Int := ps * 65536 / 1000

/-- An egress and an ingress timestamp of a port now, in units of 2^-16 ns (R401): time at the balls with the latency outside the
engine (log entry 113). -/
def State.egress (s : State) (p : Nat) : Int := (s.time.clk : Int) + psTime (s.nat (El.ptpTxLat p))
def State.ingress (s : State) (p : Nat) : Int := (s.time.clk : Int) - psTime (s.nat (El.ptpRxLat p))

/-- A PTP port that has heard nothing. -/
def PtpPort.fresh : PtpPort where
  master := none
  foreign := []
  lastAnnounce := 0
  lastSync := 0
  offsets := []
  pending := none
  forth := 0
  delay := 0
  seqs := []
  reqSeq := 0
  reqAt := none
  answer := none
  goodSince := none
  qualified := false
def State.ptpPort (s : State) (p : Nat) : PtpPort := Tab.get PtpPort.fresh s.refs.ptp p
def State.setPtpPort (s : State) (p : Nat) (x : PtpPort) : State :=
  { s with refs := { s.refs with ptp := Tab.put PtpPort.fresh s.refs.ptp p x } }

/-- An item as it leaves port p: event messages take their egress timestamp, forwarded ones their residence time (R402, R403). -/
def State.leaving (s : State) (p : Nat) : TxItem → TxItem
  | .ptp x => .ptp (x.stamp (s.egress p) (psTime (s.int (El.ptpAsym (x.src % 65536 - 1)))))
  | .forward f got => .forward (resideFrame f (s.egress p - got)) got
  | x => x

/-- A request of a PTP port has left: its answer is measured from here (R401). -/
def State.noteRequest (s : State) (x : TxItem) : State :=
  match x with
  | .ptp f =>
    if f.kind = .delayReq ∨ f.kind = .pdelayReq then
      let q := f.src % 65536 - 1
      s.setPtpPort q { s.ptpPort q with reqSeq := f.seq, reqAt := some ((f.origin : Int) * 65536) }
    else s
  | _ => s

/-- A port with a frame offered for transmission at a priority, and those of the last second (R391). -/
def NetPort.offer (n : NetPort) (now pri : Nat) (x : TxItem) : NetPort :=
  { n with offered := (now, pri, x.bytes * 8) :: n.offered.filter (fun e => decide (now < e.1 + 1000000000)) }

/-- `port_load` of a priority: what was offered over the last second, in whole kbit/s (R391, log entry 36). -/
def State.offeredLoad (s : State) (p pri : Nat) : Nat :=
  (((s.netPort p).offered.filter (fun e => e.2.1 == pri && decide (s.time.tick < e.1 + 1000000000))).map (·.2.2)).sum / 1000

/-- Put an item at the end of a transmit ring. While the link of port M is down each ring holds 64 KB, and further frames
are dropped and counted (R336). -/
def State.enqueue (s : State) (p ring : Nat) (x : TxItem) : State :=
  let n := (s.netPort p).offer s.time.tick (s.nat (El.txrPriority p ring)) x
  let q := Tab.get [] n.tx ring
  if p = 2 ∧ s.nat (El.portLink 2) ≠ 1 ∧ 65536 < (q.map TxItem.bytes).sum + x.bytes then (s.setNetPort p n).inc (El.portTxDrops 2)
  else s.setNetPort p { n with tx := Tab.put [] n.tx ring (q ++ [x]) }

/-- Bytes that a tunnel holds: it holds up to 65,536, and a message that finds no room is dropped and counted (R389). -/
def State.tunnelSend (s : State) (l : Nat) (data : List Byte) : State :=
  let k := s.link l
  if 4 ≤ l then s
  else if ((k.tunnel.map List.length).sum + data.length) ≤ 65536 then s.setLink l { k with tunnel := k.tunnel ++ [data] }
  else s.inc (El.lkTunnelDrops l)

/-- Send a BOP message to a host over the port that `sess_port` codes: 0 M, 1 A, 2 B, 4 to 7 the coach links (R287). No datagram
longer than `bop_max_msg` is sent, whether it is an answer kept for a repeat or one that came out of a tunnel (R253). -/
def State.sendBop (s : State) (port host ring : Nat) (data : List Byte) : State :=
  if 4 ≤ port then s.tunnelSend (port - 4) data
  else if s.nat El.bopMaxMsg < data.length then s
  else s.enqueue (if port = 0 then 2 else port - 1) ring (.bop host (s.nat El.bopDscp) data)

/-! ### NOTIFY (R278) -/

/-- A session by its number, if it is open. -/
def State.session (s : State) (n : Nat) : Option Session := Tab.get none s.bop.sessions n
def State.setSession (s : State) (n : Nat) (x : Option Session) : State :=
  { s with bop := { s.bop with sessions := Tab.put none s.bop.sessions n x } }

/-- A NOTIFY record (R278): its type, its address and its body. -/
def notifyRec (typ : Nat) (addr : Nat) (body : List Byte) : Rec := ⟨5, typ, 0, 0, 0, BitVec.ofNat 32 addr, body⟩

/-- The salt of openings and of group messages (R266; log entry 12). -/
def zeroSalt : List Byte := List.replicate 8 0

/-- The sequence of a multicast group. -/
def GroupSeq.fresh : GroupSeq := ⟨0, [], 0, []⟩
def State.groupSeq (s : State) (g : Nat) : GroupSeq := Tab.get GroupSeq.fresh s.bop.groups g
def State.setGroupSeq (s : State) (g : Nat) (x : GroupSeq) : State :=
  { s with bop := { s.bop with groups := Tab.put GroupSeq.fresh s.bop.groups g x } }

/-- The next number of the engine's own numbering (R269). -/
def nextSeq (n : Nat) : Nat := (n + 1) % 2 ^ 32

/-- A subscriber beyond the 64 sessions: a group, with the port and host to which its answers go (R271). -/
def groupOwner (g : Nat) (asker : Nat × Nat) : Nat := 65 + g + 16 * (asker.1 + 8 * asker.2)

/-- Send records to a subscriber in one NOTIFY message, under the engine's own numbering (R269, R271, R278); the state and the
message. No message goes to a session that has ended, or for a group that is off. -/
def State.notifyMsg (s : State) (n : Nat) (recs : List Rec) : State × List (List Byte) :=
  if n ≤ 64 then
    match s.session n with
    | none => (s, [])
    | some x =>
      let seq := nextSeq x.outSeq
      let msg := tagged (s.key x.slot) x.salt (messageBody 9 n (s.nat El.engineNumber) seq recs)
      ((s.setSession n (some { x with outSeq := seq })).sendBop x.port x.host 2 msg, [msg])
  else
    let g := (n - 65) % 16
    if s.on (El.grpEnable g) = false then (s, [])
    else
      let x := s.groupSeq g
      let seq := nextSeq x.outSeq
      let msg := tagged (s.key (s.nat (El.grpSlot g))) zeroSalt (messageBody 11 g (s.nat El.engineNumber) seq recs)
      ((s.setGroupSeq g { x with outSeq := seq }).sendBop ((n - 65) / 16 % 8) ((n - 65) / 128) 2 msg, [msg])

/-- Send one NOTIFY record. -/
def State.notify (s : State) (n : Nat) (r : Rec) : State := (s.notifyMsg n [r]).1

/-! ### Notices (R250, R280, R281) -/

/-- The 44 bytes of a notice record (R280). -/
def encodeNotice (n : Notice) : List Byte :=
  leBytes 2 n.code ++ leBytes 2 0 ++ leBytes 4 n.num ++ leBytes 8 n.index ++ leBytes 4 n.origin ++
    ((n.params ++ List.replicate 6 0).take 6).flatMap (leBytes 4)

/-- Subscriptions, in the order of their numbers. -/
def State.subList (s : State) : List (Nat × Sub) :=
  s.bop.subs.filterMap (fun e => e.2.map (fun x => (e.1, x)))

/-- Post a notice: it enters the event log, whose oldest entry makes room, and goes to every session that subscribed
to its area (R250, R276, R278 to R280). -/
def State.post (s : State) (code origin : Nat) (params : List Nat) : State :=
  let num := s.nat El.logNext
  let index := if s.anchored then s.firstSample s.roundIssued else 0
  let n : Notice := ⟨code, num, index, origin, params⟩
  let log := s.bop.log ++ [n]
  let s1 : State := { s with bop := { s.bop with log := log.drop (log.length - 4096) } }
  let s2 := s1.setN El.logNext ((num + 1) % 2 ^ 32)
  (s2.subList.filter (fun e => e.2.kind = 2 ∧ bitOf e.2.areas (code / 256))).foldl
    (fun k e => k.notify e.2.owner (notifyRec 0 0 ([1] ++ encodeNotice n))) s2

/-- An index as two parameter words, low word first (R280). -/
def twoWords (n : Nat) : List Nat := [n % 2 ^ 32, n / 2 ^ 32 % 2 ^ 32]
/-- An integer as one parameter word. -/
def wordParam (z : Int) : Nat := wrap 32 z

/-- The notice codes of R281. -/
def nDeadlineMiss : Nat := 0x0101
def nCatchupDone : Nat := 0x0102
def nStateDisagree : Nat := 0x0103
def nRefStep : Nat := 0x0301
def nPtpLost : Nat := 0x0302
def nRefSwitch : Nat := 0x0401
def nHoldover : Nat := 0x0402
def nClockSafe : Nat := 0x0403
def nTxUnderrun : Nat := 0x0501
def nStreamUnderrun : Nat := 0x0601
def nDigestMismatch : Nat := 0x0A01
def nPathAlarm : Nat := 0x0A02
def nTakeover : Nat := 0x0A03
def nResyncDone : Nat := 0x0A04
def nSramRepair : Nat := 0x0B01
def nDramRowRetired : Nat := 0x0B02
def nSettingsReset : Nat := 0x0D01
def nUpdateStage : Nat := 0x0D02
def nSceneArmed : Nat := 0x1C01
def nSceneWithdrawn : Nat := 0x1C02
def nEnvelopeDiscarded : Nat := 0x1C03
def nCoreRelieved : Nat := 0x1D01
def nGuardOverflow : Nat := 0x1D02
def nOcShutdown : Nat := 0x1E01
def nPscLatch : Nat := 0x1E02
def nExcursionLimit : Nat := 0x1F01

/-! ### Corrections (R283, R284) -/

/-- A notice parameter that carries a value: its low word. -/
def valWord (v : Val) : Nat := wordParam v.toInt

/-- An element is noted as touched by a change with effective sample n (R277). -/
def State.touch (s : State) (a n : Nat) : State :=
  if s.bop.touched.contains (a, n) then s else { s with bop := { s.bop with touched := s.bop.touched ++ [(a, n)] } }
def State.touchAll (s : State) (l : List Nat) (n : Nat) : State := l.foldl (fun k a => k.touch a n) s

/-- The data path corrects an element of the dictionary: the correction counts, and posts STATE_DISAGREE at most once a
second for an element (R283). -/
def State.correct (s : State) (a : Nat) (v : Val) : State :=
  if s.val a = v then s
  else
    let old := s.val a
    let s1 := (((s.touch a 0).setV a v).inc El.disagreeCount).setN El.disagreeLast a
    let last := Tab.get 0 s.bop.disagreeAt a
    if last ≠ 0 ∧ s.time.tick + 1 < last + 1000000000 then s1
    else
      let s2 : State := { s1 with bop := { s1.bop with disagreeAt := Tab.put 0 s1.bop.disagreeAt a (s.time.tick + 1) } }
      s2.post nStateDisagree a [a, valWord old, valWord v]

end Sys2Proof.Machine
end

