-- ==== Sys2Proof/Machine/Numeric.lean ====
section
/-! DEFINITION. The exact and fixed-point numbers of the manual's formulas: rounding, powers of ten, exponentials,
sines and tangents (R92, R93, R100, R134, R606), each worked out to 160 fraction bits before its one stated rounding,
and CRC-32C (R151, R229, R366). -/

namespace Sys2Proof.Machine

/-- Fraction bits of the working form. -/
def fixBits : Nat := 160
/-- 1 in the working form. -/
def fixOne : Int := 2 ^ 160

/-- π in the working form, rounded down. -/
def fixPi : Int := 4591442807048218921384805199743311128454155024418

/-- ln 10 in the working form, rounded down: 2.302585092994045684017991454684364207601101488628772976033. -/
def fixLn10 : Int := 2302585092994045684017991454684364207601101488628772976033327900967572 * 2 ^ 160 / 10 ^ 69

/-- Half-to-even division of an integer by a positive integer (R186). -/
def roundDiv (a : Int) (b : Nat) : Int :=
  let q := a / (b : Int)
  let r := a % (b : Int)
  if 2 * r < b then q else if (b : Int) < 2 * r then q + 1 else if q % 2 = 0 then q else q + 1

/-- Terms of the exponential series: x^k / k! accumulated. -/
def expSeries : Nat → Nat → Int → Int → Int → Int
  | 0, _, _, _, acc => acc
  | n + 1, k, x, term, acc =>
    let t := term * x / fixOne / (k : Int)
    expSeries n (k + 1) x t (acc + t)

/-- exp of a working-form number of small magnitude. -/
def fixExpSmall (x : Int) : Int := expSeries 60 1 x fixOne fixOne

/-- Square a working-form number `n` times. -/
def fixSquares : Nat → Int → Int
  | 0, x => x
  | n + 1, x => fixSquares n (x * x / fixOne)

/-- exp of a working-form number: the argument is halved eight times and the result squared back. -/
def fixExp (x : Int) : Int := fixSquares 8 (fixExpSmall (x / 256))

/-- Terms of the sine series. -/
def sinSeries : Nat → Nat → Int → Int → Int → Int
  | 0, _, _, _, acc => acc
  | n + 1, k, x2, term, acc =>
    let t := -(term * x2 / fixOne) / ((k : Int) * (k + 1))
    sinSeries n (k + 2) x2 t (acc + t)

/-- sin of a working-form angle between −π/2 and π/2. -/
def fixSin (x : Int) : Int := sinSeries 40 2 (x * x / fixOne) x x

/-- cos of a working-form angle between 0 and π/2. -/
def fixCos (x : Int) : Int := fixSin (fixPi / 2 - x)

/-- sin(2π n / m) in the working form, for 0 ≤ n < m: the angle folded into the first quarter. -/
def sinTurn (n m : Nat) : Int :=
  let q := 4 * n / m
  let r := 4 * n % m
  let ang := fixPi * (r : Int) / (2 * (m : Int))
  let rev := fixPi * ((m : Int) - r) / (2 * (m : Int))
  match q with
  | 0 => fixSin ang
  | 1 => fixSin rev
  | 2 => -fixSin ang
  | _ => -fixSin rev

/-- 10^(v / 2560) in the working form: exact where v is a multiple of 2,560 and a power of ten is whole. -/
def pow10 (v : Int) : Int :=
  let q := v / 2560
  let r := v % 2560
  let frac := if r = 0 then fixOne else fixExp (fixLn10 * r / 2560)
  if 0 ≤ q then frac * (10 ^ q.toNat : Nat) else frac / (10 ^ (-q).toNat : Nat)

/-- The DB16 value of −∞ (R241). -/
def minusInf : Int := -32768

/-- The largest DB16 value, of 16 bits, whose level does not exceed an energy in the working form: bit by bit from the
top. -/
def dbFloor : Nat → Int → Int → Int
  | 0, _, v => v
  | n + 1, e, v => dbFloor n e (if pow10 (2 * (v + 2 ^ n)) ≤ e then v + 2 ^ n else v)

/-- A level reading, 10 log₁₀ of an energy in the working form, as DB16 (R108): exact where it falls on a value, −∞ at 0,
else either neighbour (log entry 5). -/
def levelOf (e : Int) : Int :=
  if e ≤ 0 then minusInf
  else
    let v := dbFloor 16 e minusInf
    if pow10 (2 * v) = e ∨ v = 32767 ∨ Config.levelUp e = false then v else v + 1

/-- 10^(n / 10000) in the working form. -/
def tenTo (n : Int) : Int := fixExp (fixLn10 * n / 10000)

/-- A working-form number rounded half to even to `n` fraction bits. -/
def fixRound (x : Int) (n : Nat) : Int := roundShift x (160 - n)
/-- A working-form number rounded down to `n` fraction bits. -/
def fixFloor (x : Int) (n : Nat) : Int := x / (2 ^ (160 - n) : Nat)

/-- An integer held to the Q1.31 range (R99). -/
def satQ31 (z : Int) : Int := if z < -2147483648 then -2147483648 else if 2147483647 < z then 2147483647 else z

/-- Integers of a list, largest magnitude. -/
def peakOf (l : List Int) : Nat := l.foldl (fun m x => max m x.natAbs) 0

/-! ### CRC-32C -/

/-- One bit of the reflected CRC with polynomial 0x82F63B78. -/
def crcBit (c : Nat) : Nat := if c % 2 = 1 then Nat.xor (c / 2) 0x82F63B78 else c / 2
/-- Eight bits. -/
def crcByte (c b : Nat) : Nat :=
  crcBit (crcBit (crcBit (crcBit (crcBit (crcBit (crcBit (crcBit (Nat.xor c b))))))))
/-- CRC-32C of a byte string. -/
def crc32c (l : List Byte) : Nat := Nat.xor (l.foldl (fun c b => crcByte c b.toNat) 0xFFFFFFFF) 0xFFFFFFFF

end Sys2Proof.Machine
end

