-- ==== Sys2Proof/Machine/Status.lean ====
section
/-! DEFINITION. The status codes of R274, and the first failing check of R275. -/

namespace Sys2Proof.Machine

/-- The status codes (R274). -/
inductive Status where
  | ok | notPresent | noObject | badType | outOfRange | denied | wrongState | busy | past | far | discarded | full
  | tagFail | stale
deriving DecidableEq, Repr

/-- The code of a status. -/
def Status.code : Status → Nat
  | .ok => 0 | .notPresent => 1 | .noObject => 2 | .badType => 3 | .outOfRange => 4 | .denied => 5 | .wrongState => 6
  | .busy => 7 | .past => 8 | .far => 9 | .discarded => 10 | .full => 11 | .tagFail => 12 | .stale => 13

/-- The first check that fails, in the order of a list; `ok` when none does (R275). -/
def firstFail : List (Bool × Status) → Status
  | [] => .ok
  | (bad, st) :: l => if bad then st else firstFail l

/-- The first status of a list that is not OK. -/
def firstOf : List Status → Status
  | [] => .ok
  | x :: l => if x = .ok then firstOf l else x

end Sys2Proof.Machine
end

