-- ==== Sys2Proof/Machine/Signals.lean ====
section
/-! DEFINITION. Signal addresses, the signals of a round, and the test generators (R3, R12, R56, R74, R598, R599, R248,
R606). -/

namespace Sys2Proof.Machine

/-! ### Signal addresses (R12, R599) -/

def sigKind (a : Nat) : Nat := a / 2 ^ 28 % 16
def sigIndex (a : Nat) : Nat := a % 2 ^ 28
/-- silence/0. -/
def silence : Nat := 0x80000000
def sigStrip (bus : Bool) (n : Nat) : Nat := (if bus then 4 else 3) * 2 ^ 28 + n
def sigJob (i : Nat) : Nat := 5 * 2 ^ 28 + i
def sigTest (g : Nat) : Nat := 7 * 2 ^ 28 + g
def sigNet (c : Nat) : Nat := c
def sigSer (c : Nat) : Nat := 2 ^ 28 + c
def sigCoach (c : Nat) : Nat := 2 * 2 ^ 28 + c
def sigAsrc (n : Nat) : Nat := 6 * 2 ^ 28 + n

/-- Whether the variant has coach link l (R17, R18). -/
def linkPresent (v : Variant) (l : Nat) : Bool := decide (v.firstLink ≤ l) && decide (l < 4)

/-- A unit of a capacity that R4 halves: absent above the variant's own, out of service above the present half. -/
def State.unitStatus (s : State) (n capacity : Nat) : Status :=
  if capacity ≤ n then .notPresent else if s.cap capacity ≤ n then .wrongState else .ok

/-- A signal address as the value of an element (R3, R12, R598, R599). -/
def State.sigStatus (s : State) (a : Nat) : Status :=
  let i := sigIndex a
  match sigKind a with
  | 0 => if 2048 ≤ i then .notPresent else .ok
  | 1 => if s.variant.serialPorts * 32 ≤ i then .notPresent else .ok
  | 2 => if !linkPresent s.variant (i / 4096) then .notPresent else if s.cap 4096 ≤ i % 4096 then .wrongState else .ok
  | 3 => s.unitStatus i s.variant.strips
  | 4 => s.unitStatus i s.variant.buses
  | 5 =>
    if i < 1048576 then .ok
    else if i < 1049600 then s.unitStatus (i - 1048576) s.variant.strips
    else s.unitStatus (i - 1049600) s.variant.buses
  | 6 => if s.variant.asrcChannels ≤ i then .notPresent else .ok
  | 7 => if 16 ≤ i then .notPresent else .ok
  | 8 => if 0 < i then .notPresent else .ok
  | _ => .outOfRange

/-- The jobs of the images in effect: cluster, core, position and descriptor. -/
def State.allJobs (s : State) : List (Nat × Nat × Nat × Job) :=
  (List.range s.variant.clusters).flatMap (fun c =>
    match (s.cluster c).image with
    | none => []
    | some im => im.sections.flatMap (fun x => x.jobs.zipIdx.map (fun e => (c, x.core, e.2, e.1))))

/-- The job of an image in effect that produces a user job signal (R232, R599). -/
def State.producer (s : State) (i : Nat) : Option (Nat × Nat × Nat × Job) :=
  s.allJobs.find? (fun e => e.2.2.2.outs.any (fun o => o.idx = i))

/-- The strip job of an image in effect that runs a strip, whose pair it may lead (R124). -/
def State.stripJob (s : State) (bus : Bool) (n : Nat) : Option (Nat × Nat × Nat × Job) :=
  s.allJobs.find? (fun e =>
    match e.2.2.2.strip with
    | none => false
    | some (b, k) =>
      decide (b = bus) && (decide (k = n) ||
        (decide (k + 1 = n) && (e.2.2.2.program = 0x0102 || e.2.2.2.program = 0x0103 || e.2.2.2.program = 0x0202))))

/-- `src_phase` of a signal (R74, R599). -/
def State.phaseOf (s : State) (a : Nat) : Nat :=
  let i := sigIndex a
  match sigKind a with
  | 3 => 1
  | 4 => 3
  | 5 =>
    if 1049600 ≤ i then 3
    else if 1048576 ≤ i then 1
    else match s.producer i with
      | none => 0
      | some e => if e.2.2.2.phase3 then 3 else 1
  | _ => 0

/-- Whether a signal is the output of a deferrable job (R56). -/
def State.deferrable (s : State) (a : Nat) : Bool :=
  decide (sigKind a = 5) &&
    (match s.producer (sigIndex a) with
      | none => false
      | some e => e.2.2.2.deferrable)

/-- The power domain of the unit that produces a signal (R34, R600). -/
def State.sigDomain (s : State) (a : Nat) : Nat :=
  match sigKind a with
  | 0 => 0x0D
  | 1 => 0x10
  | 2 => 0x0F
  | 6 => 0x11
  | 7 => 0x0A
  | 8 => 0
  | 3 => match s.stripJob false (sigIndex a) with
    | none => 1
    | some e => 2 + e.1
  | 4 => match s.stripJob true (sigIndex a) with
    | none => 1
    | some e => 2 + e.1
  | _ => match s.producer (sigIndex a) with
    | none => 1
    | some e => 2 + e.1

/-- B zeros. -/
def State.zeros (s : State) : List Int := List.replicate s.roundB 0

/-- The samples of a signal in the round before (R103). -/
def State.signalBefore (s : State) (a : Nat) : List Int :=
  if s.sigStatus a ≠ .ok then s.zeros else Tab.get s.zeros s.mix.sigPrev a

/-- Hand a signal's samples of the round to the exchange. -/
def State.setSignal (s : State) (a : Nat) (x : List Int) : State :=
  { s with mix := { s.mix with sig := Tab.put [] s.mix.sig a x } }

/-! ### Test generators (R248, R606) -/

/-- 64-bit arithmetic of the counter-based generator. -/
def mix64 (z : Nat) (sh mul : Nat) : Nat := Nat.xor z (z / 2 ^ sh) * mul % 2 ^ 64

/-- u(n) of generator g: a Q1.31 value. -/
def white (n g : Nat) : Int :=
  let z0 := (16 * n + g + 1) * 0x9E3779B97F4A7C15 % 2 ^ 64
  let z1 := mix64 z0 30 0xBF58476D1CE4E5B9
  let z2 := mix64 z1 27 0x94D049BB133111EB
  let z3 := Nat.xor z2 (z2 / 2 ^ 31)
  signed 32 (z3 / 2 ^ 32)

/-- 10 × 2^(h / 4) Hz in the working form, for h quarter-octaves. -/
def quarterFreq (h : Nat) : Int :=
  let root := (Nat.sqrt (Nat.sqrt (2 ^ (h % 4) * 2 ^ 160) * 2 ^ 240) : Int)
  10 * (2 ^ (h / 4) : Nat) * root

/-- k × tan(π f / Fs) for a frequency in the working form, with k = 2 × Fs (R606). -/
def prewarp (f : Int) (fs : Nat) : Int :=
  let x := fixPi * f / fixOne / (fs : Int)
  2 * (fs : Int) * (fixSin x * fixOne / fixCos x)

/-- A quotient of working-form numbers, rounded half to even to a multiple of 2^-40. -/
def coef (a b : Int) : Int := roundDiv (a * 2 ^ 40) b.toNat

/-- The pole and zero of section i: p_i and z_i (R606). -/
def poleFreq (i : Nat) : Int := quarterFreq (2 * i)
def zeroFreq (i : Nat) : Int := quarterFreq (2 * i + 1)

/-- b0, b1 and a1 of section i in units of 2^-40. -/
def pinkCoefs (i fs : Nat) : Int × Int × Int :=
  let k : Int := 2 * (fs : Int) * fixOne
  let wz := prewarp (zeroFreq i) fs
  let wp := prewarp (poleFreq i) fs
  (coef (k + wz) (k + wp), coef (wz - k) (k + wp), coef (wp - k) (k + wp))

/-- The number of sections whose zero lies below 0.49 × Fs_int. -/
def pinkSections (fs : Nat) : Nat :=
  ((List.range 40).takeWhile (fun i => decide (zeroFreq i * 100 < 49 * (fs : Int) * fixOne))).length

/-- One sample through a cascade; each section keeps its last input and output in units of 2^-48. -/
def pinkStep : List (Int × Int × Int) → List (Int × Int) → Int → Int × List (Int × Int)
  | [], _, x => (x, [])
  | (b0, b1, a1) :: cs, st, x =>
    let (x1, y1) := st.headD (0, 0)
    let y := roundShift (b0 * x + b1 * x1 - a1 * y1) 40
    let r := pinkStep cs st.tail y
    (r.1, (x, y) :: r.2)

/-- The squared magnitude at 1 kHz of a section with rounded coefficients: numerator and denominator. -/
def sectionMag (fs : Nat) (c : Int × Int × Int) : Int × Int :=
  let cw := sinTurn ((1000 + fs / 4) % fs) fs
  let num := (c.1 * c.1 + c.2.1 * c.2.1) * fixOne + 2 * c.1 * c.2.1 * cw
  let den := (2 ^ 80 + c.2.2 * c.2.2) * fixOne + 2 * 2 ^ 40 * c.2.2 * cw
  (num, den)

/-- √(3/2) × A in the working form. -/
def noiseGain (level : Int) : Int := (Nat.sqrt (3 * 2 ^ 319) : Int) * pow10 level / fixOne

/-- 1 / |H(1 kHz)| of the cascade in the working form. -/
def pinkScale (fs : Nat) (cs : List (Int × Int × Int)) : Int :=
  let q := cs.foldl (fun acc c => let m := sectionMag fs c; acc * m.2 / m.1) (fixOne * fixOne)
  (Nat.sqrt q.toNat : Int)

/-- A sample of generator type 1 (R606). -/
def sineSample (level : Int) (freq fs n : Nat) : Int :=
  let m := 100 * fs
  let f := min freq (45 * fs)
  satQ31 (roundShift (pow10 level * sinTurn (n * f % m) m) (2 * 160 - 31))

/-- B samples of generator g from timeline index `n0` on, and its filter state after them (R606). -/
def State.testSamples (s : State) (g n0 : Nat) : List Int × List (Int × Int) :=
  let level := s.int (El.tgLevel g)
  let fs := s.fs
  let ns := (List.range s.roundB).map (n0 + ·)
  let st := Tab.get [] s.mix.pink g
  match s.nat (El.tgType g) with
  | 1 => (ns.map (sineSample level (s.nat (El.tgFreq g)) fs), st)
  | 2 =>
    let k := fixRound (noiseGain level) 40
    (ns.map (fun n => satQ31 (roundShift (white n g * k) 40)), st)
  | 3 =>
    let cs := (List.range (pinkSections fs)).map (fun i => pinkCoefs i fs)
    let k := fixRound (noiseGain level * pinkScale fs cs / fixOne) 40
    let r := ns.foldl (fun (acc : List Int × List (Int × Int)) n =>
      let q := pinkStep cs acc.2 (white n g * 2 ^ 17)
      (acc.1 ++ [satQ31 (roundShift (q.1 * k) 57)], q.2)) ([], st)
    r
  | 4 => (ns.map (fun n => if n % fs = 0 then min (fixRound (pow10 level) 31) 2147483647 else 0), st)
  | _ => (s.zeros, st)

/-- The filters of the generators advance over the round from sample n0 on. -/
def State.runTests (s : State) (n0 : Nat) : State :=
  (List.range 16).foldl (fun (k : State) g =>
    if k.nat (El.tgType g) = 3 then { k with mix := { k.mix with pink := Tab.put [] k.mix.pink g (k.testSamples g n0).2 } } else k) s

/-- The samples of a signal in the current round; a signal of a unit out of service, or whose domain is down, and
silence are exact zero (R34, R73, R598). A generator's are those of its present settings (R248, R606). -/
def State.signal (s : State) (a : Nat) : List Int :=
  if s.sigStatus a ≠ .ok then s.zeros
  else if sigKind a = 7 then
    (match s.rounds.current with
      | none => s.zeros
      | some k => if s.nat (El.tgType (sigIndex a)) = 0 then s.zeros else (s.testSamples (sigIndex a) (s.firstSample k)).1)
  else Tab.get s.zeros s.mix.sig a

/-! ### What a round waits for (R45, R46) -/

/-- Whether a change takes effect by the end of round k. A round of the timeline before a re-anchoring takes the changes that
were accepted before it alone. -/
def State.changeDue (s : State) (k : Nat) (c : Change) : Bool :=
  (decide (k < 2 ^ 64) || decide (c.id < s.rounds.jumpId)) &&
    (if c.kind == .activate then decide (c.eff ≤ s.firstSample k) else decide (c.eff < s.firstSample (k + 1)))

/-- What must take effect before anything of round k is computed: changes whose sample lies in it, activations due at its
boundary, and loads that are over by then (R45, R144, R237). -/
def State.roundDue (s : State) (k : Nat) : Bool :=
  s.disp.changes.any (s.changeDue k) ||
    (List.range s.variant.clusters).any (fun c => (s.cluster c).loading && decide ((s.cluster c).loadUntil ≤ s.lineUp k))

/-- The round that is being computed, once nothing of it waits. -/
def State.openRound (s : State) : Bool := match s.rounds.current with
  | none => false
  | some k => !s.roundDue k

end Sys2Proof.Machine
end

