-- ==== Sys2Proof/Machine/Mix.lean ====
section
/-! DEFINITION. The Sorting Office (R73 to R113, R602): crosspoint gains and ramps, sums, limiting, conversion,
feedback counts and meters. -/

namespace Sys2Proof.Machine

/-! ### Crosspoint addresses -/

/-- Source and destination pigeonhole of a crosspoint address. -/
def xpSource (a : Nat) : Nat := (areaOf a - 0x12) * 256 + elementOf a
def xpDest (a : Nat) : Nat := objectOf a
/-- Whether an address is a crosspoint's. -/
def isXp (a : Nat) : Bool := decide (0x12 ≤ areaOf a) && decide (areaOf a ≤ 0x19)

/-! ### Ramps (R85 to R94) -/

/-- A crosspoint at rest (R88). -/
def XRamp.rest : XRamp := ⟨false, 0, 0, 0, 0⟩
def State.xramp (s : State) (a : Nat) : XRamp := Tab.get XRamp.rest s.mix.xramps a

/-- The quarter sine sin(π n / 2 m) of the one table, in units of 2^-31 (R93): within 2^-28 of the exact value, where the
interpolation of its 1,025 points lies open (log entry 83). -/
def quarterSine (n m : Nat) : Int :=
  let x := fixSin (fixPi * (n : Int) / (2 * (m : Int)))
  let z := x / 2 ^ 129 - 8 + ((Config.sinePick n m % 17 : Nat) : Int)
  if z * 2 ^ 129 - x ≤ 2 ^ 132 ∧ x - z * 2 ^ 129 ≤ 2 ^ 132 ∧ 0 ≤ z ∧ z ≤ 2 ^ 31 then z else fixRound x 31

/-- The weight w(t) in units of 2^-31 (R92, R93): for equal power that of the one quarter sine, which falling ramps read from
its end; exactly 0 at the start and 1 at the end. Q1.31 takes the linear t / T rounded half to even: the manual does
not state that rounding (log entry 83). -/
def weight (shape : Nat) (rising : Bool) (t T : Nat) : Int :=
  if T ≤ t then 2 ^ 31
  else if t = 0 then 0
  else if shape = 0 then roundDiv ((t : Int) * 2 ^ 31) T
  else if rising then quarterSine t T else 2 ^ 31 - quarterSine (T - t) T

/-- g(t) of a ramp from g0 to g1 (R92). -/
def rampGain (g0 g1 : Int) (shape t T : Nat) : Int :=
  g0 + roundShift ((g1 - g0) * weight shape (decide (g0.natAbs < g1.natAbs)) t T) 31

/-- The gain of an earlier stretch on sample m. -/
def Seg.gain (e : Seg) (m : Nat) : Int := rampGain e.g0 e.g1 e.shape (m - e.start) e.len

/-- The gain that crosspoint `a` applies on sample m, in units of 2^-28 (R92 to R94). -/
def State.xpGainAt (s : State) (a m : Nat) : Int :=
  let r := s.xramp a
  let g0 := Tab.get 0 s.mix.inEffect a
  if m < r.start then
    match (Tab.get [] s.mix.before a).find? (fun e => e.start ≤ m) with
    | some e => e.gain m
    | none => g0
  else if r.moving then rampGain g0 (Tab.get 0 s.mix.incoming a) r.shape (m - r.start) r.len else g0

/-- The present stretch of crosspoint `a` becomes an earlier one. -/
def State.keepSeg (s : State) (a : Nat) : State :=
  let r := s.xramp a
  let g0 := Tab.get 0 s.mix.inEffect a
  let e : Seg := if r.moving then ⟨r.start, r.len, r.shape, g0, Tab.get 0 s.mix.incoming a⟩ else ⟨r.start, 0, 0, g0, g0⟩
  { s with mix := { s.mix with before := Tab.put [] s.mix.before a (e :: Tab.get [] s.mix.before a) } }

/-- The rounds that a descriptor occupies (R89). -/
def Resv.rounds (r : Resv) (b : Nat) : Nat × Nat := (r.start / b, (r.start + r.len - 1) / b)

/-- Descriptors occupied in round k. -/
def occupiedIn (l : List Resv) (b k : Nat) : Nat :=
  (l.filter (fun r => decide ((r.rounds b).1 ≤ k) && decide (k ≤ (r.rounds b).2))).length

/-- A ramped change asks for a descriptor (R89, R90): it shares one with the same start, length and shape; a new one
is refused if any round it would occupy has 64 already. -/
def reserveRamp (l : List Resv) (b start len shape change : Nat) : Option (List Resv) :=
  if len = 0 then some l
  else if l.any (fun r => decide (r.start = start ∧ r.len = len ∧ r.shape = shape)) then
    some (l.map (fun r => if r.start = start ∧ r.len = len ∧ r.shape = shape then
      { r with changes := if change ∈ r.changes then r.changes else r.changes ++ [change] } else r))
  else
    let lo := start / b
    let hi := (start + len - 1) / b
    if (List.range (hi + 1 - lo)).any (fun i => decide (64 ≤ occupiedIn l b (lo + i))) then none
    else some (l ++ [⟨start, len, shape, [change], none, 0, false⟩])

/-- A withdrawn change gives up its reservations that no other change shares. -/
def withdrawRamps (l : List Resv) (change : Nat) : List Resv :=
  (l.map (fun r => { r with changes := r.changes.filter (· ≠ change) })).filter
    (fun r => r.changes ≠ [] || r.begun)

/-- One member more, or less, of the descriptor of a ramp. -/
def memberOf (l : List Resv) (start len shape : Nat) (up : Bool) : List Resv :=
  l.map (fun r => if r.start = start ∧ r.len = len ∧ r.shape = shape then
    { r with members := if up then r.members + 1 else r.members - 1, begun := true } else r)

/-- A crosspoint leaves its descriptor. -/
def State.leaveRamp (s : State) (a : Nat) : State :=
  let r := s.xramp a
  if !r.moving then s
  else { s with mix := { s.mix with
    resv := memberOf s.mix.resv r.start r.len r.shape false
    xramps := Tab.put XRamp.rest s.mix.xramps a XRamp.rest } }

/-- What the incoming bank holds for a crosspoint that rests at gain g: the first value that is pre-staged for it, else the
gain itself (R95). -/
def Mix.nextValue (m : Mix) (a : Nat) (g : Int) : Int := ((Tab.get [] m.staged a).map (·.2)).headD g

/-- The incoming value of a crosspoint that rests falls out of use: the next one that waits in DRAM moves in (R95). -/
def State.restage (s : State) (a : Nat) : State :=
  if (s.xramp a).moving then s
  else { s with mix := { s.mix with
    incoming := Tab.put 0 s.mix.incoming a (s.mix.nextValue a (Tab.get 0 s.mix.inEffect a)) } }

/-- The Dispatcher pre-stages value g of a change for crosspoint `a` (R95). -/
def State.stageXp (s : State) (id a : Nat) (g : Int) : State :=
  ({ s with mix := { s.mix with
    staged := Tab.put [] s.mix.staged a ((Tab.get [] s.mix.staged a).filter (fun e => e.1 ≠ id) ++ [(id, g)]) } } : State).restage a

/-- The staged values of a change are discarded, or taken into use (R149). -/
def State.unstage (s : State) (id : Nat) : State :=
  let keys := (s.mix.staged.filter (fun e => e.2.any (fun x => x.1 == id))).map (·.1)
  keys.foldl (fun (k : State) a =>
    ({ k with mix := { k.mix with
      staged := Tab.put [] k.mix.staged a ((Tab.get [] k.mix.staged a).filter (fun e => e.1 ≠ id)) } } : State).restage a) s

/-- A crosspoint rests at gain g from sample n on. -/
def State.restXp (s : State) (a : Nat) (g : Int) (n : Nat) : State :=
  let s1 := (s.keepSeg a).leaveRamp a
  { s1 with mix := { s1.mix with
    inEffect := Tab.put 0 s1.mix.inEffect a g
    incoming := Tab.put 0 s1.mix.incoming a (s1.mix.nextValue a g)
    xramps := Tab.put XRamp.rest s1.mix.xramps a ⟨false, 0, n, 0, 0⟩ } }

/-- A change of a crosspoint takes effect on sample n: it starts or retargets its ramp, or steps where the length is 0
(R85, R92, R94). The dictionary holds the target from then on (R86). -/
def State.startXp (s : State) (a : Nat) (g : Int) (n len shape : Nat) : State :=
  let g0 := s.xpGainAt a n
  let s1 := (s.restXp a (if len = 0 then g else g0) n).setI a g
  if len = 0 then s1
  else
    let num := ((s1.mix.resv.find? (fun r => r.start = n ∧ r.len = len ∧ r.shape = shape)).bind (·.num)).getD 0
    { s1 with mix := { s1.mix with
      incoming := Tab.put 0 s1.mix.incoming a g
      xramps := Tab.put XRamp.rest s1.mix.xramps a ⟨true, num, n, len, shape⟩
      resv := memberOf s1.mix.resv n len shape true } }

/-- A ramp ends on sample n + T: the target is copied into the in-effect bank and `moving` is cleared (R93). -/
def State.endXp (s : State) (a : Nat) : State :=
  let r := s.xramp a
  s.restXp a (Tab.get 0 s.mix.incoming a) (r.start + r.len)

/-- Stretches that lie wholly before the round that begins are forgotten. -/
def State.trimXps (s : State) : State :=
  { s with mix := { s.mix with before := [], xramps := s.mix.xramps.filter (fun e => e.2.moving) } }

/-- Every ramp in progress ends at its target (R601, R603). -/
def State.endAllXp (s : State) : State :=
  let s1 := ((s.mix.xramps.filter (fun e => e.2.moving)).map (·.1)).foldl (fun k a => k.endXp a) s
  { s1 with mix := { s1.mix with resv := [] } }

/-! ### Descriptor numbers (R91, R602) -/

/-- The lowest number below 64 that is not taken. -/
def lowestFree (taken : List Nat) : Nat := ((List.range 64).find? (fun i => !taken.contains i)).getD 0

/-- Insert by start sample; equal starts keep the order of acceptance. -/
def insByStart (r : Resv) : List Resv → List Resv
  | [] => [r]
  | x :: l => if r.start < x.start then r :: x :: l else x :: insByStart r l

/-- Numbers for the reservations whose first round begins at the boundary into round k. -/
def numberResv (l : List Resv) (b k : Nat) : List Resv :=
  let due := (l.filter (fun r => r.num.isNone && decide ((r.rounds b).1 ≤ k))).foldl (fun acc r => insByStart r acc) []
  let rest := l.filter (fun r => !(r.num.isNone && decide ((r.rounds b).1 ≤ k)))
  due.foldl (fun acc r => acc ++ [{ r with num := some (lowestFree (acc.filterMap (·.num))) }]) rest

/-- Descriptors that hold a number (R602). -/
def State.descsInUse (s : State) : Nat := (s.mix.resv.filter (·.num.isSome)).length

/-- The objects of descriptor i (R116, R602), as they read on sample `now`. -/
def State.descVal (s : State) (now i e : Nat) : Val :=
  match s.mix.resv.find? (fun r => r.num = some i) with
  | none => .int 0
  | some r =>
    if e = 0 then .int (if now < r.start then 1 else 2)
    else if e = 1 then .int r.start
    else if e = 2 then .int r.len
    else if e = 3 then .int r.shape
    else .int r.members

/-- At the boundary into round k: descriptors that R91 frees are released, those left by their last crosspoint and those
whose ramp ends by the first sample of round k; then reservations are numbered (R602). -/
def State.descBoundary (s : State) (k : Nat) : State :=
  let b := s.roundB
  let live := s.mix.resv.filter (fun r => !((r.begun && decide (r.members = 0)) || decide (r.start + r.len ≤ k * b)))
  let s1 : State := { s with mix := { s.mix with resv := numberResv live b k } }
  s1.raise El.rdInUseMax s1.descsInUse

/-! ### Feedback (R103, R104) -/

/-- Whether crosspoint (p, d) is a feedback crosspoint. -/
def State.isFeedback (s : State) (p d : Nat) : Bool :=
  decide (s.nat (El.dstPass d) = 1) && decide (s.phaseOf (s.nat (El.srcSignal p)) = 3)

/-- Crosspoints with a gain other than 0 or a ramp in progress on sample n: a ramp whose length is over has ended at its
target (R93), and a change due by then has taken effect. -/
def State.liveXps (s : State) (n : Nat) : List Nat :=
  let due := (s.disp.changes.filter (fun c => c.committed && decide (c.eff ≤ n))).flatMap (fun c => c.writes.filter (fun w => isXp w.addr))
  let live (a : Nat) : Bool := match (due.filter (fun w => w.addr == a)).getLast? with
    | some w => w.len != 0 || w.val.toInt != 0
    | none =>
      let r := s.xramp a
      if r.moving ∧ n < r.start + r.len then true
      else if r.moving then Tab.get 0 s.mix.incoming a != 0
      else Tab.get 0 s.mix.inEffect a != 0
  ((s.mix.inEffect.map (·.1) ++ s.mix.xramps.map (·.1) ++ due.map (·.addr)).eraseDups).filter live

/-- The feedback counts at the round boundary on sample n (R104). -/
def State.feedbackBoundary (s : State) (n : Nat) : State :=
  let live := (s.liveXps n).filter (fun a => s.isFeedback (xpSource a) (xpDest a))
  let s1 := (List.range s.variant.sources).foldl (fun (k : State) p =>
    k.setN (El.srcFb p) (live.filter (fun a => xpSource a = p)).length) s
  (List.range s.variant.dests).foldl (fun (k : State) d =>
    k.setN (El.dstFb d) (live.filter (fun a => xpDest a = d)).length) s1

/-! ### Meters (R107 to R109) -/

/-- A meter that has seen nothing. -/
def Meter.fresh : Meter := ⟨0, 0, 0, [], 0, none, none, []⟩
def State.meter (s : State) (p : Nat) : Meter := Tab.get Meter.fresh s.mix.meters p
def State.setMeter (s : State) (p : Nat) (m : Meter) : State :=
  { s with mix := { s.mix with meters := Tab.put Meter.fresh s.mix.meters p m } }

/-- The energy in the working form of a magnitude in units of 2^-31. -/
def energyOf (mag : Nat) : Int := ((mag * mag * 2 ^ 98 : Nat) : Int)
/-- A level reading of a magnitude in units of 2^-31: 1.0 is 0 dBFS, and exact zero −∞ (R8, R108). -/
def reading (mag : Nat) : Int := levelOf (energyOf mag)
/-- An RMS reading, from a sum of squares in units of 2^-62 over n samples: a full-scale sine reads 0.00 dBFS (R108). -/
def rmsReading (sum n : Nat) : Int := levelOf ((sum * 2 ^ 98 / n : Nat) * tenTo 3010 / fixOne)

/-- The number of samples of a time in ms, rounded to whole samples. -/
def msSamples (ms fs : Nat) : Nat := (ms * fs + 500) / 1000

/-- A list of squares, newest first, without the zeros at its old end. -/
def trimZeros (l : List Nat) : List Nat := (l.reverse.dropWhile (· = 0)).reverse

/-- The largest true peak over samples that follow those of `tail`, newest first (R108). -/
def truePeak : List Int → List Int → Nat
  | _, [] => 0
  | tail, x :: l =>
    let w := (x :: tail).take 12
    max (if w.all (· = 0) then 0 else Config.oversample w) (truePeak (w.take 11) l)

/-- The index of the last sample of largest magnitude. -/
def peakAt (x : List Int) : Nat := x.length - 1 - ((x.reverse.findIdx? (fun v => v.natAbs == peakOf x)).getD 0)

/-- The window of a meter restarts where a change of `m_rms_window` has asked for it by sample n (R109). -/
def Meter.restarted (m : Meter) (n count : Nat) : Meter := match m.restartAt with
  | none => m
  | some r => if r ≤ n then { m with squares := [], from_ := count, window := none, restartAt := none } else m

/-- The samples of the round that begins on sample n pass meter point p (R108, R109): sample peak, true peak, RMS over its
window, peak hold, clips and gain reduction are shown, since the round is over. `clipped` counts the samples of R108's
clip count in the round, and `gain` is the lowest limiter gain applied. -/
def State.runMeter (s : State) (p n : Nat) (x : List Int) (clipped gain : Nat) : State :=
  let m := (s.meter p).restarted n s.mix.count
  let pk := peakOf x
  let seen := s.mix.count + x.length
  let win := msSamples (m.window.getD (s.nat (El.mRmsWindow p))) s.fs
  let sq := ((x.map (fun v => v.natAbs * v.natAbs)).reverse ++ m.squares).take win
  let holdMs := s.nat (El.mHoldTime p)
  let at_ := s.mix.count + peakAt x
  let isNew : Bool := decide (m.hold ≤ pk)
  let expired : Bool := decide (holdMs ≠ 0xFFFF) && decide (m.holdAt + msSamples holdMs s.fs ≤ seen)
  let tp := truePeak m.tail x
  let q : Meter := { m with
    tpeak := tp
    hold := if isNew || expired then pk else m.hold
    holdAt := if (isNew || expired) && pk != 0 then at_ else if pk = 0 ∧ (isNew || expired) then 0 else m.holdAt
    squares := trimZeros sq
    tail := (trimZeros ((x.reverse ++ m.tail).take 11 |>.map Int.natAbs)).zipIdx.map (fun e => (x.reverse ++ m.tail).getD e.2 0) }
  let s1 := s.setMeter p q
  ((((((s1.setI (El.mPeak p) (reading pk)).setI (El.mTpeak p) (reading tp)).setI (El.mRms p)
    (rmsReading sq.sum (max 1 (min win (seen - m.from_))))).setI (El.mHold p) (reading q.hold)).bump (El.mClips p) clipped 32).setI
      (El.mGr p) (if gain = 2 ^ 31 then 0 else -(reading gain)))

/-- Samples of a source that stand at full scale (R108). -/
def fullScale (x : List Int) : Nat := (x.filter (fun v => v = -2147483648 || v = 2147483647)).length

/-- `m_clear`: peak hold and clip count are reset (R109). -/
def State.clearMeter (s : State) (p : Nat) : State :=
  ((s.setMeter p { s.meter p with hold := 0, holdAt := 0 }).setI (El.mHold p) minusInf).setN (El.mClips p) 0

/-- A write to `m_rms_window` with effective sample n: the window restarts at the next round boundary (R109). -/
def State.restartMeter (s : State) (p n : Nat) : State :=
  let m := s.meter p
  s.setMeter p { m with
    window := some (m.window.getD (s.nat (El.mRmsWindow p)))
    restartAt := some (if s.roundsRun then s.roundUp n else 0) }

/-! ### Adding a source (R92, R96, R97, R103) -/

/-- Whether a destination belongs to a pass. -/
def State.inPass (s : State) (passB : Bool) (d : Nat) : Bool := decide (s.nat (El.dstPass d) = if passB then 2 else 1)

/-- The exact contribution of samples through crosspoint `a` from sample n on, in units of 2^-61. -/
def State.contribution (s : State) (a n : Nat) (x : List Int) : List Int :=
  x.zipIdx.map (fun e => e.1 * s.xpGainAt a (n + e.2) * 4)

/-- Sum two lists of samples, the longer one's tail kept. -/
def addLists : List Int → List Int → List Int
  | [], l => l
  | l, [] => l
  | x :: a, y :: b => (x + y) :: addLists a b

/-- The samples that source p brings into destination d: feedback crosspoints take the round before (R103). -/
def State.sourceFor (s : State) (p d : Nat) : List Int :=
  let a := s.nat (El.srcSignal p)
  if s.isFeedback p d then s.signalBefore a else s.signal a

/-- The accumulator of destination d. -/
def State.accOf (s : State) (d : Nat) : List Int := Tab.get s.zeros s.mix.acc d

/-- Add source p into destination d. -/
def State.addOne (s : State) (n p : Nat) (d : Nat) : State :=
  let x := s.contribution (El.xpGain p d) n (s.sourceFor p d)
  { s with mix := { s.mix with acc := Tab.put [] s.mix.acc d (addLists (s.accOf d) x) } }

/-- Whether source p is available for a pass now (R74, R97, R103). -/
def State.sourceReady (s : State) (passB : Bool) (p : Nat) : Bool :=
  let ph := s.phaseOf (s.nat (El.srcSignal p))
  s.openRound &&
    (decide (ph ≤ s.rounds.phase) || (!passB && decide (ph = 3)))

/-- SOURCE_ADD: source p's contribution enters every destination of the pass, once per round. A source that is not available
yet, or was added already, changes nothing; while a change of the round is still to take effect nothing is added. -/
def State.addSource (s : State) (passB : Bool) (p : Nat) : State :=
  let done := if passB then s.mix.addedB else s.mix.addedA
  if s.cap s.variant.sources ≤ p ∨ p ∈ done ∨ s.sourceReady passB p = false then s
  else
    let n := s.lineSample (s.rounds.current.getD 0)
    let s1 := ((List.range (s.cap s.variant.dests)).filter (s.inPass passB)).foldl (fun k d => k.addOne n p d) s
    if passB then { s1 with mix := { s1.mix with addedB := p :: s1.mix.addedB } }
    else { s1 with mix := { s1.mix with addedA := p :: s1.mix.addedA } }

/-! ### Destination processing (R99 to R102) -/

/-- A limiter at rest: gain 1, and zeros in its look-ahead. -/
def Lim.fresh : Lim := ⟨2 ^ 31, []⟩

/-- The ceiling magnitude in units of 2^-31 (R100). -/
def ceiling (v : Int) : Nat := min (fixFloor (pow10 v) 31).toNat 2147483647

/-- Step 1 of R99: a sum in units of 2^-61 divided by 2^sh, exactly, in units of 2^-73. -/
def shifted (sh : Nat) (x : Int) : Int := x * 2 ^ (12 - sh)

/-- The required gain of a shifted sum against ceiling c, in units of 2^-31 (R100). -/
def required (c : Nat) (x : Int) : Nat :=
  if x.natAbs ≤ c * 2 ^ 42 then 2 ^ 31 else c * 2 ^ 73 / x.natAbs

/-- Rounding up to a multiple of 2^-31 of a number over 2^62. -/
def roundUp31 (x : Nat) : Nat := ceilDiv x (2 ^ 31)

/-- exp(−1 / (τ Fs)) rounded half to even to 31 bits, τ in ms (R100). -/
def releaseCoef (ms fs : Nat) : Nat := (fixRound (fixExp (-(fixOne * 1000 / ((ms * fs : Nat) : Int)))) 31).toNat

/-- f(t) with a look-ahead of n samples, from the required gains of samples t to t + n (R100). -/
def lookGainOver (n : Nat) (rs : List Nat) : Nat :=
  rs.zipIdx.foldl (fun m e => min m (2 ^ 31 - ceilDiv ((2 ^ 31 - e.1) * (n - e.2)) n)) (2 ^ 31)
/-- f(t) with the look-ahead of 16 that R100 gives the final limiter. -/
def lookGain (rs : List Nat) : Nat := lookGainOver 16 rs

/-- The settings of a destination's limiter: look-ahead, enable, ceiling, shift and release coefficient. -/
structure LimSet where
  look : Nat
  enable : Bool
  ceil : Nat
  shift : Nat
  coef : Nat
deriving DecidableEq, Repr

def State.limSet (s : State) (d : Nat) : LimSet where
  look := s.nat (El.limLookahead d)
  enable := s.on (El.limEnable d)
  ceil := ceiling (s.int (El.limCeiling d))
  shift := s.nat (El.dstShift d)
  coef := releaseCoef (s.nat (El.limRelease d)) s.fs

/-- One sample through a destination: the sum `x` in units of 2^-61 enters, and the output leaves with the gain applied
(R99, R100). The division by `dst_shift` comes first; the line holds the last 16 shifted sums, newest first, where the
look-ahead is 16. -/
def limStep (q : LimSet) (m : Lim) (x : Int) : Lim × Int × Nat :=
  let line := (shifted q.shift x :: m.line).take 17
  let cur := if q.look = 0 then shifted q.shift x else line.getD 16 0
  let f := if q.look = 0 then required q.ceil cur
    else lookGain ((List.range 17).map (fun i => required q.ceil (line.getD (16 - i) 0)))
  let h := 2 ^ 31 - roundUp31 ((2 ^ 31 - m.gain) * q.coef)
  let g := min h f
  let y := if q.enable then roundShift (cur * g) 73 else roundShift cur 42
  (⟨g, if q.look = 0 then [] else line.take 16⟩, y, if q.enable then g else 2 ^ 31)

/-- The samples of a round through a destination: the limiter after them, the outputs before saturation, and the lowest
gain applied. -/
def limRun (q : LimSet) : Lim → List Int → Lim × List Int × Nat
  | m, [] => (m, [], 2 ^ 31)
  | m, x :: l =>
    let r := limStep q m x
    let t := limRun q r.1 l
    (t.1, r.2.1 :: t.2.1, min r.2.2 t.2.2)

/-- Destination d is processed for the round (R99): its output, its limiter, and what its meter point counts. -/
def State.processDest (s : State) (d : Nat) : State :=
  let r := limRun (s.limSet d) (Tab.get Lim.fresh s.mix.lims d) (s.accOf d)
  let y := r.2.1.map satQ31
  let clipped := (r.2.1.filter (fun v => satQ31 v ≠ v)).length
  { s with mix := { s.mix with
    out := Tab.put [] s.mix.out d y
    lims := Tab.put Lim.fresh s.mix.lims d r.1
    clipped := Tab.put 0 s.mix.clipped d clipped
    reduced := Tab.put (2 ^ 31) s.mix.reduced d r.2.2 } }

/-- The output of a destination in the round. -/
def State.destOut (s : State) (d : Nat) : List Int := Tab.get s.zeros s.mix.out d

/-- Whether every source that a pass reads has been added (R97); a source that holds silence adds exact zero. -/
def State.allAdded (s : State) (passB : Bool) : Bool :=
  (List.range (s.cap s.variant.sources)).all (fun p =>
    decide (s.nat (El.srcSignal p) = silence) || (if passB then s.mix.addedB else s.mix.addedA).contains p)

/-- The destinations of a pass are processed. -/
def State.runPass (s : State) (passB : Bool) : State :=
  ((List.range (s.cap s.variant.dests)).filter (s.inPass passB)).foldl (fun k d => k.processDest d) s

/-! ### Loudness (R110, R111) -/

/-- A loudness meter that is reset. -/
def Loud.fresh : Loud := ⟨0, 0, [], [], [], []⟩
def State.loud (s : State) (l : Nat) : Loud := Tab.get Loud.fresh s.mix.louds l
def State.setLoud (s : State) (l : Nat) (x : Loud) : State :=
  { s with mix := { s.mix with louds := Tab.put Loud.fresh s.mix.louds l x } }

/-- The samples of a meter point in the round (R107). -/
def State.pointSamples (s : State) (p : Nat) : List Int :=
  if p < 2048 then s.signal (s.nat (El.srcSignal p)) else s.destOut (p - 2048)

/-- The entries that a loudness meter takes in: entry, meter point, and weight in hundredths (R110, R120). -/
def State.loudPoints (s : State) (l : Nat) : List (Nat × Nat × Nat) :=
  (List.range 8).filterMap (fun e =>
    if s.nat (El.ldPoint l e) = 0xFFFF ∨ s.nat (El.ldWeight l e) = 0 then none
    else some (e, s.nat (El.ldPoint l e), if s.nat (El.ldWeight l e) = 2 then 141 else 100))

/-- Samples through the K-weighting filter of an entry: the outputs, and its state after them. -/
def kRun (fs : Nat) : List Int → List Int → List Int × List Int
  | st, [] => ([], st)
  | st, x :: l =>
    let r := kRun fs (Config.kNext fs st x) l
    (Config.kOut fs st x :: r.1, r.2)

/-- Sum of two lists of numbers, sample by sample. -/
def sumLists (a b : List Nat) : List Nat := (a.zip b).map (fun e => e.1 + e.2)

/-- The mean energy of the newest n samples in the working form: what the list lacks is silence. Energies are in units of
2^-62, times 100. -/
def meanEnergy (l : List Nat) (n : Nat) : Int := (((l.take n).sum * 2 ^ 98 / (100 * n) : Nat) : Int)

/-- A loudness of a mean energy: −0.691 + 10 log₁₀, in LUFS (R110, BS.1770-4). -/
def loudness (e : Int) : Int := levelOf (e * tenTo (-691) / fixOne)

/-- The mean of energies. -/
def meanOf (l : List Nat) : Nat := if l = [] then 0 else l.sum / l.length

/-- The energies that lie above −70 LUFS, and n times below the mean of those (R110). -/
def gatedBlocks (l : List Nat) (n : Nat) : List Nat :=
  let loud : List Nat := l.filter (fun (e : Nat) => decide (tenTo (-69309) < (e : Int)))
  loud.filter (fun (e : Nat) => decide (meanOf loud < n * e))

/-- Energies in rising order. -/
def insNat (x : Nat) : List Nat → List Nat
  | [] => [x]
  | y :: l => if x ≤ y then x :: y :: l else y :: insNat x l
def sortNat (l : List Nat) : List Nat := l.foldr insNat []

/-- The loudness range: from the 10th to the 95th percentile of the gated short-term loudness (R110, EBU Tech 3342). -/
def loudRange (l : List Nat) : Int :=
  let g := sortNat (gatedBlocks l 100)
  let at_ (pc : Nat) : Int := (g.getD (((g.length - 1) * pc + 50) / 100) 0 : Nat)
  if g = [] then 0 else levelOf (at_ 95 * fixOne / max 1 (at_ 10))

/-- The windows that end within a round of `b` samples, one each 100 ms: the energies of the newest `len` samples as they
stood then. -/
def windowEnds (l : List Nat) (before b hop len : Nat) : List Nat :=
  (List.range b).filterMap (fun i =>
    let t := before + i + 1
    if t % hop = 0 ∧ len ≤ t then some (meanEnergy (l.drop (b - 1 - i)) len).toNat else none)

/-- A running loudness meter takes in a round (R110, R120): the K-weighted energies of its channels, momentary loudness over
400 ms, short-term over 3 s, integrated loudness gated in 400 ms blocks with 75 % overlap, the range, the largest true
peak since reset, and the running time. The formulas, gates and blocks are those of the recommendations that the
manual names (log entry 84). -/
def State.runLoud (s : State) (l : Nat) : State :=
  if s.nat (El.ldRun l) ≠ 1 then s
  else
    let x := s.loud l
    let b := s.roundB
    let pts := s.loudPoints l
    let runs := pts.map (fun p => (p.1, p.2.2, kRun s.fs (Tab.get [] x.filt p.1) (s.pointSamples p.2.1)))
    let now := (runs.map (fun r => r.2.2.1.map (fun y => r.2.1 * (y.natAbs * y.natAbs)))).foldl sumLists (List.replicate b 0)
    let en := (now.reverse ++ x.energy).take (3 * s.fs + b)
    let hop := s.fs / 10
    let y : Loud :=
      { samples := x.samples + b
        tpMax := pts.foldl (fun m p => max m (s.meter p.2.1).tpeak) x.tpMax
        filt := runs.foldl (fun t r => Tab.put [] t r.1 r.2.2.2) x.filt
        energy := en
        blocks := x.blocks ++ windowEnds en x.samples b hop (4 * hop)
        shorts := x.shorts ++ windowEnds en x.samples b hop (30 * hop) }
    let s1 := ((s.setLoud l y).setI (El.ldTpMax l) (reading y.tpMax)).setN (El.ldTime l) (min (y.samples * 1000 / s.fs) (2 ^ 32 - 1))
    let s2 := (s1.setI (El.ldMomentary l) (loudness (meanEnergy en (4 * hop)))).setI (El.ldShort l) (loudness (meanEnergy en (30 * hop)))
    (s2.setI (El.ldIntegrated l) (loudness (meanOf (gatedBlocks y.blocks 10)))).setI (El.ldRange l) (loudRange y.shorts)

/-- The meters take in the round that is complete (R107 to R110): source points, destination points, then loudness. A point
that rests and sees silence stays as it is. -/
def State.runMeters (s : State) (n : Nat) : State :=
  let seen (k : State) (p : Nat) (x : List Int) : Bool := !(decide (k.meter p = Meter.fresh) && x.all (· == 0))
  let src := (s.regs.filter (fun e => areaOf e.1 = 0x1A ∧ objectOf e.1 < 0x800 ∧ elementOf e.1 = 0)).map (fun e => objectOf e.1)
  let dst : List Nat := s.mix.out.map (fun (e : Nat × List Int) => 2048 + e.1)
  let old : List Nat := s.mix.meters.map (fun (e : Nat × Meter) => e.1)
  let pts := (src ++ dst ++ old).eraseDups
  let s1 := pts.foldl (fun (k : State) p =>
    let x := s.pointSamples p
    if seen k p x = false then k
    else if p < 2048 then k.runMeter p n x (fullScale x) (2 ^ 31)
    else k.runMeter p n x (Tab.get 0 s.mix.clipped (p - 2048)) (Tab.get (2 ^ 31) s.mix.reduced (p - 2048))) s
  let s2 := (List.range 64).foldl (fun (k : State) l => k.runLoud l) s1
  { s2 with mix := { s2.mix with count := s2.mix.count + s.roundB } }

/-- A reset clears the readings (R111). -/
def State.resetLoud (s : State) (l : Nat) : State :=
  ((((((s.setLoud l Loud.fresh).setI (El.ldMomentary l) minusInf).setI (El.ldShort l) minusInf).setI (El.ldIntegrated l)
    minusInf).setN (El.ldRange l) 0).setI (El.ldTpMax l) minusInf).setN (El.ldTime l) 0

/-! ### Consumers (R77, R78) -/

def tgtKind (v : Nat) : Nat := v / 2 ^ 28 % 16
def tgtIndex (v : Nat) : Nat := v % 2 ^ 28

/-- The pass that a consumer kind requires; 0: either. -/
def tgtPass : Nat → Nat
  | 0 => 0 | 1 => 1 | 2 => 1 | _ => 2

/-- Whether an image in effect names a job input number. -/
def State.jobInput (s : State) (i : Nat) : Bool :=
  s.allJobs.any (fun e => e.2.2.2.ins.any (fun x => x.sig.isNone && decide (x.num = i)))

/-- A consumer as the value of `dst_target` (R3, R77, R78, R598): its encoding, its presence, whether it is in
service. Job input numbers run to 65,534 (R231). -/
def State.tgtStatus (s : State) (v : Nat) : Status :=
  let i := tgtIndex v
  match tgtKind v with
  | 0 => if 0 < i then .outOfRange else .ok
  | 1 => s.unitStatus i s.variant.buses
  | 2 => if 65534 < i then .notPresent else .ok
  | 3 => if s.variant.serialPorts * 32 ≤ i then .notPresent else .ok
  | 4 => if 2048 ≤ i then .notPresent else .ok
  | 5 => if !linkPresent s.variant (i / 4096) then .notPresent else if s.cap 4096 ≤ i % 4096 then .wrongState else .ok
  | 6 => if s.variant.pscChannels ≤ i then .notPresent else .ok
  | _ => .outOfRange

/-- The destination that a consumer is bound to. -/
def State.boundTo (s : State) (v : Nat) : Option Nat :=
  (List.range s.variant.dests).find? (fun d => s.nat (El.dstTarget d) = v)

/-- The output samples that a consumer reads in the round: exact zero where it is bound to none (R81). -/
def State.consumer (s : State) (kind i : Nat) : List Int :=
  match s.boundTo (kind * 2 ^ 28 + i) with
  | none => s.zeros
  | some d => s.destOut d

/-- The samples of the round before that a consumer of pass A reads across a feedback path (R16). -/
def State.consumerBefore (s : State) (kind i : Nat) : List Int :=
  match s.boundTo (kind * 2 ^ 28 + i) with
  | none => s.zeros
  | some d => Tab.get s.zeros s.mix.outPrev d

/-- The key of an output in the playout tables: its consumer code. -/
def outKey : Output → Nat
  | .serial i => 3 * 2 ^ 28 + i
  | .net i => 4 * 2 ^ 28 + i
  | .coach i => 5 * 2 ^ 28 + i
  | .psc i => 6 * 2 ^ 28 + i

end Sys2Proof.Machine
end

