-- ==== Sys2Proof/Machine/Strips.lean ====
section
/-! DEFINITION. Strips: gain ramps, stage morphs, the order of the stages, taps, inserts and the backup input (R123 to
R138, R604). -/

namespace Sys2Proof.Machine

/-! ### Strips and their programs -/

/-- The key of a strip in the table of running states. -/
def stripKey (bus : Bool) (n : Nat) : Nat := if bus then 2048 + n else n

/-- A strip whose job has not run. -/
def StripRun.fresh : StripRun := ⟨[], [], [], [], false, false, none, [], [], false, false, false⟩
def State.strip (s : State) (bus : Bool) (n : Nat) : StripRun := Tab.get StripRun.fresh s.strips (stripKey bus n)
def State.setStrip (s : State) (bus : Bool) (n : Nat) (x : StripRun) : State :=
  { s with strips := Tab.put StripRun.fresh s.strips (stripKey bus n) x }

/-- The number of strips of an area that the variant has. -/
def stripCount (v : Variant) (bus : Bool) : Nat := if bus then v.buses else v.strips

/-- Whether a program runs a pair (R123). -/
def isPair (p : Nat) : Bool := p == 0x0102 || p == 0x0103 || p == 0x0202

/-- Running cycles at B = 16 and morph budget of a standard program (R123). -/
def libCosts : Nat → Nat × Nat
  | 0x0101 => (1688, 1616)
  | 0x0102 => (3376, 3232)
  | 0x0103 => (1720, 1616)
  | 0x0201 => (1368, 1280)
  | _ => (2736, 2560)

/-- Whether strip n is the follower of a pair (R124). -/
def State.follower (s : State) (bus : Bool) (n : Nat) : Bool :=
  decide (n % 2 = 1) && isPair (s.nat (El.stProgram bus (n - 1)))

/-- Elements that the follower of a pair keeps (R124). -/
def followerKeeps (program e : Nat) : Bool :=
  if program = 0x0103 then [0x00, 0xF8, 0xF9, 0xFF].contains e
  else [0x00, 0x02, 0x03, 0x04, 0x05, 0xF8, 0xF9, 0xFF].contains e

/-- Elements of the ramped path (R133). -/
def isRamped (e : Nat) : Bool := [0x04, 0x40, 0x41, 0x42, 0x43, 0x50, 0x53, 0x54].contains e

/-- The morphed stage of an element (R133): 0 delay, 1 filters, 2 EQ, 3 gate, 4 compressor. -/
def stageOf (e : Nat) : Option Nat :=
  if e = 0x06 then some 0
  else if 0x07 ≤ e ∧ e ≤ 0x0A then some 1
  else if 0x10 ≤ e ∧ e ≤ 0x2F then some 2
  else if 0x30 ≤ e ∧ e ≤ 0x36 then some 3
  else if 0x38 ≤ e ∧ e ≤ 0x3E then some 4
  else none

/-- Elements of a stage. -/
def stageElems : Nat → List Nat
  | 0 => [0x06]
  | 1 => [0x07, 0x08, 0x09, 0x0A]
  | 2 => (List.range 32).map (0x10 + ·)
  | 3 => (List.range 7).map (0x30 + ·)
  | _ => (List.range 7).map (0x38 + ·)

/-- Elements of the direct path of a strip (R133). -/
def isStripDirect (e : Nat) : Bool := [0x01, 0x02, 0x03, 0x05, 0x37, 0x3F, 0x44, 0x45, 0x51, 0x52].contains e

/-- Whether an address is a strip's. -/
def isStrip (a : Nat) : Bool := areaOf a == 0x10 || areaOf a == 0x11
/-- Whether a strip address is a bus strip's. -/
def stripBus (a : Nat) : Bool := areaOf a == 0x11

/-! ### Linear gains (R134) -/

/-- 1 as a strip gain, in units of 2^-27. -/
def gainOne : Int := 2 ^ 27

/-- The linear gain of a DB16 value. -/
def dbGain (v : Int) : Int := if v = minusInf then 0 else fixRound (pow10 v) 27

/-- √2 in the working form. -/
def fixSqrt2 : Int := (Nat.sqrt (2 ^ 321) : Int)

/-- cos θ and sin θ of a pan position (R126). -/
def panCos (v : Int) : Int := sinTurn ((v + 10000).toNat + 20000) 80000
def panSin (v : Int) : Int := sinTurn (v + 10000).toNat 80000

/-- Left and right gain of a pan position: the law of 0x0103, and the balance of a stereo pair (R126). -/
def panGain (program : Nat) (right : Bool) (v : Int) : Int :=
  let g := if right then panSin v else panCos v
  if program = 0x0103 then fixRound g 27 else fixRound (min fixOne (fixSqrt2 * g / fixOne)) 27

/-- The gains that an element of the ramped path governs: two for `pan`, one for any other. -/
def gainKeys (e : Nat) : List Nat := if e = 0x42 then [0x42, 0x142] else [e]

/-- The target of a gain for a value of its element (R134). -/
def gainTarget (program key : Nat) (v : Val) : Int :=
  if key = 0x41 then (if v.toNat = 0 then gainOne else 0)
  else if key = 0x42 then panGain program false v.toInt
  else if key = 0x142 then panGain program true v.toInt
  else if key = 0x43 then roundDiv (v.toInt * gainOne) 100
  else if key = 0x50 then (if v.toNat = 0 then 0 else gainOne)
  else dbGain v.toInt

/-- The gain of a ramp on sample m. -/
def SRamp.gain (r : SRamp) (m : Nat) : Int := rampGain r.g0 r.g1 r.shape (m - r.start) r.len

/-- The gain of a key at rest: that of the value the dictionary holds. -/
def State.restGain (s : State) (bus : Bool) (n key : Nat) : Int :=
  gainTarget (s.nat (El.stProgram bus n)) key (s.val (addrOf (stripArea bus) n (key % 256)))

/-- The gain in effect on sample m (R134). -/
def State.stripGain (s : State) (bus : Bool) (n key m : Nat) : Int :=
  match Tab.get [] (s.strip bus n).ramps key with
  | [] => s.restGain bus n key
  | l => match l.find? (fun r => r.start ≤ m) with
    | some r => r.gain m
    | none => (l.getLastD ⟨0, 0, 0, 0, 0, false⟩).g0

/-- A change of one gain takes effect on sample n: from the gain there it moves to the target (R134). -/
def State.startGain (s : State) (bus : Bool) (n key m len shape : Nat) (target : Int) : State :=
  let x := s.strip bus n
  let r : SRamp := ⟨m, len, shape, s.stripGain bus n key m, target, decide (len ≠ 0)⟩
  let old : List SRamp := match Tab.get [] x.ramps key with
    | [] => [⟨0, 0, 0, r.g0, r.g0, false⟩]
    | l => l
  s.setStrip bus n { x with ramps := Tab.put [] x.ramps key (r :: old) }

/-- A change of a ramped element takes effect on sample m. -/
def State.startStripRamp (s : State) (bus : Bool) (n e : Nat) (v : Val) (m len shape : Nat) : State :=
  let p := s.nat (El.stProgram bus n)
  let s1 := (gainKeys e).foldl (fun k key => k.startGain bus n key m len shape (gainTarget p key v)) s
  s1.setV (addrOf (stripArea bus) n e) v

/-- A ramp ends: the gain rests at the target. -/
def SRamp.stop (r : SRamp) : SRamp := { r with moving := false }
def State.endStripRamp (s : State) (bus : Bool) (n e : Nat) : State :=
  let x := s.strip bus n
  s.setStrip bus n { x with ramps := (gainKeys e).foldl (fun t key =>
    match Tab.get [] t key with
    | [] => t
    | r :: l => Tab.put [] t key (r.stop :: l)) x.ramps }

/-! ### Morphs (R135, R136) -/

/-- The values of a stage's elements as the dictionary holds them. -/
def State.stageVals (s : State) (bus : Bool) (n st : Nat) : List (Nat × Val) :=
  (stageElems st).map (fun e => (e, s.val (addrOf (stripArea bus) n e)))

/-- The morphs of a stage, newest first. -/
def StripRun.morphsOf (x : StripRun) (st : Nat) : List Morph := Tab.get [] x.morphs st

/-- Whether the stage has a morph that starts on sample m. -/
def joinsMorph (x : StripRun) (st m : Nat) : Bool := (x.morphsOf st).any (fun q => decide (q.start = m))

/-- A change of a morphed element takes effect on sample m: it starts the stage's morph, or joins the one that starts
on the same sample. A length of 0 switches the stage on the sample (R135). -/
def State.startMorph (s : State) (bus : Bool) (n st e : Nat) (v : Val) (m len : Nat) : State :=
  let x := s.strip bus n
  let s1 : State := if joinsMorph x st m then s
    else s.setStrip bus n { x with morphs := Tab.put [] x.morphs st (⟨m, len, s.stageVals bus n st, false⟩ :: x.morphsOf st) }
  s1.setV (addrOf (stripArea bus) n e) v

/-- Whether a morph is over once the samples before `n` are computed. -/
def Morph.over (q : Morph) (n : Nat) : Bool := q.ended || decide (q.start + q.len ≤ n)

/-- The morphs of a stage that are over by sample `n` end. -/
def State.endMorph (s : State) (bus : Bool) (n st to_ : Nat) : State :=
  let x := s.strip bus n
  s.setStrip bus n { x with morphs := Tab.put [] x.morphs st ((x.morphsOf st).map (fun q => { q with ended := q.over to_ })) }

/-- At the start of the round that begins on sample n, what lies wholly before it is forgotten. -/
def StripRun.trim (x : StripRun) (n : Nat) : StripRun :=
  { x with
    ramps := x.ramps.filterMap (fun e => match e.2 with
      | [] => none
      | r :: _ => if r.moving then some (e.1, [r]) else none)
    morphs := (x.morphs.map (fun e => (e.1, e.2.filter (fun q => !q.over n)))).filter (fun e => e.2 ≠ []) }
def State.trimStrips (s : State) (n : Nat) : State :=
  { s with strips := (s.strips.map (fun e => (e.1, e.2.trim n))).filter (fun e => e.2 ≠ StripRun.fresh) }

/-- Every ramp and morph in progress ends (R601, R603). -/
def State.endStripMoves (s : State) : State :=
  let still (x : StripRun) : StripRun := { x with ramps := [], morphs := [], stages := x.stages.map (fun e => (e.1, { e.2 with old := [] })) }
  { s with strips := (s.strips.map (fun e => (e.1, still e.2))).filter (fun e => e.2 ≠ StripRun.fresh) }

/-! ### The stages (R604) -/

/-- The product of a sample and a gain, extracted under R185 with S set (R134). -/
def gained (x g : Int) : Int := satQ31 (roundShift (x * g) 27)

/-- Apply a gain from sample n on. -/
def State.applyGain (s : State) (bus : Bool) (st key n : Nat) (x : List Int) : List Int :=
  x.zipIdx.map (fun e => gained e.1 (s.stripGain bus st key (n + e.2)))

/-- Crossfade of two samples by t of T (R132, R135). -/
def fade (y0 y1 : Int) (t T : Nat) : Int :=
  if T ≤ t then y1 else y0 + roundShift ((y1 - y0) * roundDiv ((t : Int) * 2 ^ 31) T) 31

/-- Whether a stage acts on its signal, by the values of its elements: filters with a slope, EQ bands of a type, a gate
or compressor that is on (R125). -/
def stageActs (st : Nat) (vals : List (Nat × Val)) : Bool :=
  let v (e : Nat) : Nat := ((vals.find? (fun p => p.1 = e)).map (fun p => p.2.toNat)).getD 0
  match st with
  | 0 => true
  | 1 => v 0x08 != 0 || v 0x0A != 0
  | 2 => (List.range 8).any (fun b => v (0x10 + 4 * b) != 0)
  | 3 => v 0x30 != 0
  | _ => v 0x38 != 0

/-- The copy of a stage that runs on sample m, by the values of its settings, and the morph that it takes part in. -/
def instAt : List Morph → List (Nat × Val) → Nat → List (Nat × Val) × Option Morph
  | [], now, _ => (now, none)
  | q :: l, now, m => if q.start ≤ m then (now, some q) else instAt l q.old m

/-- The samples from m on through the copies of a stage (R135). On its first sample the new one starts from the
state that the old one had after the sample before; while both run, `mix` crossfades what they give; then the old one
is discarded. -/
def runInst {α β : Type} (inst : List (Nat × Val) → List Int → α → β × List Int) (mix : β → β → Nat → Nat → β)
    (ms : List Morph) (now : List (Nat × Val)) : Nat → List α → StageRun → List β × StageRun
  | _, [], r => ([], r)
  | m, x :: l, r =>
    let p := instAt ms now m
    let a := inst p.1 r.cur x
    let q : β × StageRun := match p.2 with
      | none => (a.1, ⟨a.2, []⟩)
      | some q =>
        if q.start + q.len ≤ m then (a.1, ⟨a.2, []⟩)
        else
          let b := inst q.old (if m = q.start then r.cur else r.old) x
          (mix b.1 a.1 (m - q.start) q.len, ⟨a.2, b.2⟩)
    let t := runInst inst mix ms now (m + 1) l q.2
    (q.1 :: t.1, t.2)

def StageRun.fresh : StageRun := ⟨[], []⟩

/-- The samples `xs` from sample n on through a stage of strip `st`; `ch` picks the channel whose copies run. -/
def State.throughStage {α β : Type} (s : State) (bus : Bool) (st stage ch n : Nat)
    (inst : List (Nat × Val) → List Int → α → β × List Int) (mix : β → β → Nat → Nat → β) (xs : List α) : List β × State :=
  let x := s.strip bus st
  let r := runInst inst mix (x.morphsOf stage) (s.stageVals bus st stage) n xs (Tab.get StageRun.fresh x.stages (2 * stage + ch))
  (r.1, s.setStrip bus st { x with stages := Tab.put StageRun.fresh x.stages (2 * stage + ch) r.2 })

/-! ### Filters and EQ (R126) -/

/-- A second-order section in the working form, with its leading denominator at 1. -/
structure Sect where
  b0 : Int
  b1 : Int
  b2 : Int
  a1 : Int
  a2 : Int
deriving DecidableEq, Repr

/-- A section from its six coefficients. -/
def Sect.of (b0 b1 b2 a0 a1 a2 : Int) : Sect :=
  ⟨b0 * fixOne / a0, b1 * fixOne / a0, b2 * fixOne / a0, a1 * fixOne / a0, a2 * fixOne / a0⟩

/-- Product of two working-form numbers. -/
def fixMul (x y : Int) : Int := x * y / fixOne

/-- One sample through a section: output, and its two words of state. -/
def Sect.run (c : Sect) (z1 z2 x : Int) : Int × Int × Int :=
  let y := fixMul c.b0 x + z1
  (y, fixMul c.b1 x - fixMul c.a1 y + z2, fixMul c.b2 x - fixMul c.a2 y)

/-- One sample through sections in turn; a section that does not act holds a cleared state. -/
def chainRun : List (Option Sect) → List Int → Int → Int × List Int
  | [], _, x => (x, [])
  | none :: l, z, x =>
    let r := chainRun l (z.drop 2) x
    (r.1, 0 :: 0 :: r.2)
  | some c :: l, z, x =>
    let q := c.run (z.getD 0 0) (z.getD 1 0) x
    let r := chainRun l (z.drop 2) q.1
    (r.1, q.2.1 :: q.2.2 :: r.2)

/-- sin and cos of 2π f / Fs, f in 0.01 Hz; a frequency above 45 × Fs_int acts as 45 × Fs_int (R126). -/
def sinF (fs f : Nat) : Int := sinTurn (min f (45 * fs)) (100 * fs)
def cosF (fs f : Nat) : Int := sinTurn (min f (45 * fs) + 25 * fs) (100 * fs)
/-- tan(π f / Fs). -/
def tanF (fs f : Nat) : Int :=
  let a := fixPi * (min f (45 * fs) : Nat) / ((100 * fs : Nat) : Int)
  fixSin a * fixOne / fixCos a

/-- A first-order Butterworth section. -/
def sect1 (high : Bool) (fs f : Nat) : Sect :=
  let k := tanF fs f
  if high then Sect.of fixOne (-fixOne) 0 (fixOne + k) (k - fixOne) 0 else Sect.of k k 0 (fixOne + k) (k - fixOne) 0

/-- A second-order high-pass or low-pass section with bandwidth term α = sin ω / 2Q. -/
def sect2 (high : Bool) (fs f : Nat) (alpha : Int) : Sect :=
  let c := cosF fs f
  let h := if high then fixOne + c else fixOne - c
  Sect.of (h / 2) (if high then -h else h) (h / 2) (fixOne + alpha) (-2 * c) (fixOne - alpha)

/-- The two sections of a Butterworth filter of 6 to 24 dB per octave: pole pairs with 2Q = 1 / cos θ (log entry 85). -/
def butterworth (high : Bool) (fs f slope : Nat) : List (Option Sect) :=
  let pair (n m : Nat) : Option Sect := some (sect2 high fs f (fixMul (sinF fs f) (fixCos (fixPi * n / m))))
  match slope with
  | 1 => [some (sect1 high fs f), none]
  | 2 => [pair 1 4, none]
  | 3 => [pair 1 3, some (sect1 high fs f)]
  | 4 => [pair 1 8, pair 3 8]
  | _ => [none, none]

/-- 10^(v / 2560 k) of a DB16 value. -/
def dbRoot (v : Int) (k : Nat) : Int := fixExp (fixLn10 * v / ((2560 * k : Nat) : Int))

/-- The section of an EQ band (R126): type, frequency, gain in DB16 and Q in 1/100. The analogue prototypes that the
bilinear transform carries over are the common ones (log entry 85). -/
def eqSect (fs t f : Nat) (gain : Int) (q : Nat) : Option Sect :=
  let c := cosF fs f
  let alpha := sinF fs f * 50 / (max 1 q : Nat)
  let a := dbRoot gain 2
  let r := 2 * fixMul (dbRoot gain 4) alpha
  let up := a + fixOne
  let dn := a - fixOne
  match t with
  | 1 => some (Sect.of (fixOne + fixMul alpha a) (-2 * c) (fixOne - fixMul alpha a)
      (fixOne + alpha * fixOne / a) (-2 * c) (fixOne - alpha * fixOne / a))
  | 2 => some (Sect.of (fixMul a (up - fixMul dn c + r)) (2 * fixMul a (dn - fixMul up c)) (fixMul a (up - fixMul dn c - r))
      (up + fixMul dn c + r) (-2 * (dn + fixMul up c)) (up + fixMul dn c - r))
  | 3 => some (Sect.of (fixMul a (up + fixMul dn c + r)) (-2 * fixMul a (dn + fixMul up c)) (fixMul a (up + fixMul dn c - r))
      (up - fixMul dn c + r) (2 * (dn - fixMul up c)) (up - fixMul dn c - r))
  | 4 => some (Sect.of fixOne (-2 * c) fixOne (fixOne + alpha) (-2 * c) (fixOne - alpha))
  | 5 => some (sect2 true fs f alpha)
  | 6 => some (sect2 false fs f alpha)
  | _ => none

/-- The value of an element among the settings of a copy. -/
def settingOf (vals : List (Nat × Val)) (e : Nat) : Int := ((vals.find? (fun p => p.1 = e)).map (fun p => p.2.toInt)).getD 0

/-- The sections of a filter or EQ copy. -/
def sectsOf (fs stage : Nat) (vals : List (Nat × Val)) : List (Option Sect) :=
  let v (e : Nat) : Nat := (settingOf vals e).toNat
  if stage = 1 then butterworth true fs (v 0x07) (v 0x08) ++ butterworth false fs (v 0x09) (v 0x0A)
  else (List.range 8).map (fun b => eqSect fs (v (0x10 + 4 * b)) (v (0x11 + 4 * b)) (settingOf vals (0x12 + 4 * b)) (v (0x13 + 4 * b)))

/-- The settings of a copy as numbers. -/
def stageArgs (fs stage : Nat) (vals : List (Nat × Val)) : List Int := (stage : Int) :: (fs : Int) :: vals.map (fun p => p.2.toInt)

/-- One sample through a filter or EQ copy: its sections in turn, then Q1.31 by convergent rounding and saturation; the
last unit is open (log entry 85). A copy that does not act passes its sample. -/
def filtInst (fs stage : Nat) (vals : List (Nat × Val)) (z : List Int) (x : Int) : Int × List Int :=
  if stageActs stage vals = false then (x, [])
  else
    let r := chainRun (sectsOf fs stage vals) z (x * 2 ^ 129)
    (satQ31 (fixRound r.1 31 + ((Config.stageUnit (stageArgs fs stage vals ++ z ++ [x]) % 3 : Nat) : Int) - 1), r.2)

/-- The filters or the EQ on channel `ch` (R126, R135). -/
def State.runFilter (s : State) (bus : Bool) (st stage ch n : Nat) (x : List Int) : List Int × State :=
  s.throughStage bus st stage ch n (filtInst s.fs stage) fade x

/-! ### Gate and compressor (R124, R126) -/

/-- The lowest gain of a gate or expander, and of a compressor, whose key cannot pass 0 dBFS: `gate_depth`, and the static
reduction at 0 dBFS, (1 − 1 / ratio) below the threshold. -/
def dynFloor (stage : Nat) (vals : List (Nat × Val)) : Int :=
  if stage = 3 then dbGain (settingOf vals 0x32)
  else
    let r := max 100 (settingOf vals 0x3A)
    fixFloor (fixExp (fixLn10 * (settingOf vals 0x39 * (r - 100)) / (2560 * r))) 27

/-- What a gate or compressor gives for a sample: each channel's output, whether the gate is open, whether gain is reduced. -/
abbrev DynOut := List Int × Bool × Bool

/-- One sample through a gate or compressor copy (R126): one gain for every channel of the strip or pair, from the larger
of their keys (R124). The detector and the course of the gain between its limits are open (log entry 86); the make-up
gain follows exactly. -/
def dynInst (fs stage : Nat) (vals : List (Nat × Val)) (z : List Int) (x : Int × List Int) : DynOut × List Int :=
  if stageActs stage vals = false then ((x.2, false, false), [])
  else
    let a := stageArgs fs stage vals
    let z1 := Config.dynNext a z x.1
    let g := max (min gainOne (dynFloor stage vals)) (min gainOne (Config.dynGain a z1))
    let makeup := if stage = 3 then gainOne else dbGain (settingOf vals 0x3E)
    ((x.2.map (fun v => satQ31 (roundShift (v * g * makeup) 54)), Config.gateOpen a z1, decide (g < gainOne)), z1)

/-- The crossfade of two copies, channel by channel; the flags are those of the new one. -/
def dynFade (a b : DynOut) (t T : Nat) : DynOut := ((a.1.zip b.1).map (fun e => fade e.1 e.2 t T), b.2.1, a.2.2 || b.2.2)

/-- The keys of a round: the larger magnitude over the channels, sample by sample. -/
def linkedKey (n : Nat) (ks : List (List Int)) : List Int :=
  (List.range n).map (fun i => ks.foldl (fun m k => max m ((k.getD i 0).natAbs : Int)) 0)

/-- Gate or compressor over the channels of a strip or pair, keyed by `keys` (R124, R126, R135). -/
def State.runDynamics (s : State) (bus : Bool) (st stage n : Nat) (keys xs : List (List Int)) : List (List Int) × State :=
  let b := s.roundB
  let ins := (linkedKey b keys).zipIdx.map (fun e => (e.1, xs.map (fun x => x.getD e.2 0)))
  let r := s.throughStage bus st stage 0 n (dynInst s.fs stage) dynFade ins
  let x := r.2.strip bus st
  let y := if stage = 3 then { x with gateOpen := (r.1.getLast?.map (·.2.1)).getD false }
    else { x with compActive := r.1.any (·.2.2) }
  (xs.zipIdx.map (fun e => r.1.map (fun o => o.1.getD e.2 0)), r.2.setStrip bus st y)

/-! ### Delay -/

/-- The sample `d` back from sample i of a round of `b` samples, which the line holds newest first. -/
def tapAt (line : List Int) (b d i : Nat) : Int := line.getD (b - 1 - i + d) 0

/-- The delay stage (R126, R135): the output, and the line after it. Both taps read the one line, so a copy has no state
of its own. -/
def State.runDelay (s : State) (bus : Bool) (st n : Nat) (old x : List Int) : List Int × List Int :=
  let line := (x.reverse ++ old).take (192000 + 4096)
  let inst (vals : List (Nat × Val)) (_ : List Int) (i : Nat) : Int × List Int :=
    (tapAt line x.length (settingOf vals 6).toNat i, [])
  ((runInst inst fade ((s.strip bus st).morphsOf 0) (s.stageVals bus st 0) n (List.range x.length) StageRun.fresh).1, line)

/-- A signal as a strip reads it: across a feedback path it is one round old (R16, R131). -/
def State.crossesBack (s : State) (bus : Bool) (a : Nat) : Bool :=
  if bus then decide (s.phaseOf a = 3) else decide (1 ≤ s.phaseOf a)
def State.strippedSignal (s : State) (bus : Bool) (a : Nat) : List Int :=
  if s.crossesBack bus a then s.signalBefore a else s.signal a

/-- The input of an input strip: primary, backup, or the crossfade of 32 samples between them (R132); of a bus strip,
the destination bound to it (R81). -/
def State.stripInput (s : State) (bus : Bool) (st n : Nat) : List Int :=
  if bus then s.consumer 1 st
  else
    let x := s.strip bus st
    let p := s.strippedSignal bus (s.nat (El.stInPrimary bus st))
    let b := s.strippedSignal bus (s.nat (El.stInBackup bus st))
    match x.backupAt with
    | none => if x.onBackup then b else p
    | some m => (p.zip b).zipIdx.map (fun e => if n + e.2 < m then e.1.1 else fade e.1.1 e.1.2 (n + e.2 - m) 32)

/-- Input, trim and polarity of strip `ch`. -/
def State.stripHead (s : State) (bus : Bool) (ch n : Nat) : List Int :=
  let x := s.applyGain bus ch 0x04 n (s.stripInput bus ch n)
  if s.on (El.stPolarity bus ch) then x.map (fun v => satQ31 (-v)) else x

/-- The signal that the insert of channel `i` of a strip returns: left from `ins_return`, right from the index one
higher, and silence on both from silence (R131). -/
def insSignal (a i : Nat) : Nat := if a = silence then silence else a + i

/-- An insert point: the send leaves, and the return replaces the signal by its weight (R131, R134). `lead` is the
leader, whose elements govern. -/
def State.runInsert (s : State) (bus : Bool) (lead i point n : Nat) (x : List Int) : List Int × State :=
  if s.nat (El.insPoint bus lead) ≠ point then (x, s)
  else
    let send := s.applyGain bus lead 0x53 n x
    let base := if bus then 1049600 else 1048576
    let ret := s.applyGain bus lead 0x54 n (s.strippedSignal bus (insSignal (s.nat (El.insReturn bus lead)) i))
    let y := (x.zip ret).zipIdx.map (fun e =>
      let w := s.stripGain bus lead 0x50 (n + e.2)
      satQ31 (roundShift (e.1.1 * (gainOne - w) + e.1.2 * w) 27))
    (y, s.setSignal (sigJob (base + lead + i)) send)

/-- What a channel of a strip holds at each tap, and before pan. -/
structure Chain where
  post : List Int
  trim : List Int
  eq : List Int
  pre : List Int
deriving DecidableEq, Repr

/-- One stage over the channels of a strip, in turn. -/
def State.eachChan (s : State) (f : State → Nat → List Int → List Int × State) (xs : List (List Int)) : List (List Int) × State :=
  xs.zipIdx.foldl (fun acc e =>
    let r := f acc.2 e.2 e.1
    (acc.1 ++ [r.1], r.2)) ([], s)

/-- The key signals of a gate or compressor (R126): a named key, else the channels themselves. -/
def State.keysOf (s : State) (bus : Bool) (a : Nat) (xs : List (List Int)) : List (List Int) :=
  if a = silence then xs else [s.strippedSignal bus a]

/-- Stages 1 to 7 of the `chans` channels of a strip led by `lead` (R604). Trim, input and polarity are the channel's own. -/
def State.runChains (s : State) (bus : Bool) (lead chans n : Nat) : List Chain × State :=
  let heads := (List.range chans).map (fun i => s.stripHead bus (lead + i) n)
  let d := s.eachChan (fun k i x =>
    let w := k.strip bus lead
    let r := k.runDelay bus lead n (if i = 0 then w.line else w.lineR) x
    (r.1, k.setStrip bus lead (if i = 0 then { w with line := r.2 } else { w with lineR := r.2 }))) heads
  let f := d.2.eachChan (fun k i x => k.runFilter bus lead 1 i n x) d.1
  let i0 := f.2.eachChan (fun k i x => k.runInsert bus lead i 0 n x) f.1
  let e := i0.2.eachChan (fun k i x => k.runFilter bus lead 2 i n x) i0.1
  let i1 := e.2.eachChan (fun k i x => k.runInsert bus lead i 1 n x) e.1
  let g := if bus then i1 else i1.2.runDynamics bus lead 3 n (i1.2.keysOf bus (s.nat (El.gateKey bus lead)) i1.1) i1.1
  let c := g.2.runDynamics bus lead 4 n (g.2.keysOf bus (s.nat (El.compKey bus lead)) g.1) g.1
  let i2 := c.2.eachChan (fun k i x => k.runInsert bus lead i 2 n x) c.1
  let y := i2.1.map (fun x => s.applyGain bus lead 0x41 n (s.applyGain bus lead 0x40 n x))
  ((List.range chans).map (fun i => ⟨y.getD i [], heads.getD i [], e.1.getD i [], i2.1.getD i []⟩), i2.2)

/-- The tap that `st_tap` selects, given the signal after pan and width. -/
def Chain.tapped (c : Chain) (tap : Nat) (full : List Int) : List Int :=
  match tap with
  | 1 => c.pre
  | 2 => c.eq
  | 3 => c.trim
  | _ => full

/-- Width of a stereo pair: the side signal is scaled before left and right are formed again (R126). -/
def State.runWidth (s : State) (bus : Bool) (lead n : Nat) (l r : List Int) : List (Int × Int) :=
  (l.zip r).zipIdx.map (fun e =>
    let w := s.stripGain bus lead 0x43 (n + e.2)
    let mid := (e.1.1 + e.1.2) * gainOne
    let side := (e.1.1 - e.1.2) * w
    (satQ31 (roundShift (mid + side) 28), satQ31 (roundShift (mid - side) 28)))

/-- The bits of `st_status` that the job sets (R128). -/
def stripBits (running backup lost ramping morphing gate comp foll insFb keyFb : Bool) : Nat :=
  let b (x : Bool) (i : Nat) : Nat := if x then 2 ^ i else 0
  b running 0 + b backup 1 + b lost 2 + b ramping 3 + b morphing 4 + b gate 5 + b comp 6 + b foll 7 + b insFb 8 + b keyFb 9

/-- The job of a strip has run in the round (R128). -/
def State.stripRan (s : State) (bus : Bool) (n : Nat) : State := s.setStrip bus n { s.strip bus n with ran := true }

/-- At the end of a round every strip shows what its job left (R128): `running`, `gate_open` and `comp_active`, of a follower
those of its leader's job. -/
def State.showStrip (s : State) (bus : Bool) (n : Nat) : State :=
  let lead := s.strip bus (if s.follower bus n then n - 1 else n)
  let ran := (s.strip bus n).ran
  (s.setN (El.stStatus bus n) (stripBits ran false false false false (ran && lead.gateOpen) (ran && lead.compActive) false false false))

/-- The strips that ran in the round, or show that they did: by area, number. -/
def State.shownStrips (s : State) : List (Bool × Nat) :=
  let run : List (Bool × Nat) := (s.strips.filter (fun e => e.2.ran)).map (fun (e : Nat × StripRun) => (decide (2048 ≤ e.1), e.1 % 2048))
  let shown : List (Bool × Nat) :=
    (s.regs.filter (fun e => isStrip e.1 && elementOf e.1 == 0xFF)).map (fun (e : Nat × Val) => (stripBus e.1, objectOf e.1))
  (run ++ shown).eraseDups

/-- The round is over: the strips show what their jobs left. -/
def State.endStrips (s : State) : State :=
  let s1 := s.shownStrips.foldl (fun k e => k.showStrip e.1 e.2) s
  let rested (x : StripRun) : StripRun := { x with ran := false, gateOpen := false, compActive := false }
  { s1 with strips := (s1.strips.map (fun e => (e.1, rested e.2))).filter (fun e => e.2 ≠ StripRun.fresh) }

/-- Samples before this one are computed: those of rounds that are complete. -/
def State.doneTo (s : State) : Nat := s.lineSample (s.rounds.current.getD s.rounds.nextRound)

/-- `st_status` as it reads (R128): the bits that the job left, and those that follow from the strip. -/
def State.stripStatus (s : State) (bus : Bool) (n : Nat) : Nat :=
  let x := s.strip bus n
  let lead := if s.follower bus n then n - 1 else n
  let left := s.nat (El.stStatus bus n)
  let keyFb := (!bus && s.nat (El.gateKey bus lead) != silence && s.crossesBack bus (s.nat (El.gateKey bus lead))) ||
    (s.nat (El.compKey bus lead) != silence && s.crossesBack bus (s.nat (El.compKey bus lead)))
  stripBits (bitOf left 0) (x.onBackup || x.backupAt.isSome) x.lost (x.ramps.any (fun e => e.2.any (·.moving)))
    (x.morphs.any (fun q => q.2.any (fun m => !m.over s.doneTo)))
    (bitOf left 5) (bitOf left 6) (s.follower bus n) (s.crossesBack bus (s.nat (El.insReturn bus lead))) keyFb

/-- A strip job computes its round (R123, R124, R604): the outputs of the strip, or of both strips of a pair. -/
def State.runStrip (s : State) (bus : Bool) (lead program n : Nat) : State :=
  let tap := s.nat (El.stTap bus lead)
  let stereo := isPair program && program != 0x0103
  let r := s.runChains bus lead (if stereo then 2 else 1) n
  let l := r.1.getD 0 ⟨[], [], [], []⟩
  let q := r.1.getD 1 ⟨[], [], [], []⟩
  let s0 := r.2.stripRan bus lead
  if program = 0x0103 then
    let yl := s0.applyGain bus lead 0x42 n l.post
    let yr := s0.applyGain bus lead 0x142 n l.post
    let s1 := (s0.setSignal (sigStrip bus lead) (l.tapped tap yl)).setSignal (sigStrip bus (lead + 1)) (l.tapped tap yr)
    (s1.setSignal (sigJob (1048576 + lead + 1)) s.zeros).stripRan bus (lead + 1)
  else if stereo then
    let w := s0.runWidth bus lead n l.post q.post
    let yl := s0.applyGain bus lead 0x42 n (w.map (·.1))
    let yr := s0.applyGain bus lead 0x142 n (w.map (·.2))
    let s1 := (s0.setSignal (sigStrip bus lead) (l.tapped tap yl)).setSignal (sigStrip bus (lead + 1)) (q.tapped tap yr)
    s1.stripRan bus (lead + 1)
  else s0.setSignal (sigStrip bus lead) (l.tapped tap l.post)

/-- The cycles that a strip program uses in the round that begins on sample n: each active stage's, and a second copy
for each stage that morphs in it, scaled by B / 16 (R123, R135). A stage that is switched off costs nothing (R125): a
delay of 0 and an insert that is off too. -/
def State.stripCycles (s : State) (bus : Bool) (lead program n : Nat) : Nat :=
  let pair : Nat := if program = 0x0102 ∨ program = 0x0202 then 2 else 1
  let acts (st : Nat) : Bool := stageActs st (s.stageVals bus lead st)
  let insert := s.on (El.insEnable bus lead) || (Tab.get [] (s.strip bus lead).ramps 0x50).any (·.moving)
  let run := 40 + (if s.nat (El.stDelay bus lead) = 0 then 0 else 48) + (if acts 1 then 256 else 0) + (if acts 2 then 512 else 0) +
    (if !bus && acts 3 then 320 else 0) + (if acts 4 then 400 else 0) + 64 + (if insert then 48 else 0)
  let second (st : Nat) : Nat := match st with
    | 0 => 64 | 1 => 272 | 2 => 528 | 3 => 336 | _ => 416
  let mor := (((s.strip bus lead).morphs.filter (fun e =>
    e.2.any (fun q => decide (q.start < n + s.roundB) && decide (n < q.start + q.len)))).map (fun e => second e.1)).sum
  (pair * (run + mor) + (if program = 0x0103 then 32 else 0)) * s.roundB / 16

/-! ### The strip of an output, and element 44 (R130) -/

/-- `st_out_ph`: the lowest source pigeonhole that holds the strip's output, or 0xFFFF. -/
def State.outPh (s : State) (bus : Bool) (n : Nat) : Nat :=
  ((List.range s.variant.sources).find? (fun p => s.nat (El.srcSignal p) = sigStrip bus n)).getD 0xFFFF

/-- A new program sets every other element of the strip, and of its follower, to its default, but for the label and the
inputs (R137). -/
def State.clearStrip (s : State) (bus : Bool) (n : Nat) : State :=
  (List.range 256).foldl (fun k e =>
    if e = 0 ∨ e = 1 ∨ e = 2 ∨ e = 3 ∨ e = 0x44 ∨ 0xF8 ≤ e then k
    else k.setV (addrOf (stripArea bus) n e) (defaultVal k.variant (addrOf (stripArea bus) n e))) s

/-- A write to `st_program` takes effect (R137). -/
def State.applyProgram (s : State) (bus : Bool) (n v : Nat) : State :=
  let old := s.nat (El.stProgram bus n)
  let s1 := (s.setN (El.stProgram bus n) v).clearStrip bus n
  if isPair old ∨ isPair v then s1.clearStrip bus (n + 1) else s1

/-! ### The backup input (R132) -/

/-- Whether a signal was lost for the whole of the last round: its in-tray held no sample of its own, or its unit's domain
was down. Strips, jobs, buses, generators and silence are never lost. -/
def State.isLost (s : State) (a : Nat) : Bool :=
  let k := sigKind a
  (k == 0 || k == 1 || k == 2 || k == 6) && (match s.rounds.liveBefore with
    | none => false
    | some l => !l.contains a)

/-- As a round begins an input strip notes whether its inputs were lost for the whole of the round before; where its primary
was and its backup was not, it moves to its backup from the round's first sample n on (R132). -/
def State.noteBackup (s : State) (st n : Nat) : State :=
  let x := s.strip false st
  let b := s.nat (El.stInBackup false st)
  let lost := s.isLost (s.nat (El.stInPrimary false st))
  let due := lost && !s.isLost b && !x.onBackup && x.backupAt.isNone && b != silence
  s.setStrip false st { x with lost := lost, backupAt := if due then some n else x.backupAt }

/-- The input strips that name a primary, or have a state to keep. -/
def State.inputStrips (s : State) : List Nat :=
  let named : List Nat := (s.regs.filter (fun e => areaOf e.1 = 0x10 ∧ elementOf e.1 = 2)).map (fun (e : Nat × Val) => objectOf e.1)
  let kept : List Nat := (s.strips.filter (fun e => e.1 < 2048)).map (fun (e : Nat × StripRun) => e.1)
  (named ++ kept).eraseDups

end Sys2Proof.Machine
end

