-- ==== Sys2Proof/Machine/Audio.lean ====
section
/-! DEFINITION. Writes to the elements of areas 10 to 1B: what a value must name, what the state must allow, and how a
value takes effect on its sample (R75 to R81, R85, R109, R111, R118, R122, R124, R126, R130, R131, R134, R137). -/

namespace Sys2Proof.Machine

/-! ### Checks -/

/-- A meter point as a value (R107, R83, R598). -/
def State.pointStatus (s : State) (p : Nat) : Status :=
  if p < 2048 then s.unitStatus p s.variant.sources
  else if p < 2560 then s.unitStatus (p - 2048) s.variant.dests
  else .notPresent

/-- The U16 meter point numbers of `pub_points` (R121). -/
def u16s : List Byte → List Nat
  | a :: b :: l => (a.toNat + 256 * b.toNat) :: u16s l
  | _ => []

/-- Elements of a strip that hold a signal address. -/
def isStripSig (e : Nat) : Bool := [0x02, 0x03, 0x37, 0x3F, 0x52].contains e

/-- Elements of a strip that hold a frequency. -/
def isStripFreq (e : Nat) : Bool := e == 0x07 || e == 0x09 || (0x10 ≤ e && e ≤ 0x2F && e % 4 == 1)

/-- The return signals that a strip's `ins_return` names: both of a stereo pair (R131). -/
def State.returnStatus (s : State) (bus : Bool) (n v : Nat) : Status :=
  let p := s.nat (El.stProgram bus n)
  if (p = 0x0102 ∨ p = 0x0202) ∧ v ≠ silence then firstOf [s.sigStatus v, s.sigStatus (v + 1)] else s.sigStatus v

/-- The value of a write to a strip element (R124, R126, R130, R131). -/
def State.stripValue (s : State) (a : Nat) (v : Val) : Status :=
  let bus := stripBus a
  let n := objectOf a
  let e := elementOf a
  let x := v.toNat
  if e = 0x01 then
    if bus then (if x = 0x0201 ∨ (x = 0x0202 ∧ n % 2 = 0) then .ok else .outOfRange)
    else if x = 0x0101 ∨ ((x = 0x0102 ∨ x = 0x0103) ∧ n % 2 = 0) then .ok else .outOfRange
  else if e = 0x44 then (if x = 0xFFFF then .outOfRange else s.unitStatus x s.variant.sources)
  else if e = 0x52 then s.returnStatus bus n x
  else if isStripSig e then s.sigStatus x
  else if isStripFreq e then (if x < (if e < 0x10 then 1000 else 2000) ∨ 45 * s.fs < x then .outOfRange else .ok)
  else .ok

/-- The program id that an image in effect reserves for a strip (R234). -/
def State.reservedProgram (s : State) (bus : Bool) (n : Nat) : Option Nat :=
  (List.range s.variant.clusters).findSome? (fun c => (s.cluster c).image.bind (fun im =>
    ((im.sections.flatMap (·.jobs)).find? (fun j => j.strip == some (bus, n))).map (·.program)))

/-- Whether a program fits the id that is reserved: no dearer, and the same strips (R234). -/
def programFits (reserved p : Nat) : Bool :=
  decide ((libCosts p).1 ≤ (libCosts reserved).1) && decide ((libCosts p).2 ≤ (libCosts reserved).2) && isPair p == isPair reserved

/-- What the state of a strip allows (R124, R126, R234): the follower's own elements, pan and width on their programs,
and a program that fits the one reserved. -/
def State.stripState (s : State) (a : Nat) (v : Val) : Status :=
  let bus := stripBus a
  let n := objectOf a
  let e := elementOf a
  let p := s.nat (El.stProgram bus n)
  if s.follower bus n && !(followerKeeps (s.nat (El.stProgram bus (n - 1))) e) then .wrongState
  else if e = 0x01 ∧ (s.reservedProgram bus n).any (fun q => !programFits q v.toNat) then .wrongState
  else if e = 0x42 ∧ isPair p = false then .wrongState
  else if e = 0x43 ∧ ¬(p = 0x0102 ∨ p = 0x0202) then .wrongState
  else .ok

/-- The value of a write in area 1A (R3, R56, R78). -/
def State.holeValue (s : State) (a : Nat) (v : Val) : Status :=
  let o := objectOf a
  let e := elementOf a
  if o < 0x800 ∧ e = 0 then (if s.deferrable v.toNat then .outOfRange else s.sigStatus v.toNat)
  else if 0x800 ≤ o ∧ o < 0xC00 ∧ e = 0 then
    let t := tgtPass (tgtKind v.toNat)
    let named := s.tgtStatus v.toNat
    if 6 < tgtKind v.toNat then .outOfRange
    else if named = .notPresent then .notPresent
    else if t ≠ 0 ∧ t ≠ s.nat (El.dstPass (o - 0x800)) then .outOfRange
    else named
  else .ok

/-- What the state of a destination allows (R78, R80). -/
def State.holeState (s : State) (a : Nat) (v : Val) : Status :=
  let d := objectOf a - 0x800
  let e := elementOf a
  if objectOf a < 0x800 ∨ 0xC00 ≤ objectOf a then .ok
  else if e = 0 then
    (match s.boundTo v.toNat with
      | none => .ok
      | some k => if v.toNat = 0 ∨ k = d then .ok else .wrongState)
  else if e = 1 ∧ s.nat (El.dstTarget d) ≠ 0 then .wrongState
  else .ok

/-- The value of a write in area 1B (R83, R121, R122). -/
def State.meterValue (s : State) (a : Nat) (v : Val) : Status :=
  let o := objectOf a
  let e := elementOf a
  if 0xC00 ≤ o ∧ o < 0xE00 ∧ e < 8 then (if v.toNat = 0xFFFF then .ok else s.pointStatus v.toNat)
  else if 0xE00 ≤ o ∧ e = 2 then
    let b := v.toBytes
    if b.length % 2 = 1 ∨ 5120 < b.length then .outOfRange
    else if (u16s b).any (fun p => decide (s.pointStatus p = .notPresent)) then .notPresent
    else if (u16s b).any (fun p => decide (s.pointStatus p = .wrongState)) then .wrongState
    else .ok
  else .ok

/-- What the state of a loudness meter allows (R111). -/
def State.meterState (s : State) (a : Nat) : Status :=
  let o := objectOf a
  if 0xC00 ≤ o ∧ o < 0xE00 ∧ elementOf a < 0x10 ∧ s.nat (El.ldRun (o - 0xC00)) = 1 then .wrongState else .ok

/-! ### Taking effect -/

/-- A strip element takes its value on sample n (R133, R134, R135, R137). -/
def State.applyStrip (s : State) (w : CWrite) (n : Nat) : State :=
  let bus := stripBus w.addr
  let st := objectOf w.addr
  let e := elementOf w.addr
  if e = 0x01 then s.applyProgram bus st w.val.toNat
  else if e = 0x44 then s.setN (El.srcSignal w.val.toNat) (sigStrip bus st)
  else if e = 0x02 ∨ e = 0x03 then
    let x := s.strip bus st
    (s.setStrip bus st { x with onBackup := false, lost := false, backupAt := none }).setV w.addr w.val
  else if s.roundsRun = false then s.setV w.addr w.val
  else if isRamped e then s.startStripRamp bus st e w.val n w.len w.shape
  else match stageOf e with
    | some g => s.startMorph bus st g e w.val n w.len
    | none => s.setV w.addr w.val

/-- A change of a loudness meter's `ld_run` (R111). -/
def State.applyLoudRun (s : State) (l v : Nat) : State :=
  if v = 2 then (s.resetLoud l).setN (El.ldRun l) 0 else s.setN (El.ldRun l) v

/-- A publication list starts a new period where its period or points change. -/
def PubAgg.fresh : PubAgg := ⟨0, [], [], [], []⟩
def State.pub (s : State) (j : Nat) : PubAgg := Tab.get PubAgg.fresh s.mix.pubs j
def State.setPub (s : State) (j : Nat) (x : PubAgg) : State :=
  { s with mix := { s.mix with pubs := Tab.put PubAgg.fresh s.mix.pubs j x } }

/-- An element of area 1B takes its value on sample n (R109, R111). -/
def State.applyMeter (s : State) (a : Nat) (v : Val) (n : Nat) : State :=
  let o := objectOf a
  let e := elementOf a
  if o < 0xC00 ∧ e = 0x0A then (if v.toNat = 1 then s.clearMeter o else s)
  else if o < 0xC00 ∧ e = 0x08 then (s.restartMeter o n).setV a v
  else if 0xC00 ≤ o ∧ o < 0xE00 ∧ e = 0x10 then s.applyLoudRun (o - 0xC00) v.toNat
  else if 0xE00 ≤ o ∧ (e = 0 ∨ e = 2) then
    (s.setPub (o - 0xE00) { PubAgg.fresh with since := s.rounds.nextRound, sent := (s.pub (o - 0xE00)).sent }).setV a v
  else s.setV a v

/-- An element of area 1A takes its value (R75, R76, R81, R116). -/
def State.applyHole (s : State) (a : Nat) (v : Val) : State :=
  if a = El.soClear then (if v.toNat = 1 then s.setAll [El.rdInUseMax, El.rdRefusals] 0 else s) else s.setV a v

end Sys2Proof.Machine
end

