-- ==== Sys2Proof/Machine/Images.lean ====
section
/-! DEFINITION. Program images: their form, the checks at the store and at the activation (R24, R50, R56, R131, R173,
R178, R182, R224, R229 to R233, R235, R236). -/

namespace Sys2Proof.Machine

/-- A failed check of an image: its status and the byte offset of the failing item. -/
abbrev ImgError := Status × Nat

/-! ### The words of an image (R229 to R231) -/

/-- The little-endian words of a byte string. -/
def words32 : List Byte → List Nat
  | a :: b :: c :: d :: l => leVal [a, b, c, d] :: words32 l
  | _ => []

/-- Instruction words, low word first. -/
def programWords : Nat → List Nat → List DspWord
  | 0, _ => []
  | n + 1, lo :: hi :: l => BitVec.ofNat 64 (lo + hi * 2 ^ 32) :: programWords n l
  | _ + 1, _ => []

/-- `n` initialisation runs from word `p` of the image on: the runs, what follows them and its place. -/
def parseRuns : Nat → List Nat → Nat → Except Nat (List (Nat × List Word) × List Nat × Nat)
  | 0, l, p => .ok ([], l, p)
  | _ + 1, [], p => .error p
  | n + 1, h :: l, p =>
    let c := h / 65536
    if bitOf h 15 ∨ c = 0 ∨ 32768 < c ∨ l.length < c then .error p
    else match parseRuns n (l.drop c) (p + 1 + c) with
      | .error e => .error e
      | .ok r => .ok ((h % 32768, (l.take c).map (BitVec.ofNat 32)) :: r.1, r.2)

/-- Input entries. -/
def parseIns : Nat → List Nat → List JobIn
  | 0, _ => []
  | n + 1, a :: b :: l =>
    ⟨if a = 0xFFFFFFFF then none else some (BitVec.ofNat 32 a), b % 65536, b / 65536⟩ :: parseIns n l
  | _ + 1, _ => []

/-- Output entries. -/
def parseOuts : Nat → List Nat → List JobOut
  | 0, _ => []
  | n + 1, a :: b :: l => ⟨a % 2 ^ 28, b / 65536⟩ :: parseOuts n l
  | _ + 1, _ => []

/-- Region entries. -/
def parseRegions : Nat → List Nat → List Region
  | 0, _ => []
  | n + 1, a :: b :: c :: l => ⟨bitOf b 8, a + b % 16 * 2 ^ 32, c, bitOf b 9, bitOf b 10⟩ :: parseRegions n l
  | _ + 1, _ => []

/-- Whether the reserved bits of the entries are 0 and each length is at least 1: inputs, outputs, regions. -/
def entriesOk : Nat → Nat → Nat → List Nat → Bool
  | i + 1, o, r, a :: b :: l =>
    (if a = 0xFFFFFFFF then decide (b % 65536 ≠ 0xFFFF) else decide (b % 65536 = 0xFFFF)) && entriesOk i o r l
  | 0, o + 1, r, a :: b :: l => decide (a < 2 ^ 28) && decide (b % 65536 = 0) && entriesOk 0 o r l
  | 0, 0, r + 1, _ :: b :: c :: l =>
    decide (b % 256 / 16 = 0) && decide (b / 2048 = 0) && decide (0 < c) && entriesOk 0 0 r l
  | 0, 0, 0, _ => true
  | _, _, _, _ => false

/-- A tray binding names an entry of the job, or none (R231); one that names an entry the job does not have is refused as a
reserved value is (DESIGN CHOICE, log entry 93). -/
def trayOk (ins outs t : Nat) : Bool :=
  t == 0xFF || decide (t < ins) || (decide (0x40 ≤ t) && decide (t < 0x40 + outs))

/-- A job descriptor at word `p`, and what follows it. -/
def parseJob (l : List Nat) (p : Nat) : Except Nat (Job × List Nat × Nat) :=
  if l.length < 12 then .error p
  else
    let w (i : Nat) : Nat := l.getD i 0
    let ni := w 6 % 256
    let no := w 6 / 256 % 256
    let nr := w 6 / 65536 % 256
    let size := 12 + 2 * ni + 2 * no + 3 * nr
    let rest := l.drop 12
    let strip := bitOf (w 0) 23
    let trays := (List.range 4).map (fun i => w 7 / 256 ^ i % 256) ++ (List.range 4).map (fun i => w 8 / 256 ^ i % 256)
    let area := w 9 / 65536
    if l.length < size ∨ w 0 / 2 ^ 24 ≠ 0 ∨ w 1 / 2 ^ 13 ≠ 0 ∨ bitOf (w 4) 15 ∨ bitOf (w 5) 15 ∨ w 6 / 2 ^ 24 ≠ 0 ∨
        64 < ni ∨ 64 < no ∨ 8 < nr ∨ w 4 / 65536 < 16 ∨ 32768 < w 4 / 65536 ∨ 32768 < w 5 / 65536 ∨ w 11 ≠ 0 ∨
        (strip = true ∧ area ≠ 0x10 ∧ area ≠ 0x11) ∨ (strip = false ∧ (w 9 ≠ 0 ∨ w 10 ≠ 0)) ∨ 65536 ≤ w 10 ∨
        trays.all (trayOk ni no) = false ∨ entriesOk ni no nr rest = false then .error p
    else .ok (⟨4 * p, w 0 % 2 ^ 20, bitOf (w 0) 20, bitOf (w 0) 21, bitOf (w 0) 22,
        if strip then some (area == 0x11, w 9 % 65536) else none, w 10, w 1, w 2, w 3, w 4 % 32768, w 4 / 65536,
        w 5 % 32768, w 5 / 65536, trays, parseIns ni rest, parseOuts no (rest.drop (2 * ni)),
        parseRegions nr (rest.drop (2 * ni + 2 * no))⟩, l.drop size, p + size)

def parseJobs : Nat → List Nat → Nat → Except Nat (List Job × List Nat × Nat)
  | 0, l, p => .ok ([], l, p)
  | n + 1, l, p => match parseJob l p with
    | .error e => .error e
    | .ok j => match parseJobs n j.2.1 j.2.2 with
      | .error e => .error e
      | .ok r => .ok (j.1 :: r.1, r.2)

/-- A core section at word `p` (R230). Every variant has the service cores 0 to 7, and word 0 [3:0] has room for 8 to 15: those
fail the form of the section, with OUT_OF_RANGE (DESIGN CHOICE, log entry 94). -/
def parseSection (l : List Nat) (p : Nat) : Except Nat (Section × List Nat × Nat) :=
  let w (i : Nat) : Nat := l.getD i 0
  if l.length < 6 ∨ 8 ≤ w 0 ∨ 8192 < w 1 ∨ 64 < w 5 ∨ l.length < 6 + 2 * w 1 then .error p
  else match parseRuns (w 3) (l.drop (6 + 2 * w 1)) (p + 6 + 2 * w 1) with
    | .error e => .error e
    | .ok xs => match parseRuns (w 4) xs.2.1 xs.2.2 with
      | .error e => .error e
      | .ok ys => match parseJobs (w 5) ys.2.1 ys.2.2 with
        | .error e => .error e
        | .ok js => .ok (⟨4 * p, w 0, programWords (w 1) (l.drop 6), w 2 % 65536, w 2 / 65536, xs.1, ys.1, js.1⟩, js.2)

def parseSections : Nat → List Nat → Nat → Except Nat (List Section × List Nat × Nat)
  | 0, l, p => .ok ([], l, p)
  | n + 1, l, p => match parseSection l p with
    | .error e => .error e
    | .ok x => match parseSections n x.2.1 x.2.2 with
      | .error e => .error e
      | .ok r => .ok (x.1 :: r.1, r.2)

/-- Whether two entries of a list fail a test; the place of the first that fails against an earlier one. -/
def firstClash {α : Type} (bad : α → α → Bool) (place : α → Nat) : List α → List α → Option Nat
  | _, [] => none
  | seen, x :: l => if seen.any (fun y => bad y x) then some (place x) else firstClash bad place (seen ++ [x]) l

/-- The rounds sizes of R40. -/
def isRoundSize (b : Nat) : Bool := b == 8 || b == 16 || b == 32 || b == 64

/-- An image value, or the byte offset of the first item whose form is wrong: magic, format, length, check, section
count, reserved fields, or the layout of a section (R229 to R231, first row of R235). -/
def parseImage (b : List Byte) : Except Nat Image :=
  let l := words32 b
  let w (i : Nat) : Nat := l.getD i 0
  let n := w 4 / 2 ^ 24
  if b.length < 32 ∨ w 0 ≠ 0x31474D49 then .error 0
  else if w 1 ≠ 1 then .error 4
  else if w 2 ≠ b.length ∨ b.length % 4 ≠ 0 ∨ 4194304 < b.length then .error 8
  else if w 3 ≠ crc32c (b.take 12 ++ List.replicate 4 0 ++ b.drop 16) then .error 12
  else if n = 0 ∨ 8 < n ∨ 5 < w 4 / 256 % 256 ∨ isRoundSize (w 4 / 65536 % 256) = false then .error 16
  else if w 6 ≠ 0 ∨ w 7 ≠ 0 then .error 24
  else match parseSections n (l.drop 8) 8 with
    | .error p => .error (4 * p)
    | .ok x =>
      if x.2.1 ≠ [] then .error (4 * x.2.2)
      else match firstClash (fun (p q : Section) => p.core == q.core) (·.at_) [] x.1 with
        | some p => .error p
        | none => .ok ⟨w 4 % 256, w 4 / 256 % 256, w 4 / 65536 % 256, w 5, w 3, x.1⟩

/-! ### Checks over one image (R235) -/

/-- The place of the first entry that fails a test. -/
def firstBad {α : Type} (bad : α → Bool) (place : α → Nat) (l : List α) : Option Nat := (l.find? bad).map place

/-- Program, X and Y words and delay line bytes that a standard program reserves (R233). -/
def libNeeds : Nat → Nat × Nat × Nat × Nat
  | 0x0101 => (1024, 512, 256, 786432)
  | 0x0102 => (1280, 1024, 384, 1572864)
  | 0x0103 => (1152, 640, 256, 786432)
  | 0x0201 => (896, 448, 224, 786432)
  | _ => (1152, 896, 352, 1572864)

/-- The program ids of an area (R123). -/
def programOf (bus : Bool) (p : Nat) : Bool :=
  if bus then p == 0x0201 || p == 0x0202 else p == 0x0101 || p == 0x0102 || p == 0x0103

/-- A strip job is deferrable, in the wrong phase, of a wrong program, a pair on an odd strip, or reserves too little
(R124, R233). -/
def stripJobBad (nprog : Nat) (j : Job) : Bool :=
  match j.strip with
  | none => false
  | some (bus, n) =>
    let need := libNeeds j.program
    j.deferrable || j.phase3 != bus || !(programOf bus j.program) || (isPair j.program && n % 2 == 1) ||
      decide (nprog < j.entry + need.1) || decide (j.xLen < need.2.1) || decide (j.yLen < need.2.2.1) ||
      !(j.regions.any (fun r => r.dram && r.write && r.delay && decide (need.2.2.2 ≤ r.len)))

/-- The job number that R232 allots. -/
def numberOk (j : Job) : Bool :=
  match j.strip with
  | some (false, n) => j.num == n && decide (n < 0x400)
  | some (true, n) => j.num == 0x400 + n && decide (n < 0x200)
  | none => decide (0x600 ≤ j.num)

/-- Two jobs' code ranges overlap, other than shared library code (R233): the range of a strip job is that of its
program, that of another job its entry (log entry 16). -/
def codeClash (a b : Job) : Bool :=
  let n (j : Job) : Nat := if j.strip.isSome then (libNeeds j.program).1 else 1
  (a.strip.isSome || b.strip.isSome) && overlap a.entry (n a) b.entry (n b) &&
    !(a.strip.isSome && b.strip.isSome && a.program == b.program && a.entry == b.entry)

/-- Two jobs of one core take the same memory. -/
def memoryClash (a b : Job) : Bool :=
  overlap a.xAt a.xLen b.xAt b.xLen || overlap a.yAt a.yLen b.yAt b.yLen || codeClash a b

/-- R224: a loop with an empty body, an end beyond the program, or an end that is END or a branch. -/
def loopBad (prog : List DspWord) (at_ body : Nat) : Bool :=
  body == 0 || decide (prog.length ≤ at_ + body) ||
    (match decodeDsp (prog.getD (at_ + body) 0) with
      | some .endJob => true
      | some (.jmp _ _) => true
      | some (.call _ _) => true
      | some (.ret _) => true
      | some (.loop _ _) => true
      | some (.loopv _ _) => true
      | some (.leave _) => true
      | _ => false)

/-- The first word of a program that breaks R224. -/
def programBad (prog : List DspWord) : Option Nat :=
  firstBad (fun e => match decodeDsp e.1 with
    | some (.loop _ n) => loopBad prog e.2 n.toNat
    | some (.loopv _ n) => loopBad prog e.2 n.toNat
    | _ => false) (·.2) prog.zipIdx

/-- The X pointers that FTAP forms of a program name (R173). -/
def tapPointers (prog : List DspWord) : List Nat :=
  prog.flatMap (fun w => match decodeDsp w with
    | some (.f1 ⟨a, b, .ftap pa pb _ _ _ _⟩) => (if slotTap a then [pa.val] else []) ++ (if slotTap b then [pb.val] else [])
    | _ => [])

/-- The word that initialisation runs leave at a place; 0 where no run names it (R230). -/
def runWord (runs : List (Nat × List Word)) (w : Nat) : Word :=
  runs.foldl (fun v r => if r.1 ≤ w ∧ w < r.1 + r.2.length then r.2.getD (w - r.1) 0 else v) 0

/-- Halfword `h` of a job's context block (R171). -/
def contextHalf (runs : List (Nat × List Word)) (j : Job) (h : Nat) : Nat :=
  (runWord runs (j.xAt + h / 2)).toNat / (if h % 2 = 1 then 65536 else 1) % 65536

/-- A context block breaks R173 for a pointer of the list. -/
def contextBad (x : Section) (taps : List Nat) (j : Job) : Bool :=
  taps.any (fun p =>
    let l := contextHalf x.xRuns j (16 + p)
    l != 0 && (l % 8 != 0 || contextHalf x.xRuns j (24 + p) % 8 != 0))

/-- A byte of the region may be written by one job and touched by another (R182). -/
def regionClash (a b : Region) : Bool := a.dram == b.dram && (a.write || b.write) && overlap a.base a.len b.base b.len
def regionsClash (a b : Job) : Bool := a.regions.any (fun r => b.regions.any (regionClash r))

/-- A cluster store region leaves the job regions of R163. -/
def storeBad (j : Job) : Bool := j.regions.any (fun r => !r.dram && decide (0x300000 < r.base + r.len))

/-- Tray entries of one core: job inputs and outputs with their offsets (R178). -/
def trayClash (b : Nat) (x : Section) : Option Nat :=
  match firstClash (fun p q => overlap p.1 b q.1 b) (·.2) [] (x.jobs.flatMap (fun j => j.ins.map (fun i => (i.off, j.at_)))) with
  | some p => some p
  | none => firstClash (fun p q => overlap p.1 b q.1 b) (·.2) [] (x.jobs.flatMap (fun j => j.outs.map (fun o => (o.off, j.at_))))

/-- A tray size that is no multiple of 256, trays that are too large, or an offset that leaves its half. -/
def traysBad (b : Nat) (x : Section) : Bool :=
  decide (16384 < 2 * (x.tin + x.tout)) || x.tin % 256 != 0 || x.tout % 256 != 0 ||
    x.jobs.any (fun j => j.ins.any (fun i => decide (x.tin < i.off + b)) || j.outs.any (fun o => decide (x.tout < o.off + b)))

/-- The output indices that user jobs of a list name that are deferrable (R56). -/
def deferredOuts (js : List Job) : List Nat := (js.filter (·.deferrable)).flatMap (fun j => j.outs.map (·.idx))

/-- A job that is not deferrable reads a deferrable job's output (R56). -/
def readsDeferred (outs : List Nat) (j : Job) : Bool :=
  !j.deferrable && j.ins.any (fun i => match i.sig with
    | none => false
    | some a => sigKind a.toNat == 5 && outs.contains (sigIndex a.toNat))

/-- All jobs of an image. -/
def Image.jobs (im : Image) : List Job := im.sections.flatMap (·.jobs)

/-- Job numbers, output indices or input numbers that repeat between two jobs. -/
def namesClash (a b : Job) : Bool :=
  a.num == b.num || a.outs.any (fun o => b.outs.any (fun q => o.idx == q.idx)) ||
    a.ins.any (fun i => i.sig.isNone && b.ins.any (fun q => q.sig.isNone && i.num == q.num))

/-- A job's own names repeat, or are reserved (R131, R232). -/
def namesBad (j : Job) : Bool :=
  !(numberOk j) || j.outs.any (fun o => decide (1048576 ≤ o.idx)) || !decide ((j.outs.map (·.idx)).Nodup) ||
    !decide (((j.ins.filter (·.sig.isNone)).map (·.num)).Nodup)

/-- A signal or strip of a job that the variant lacks (R24). -/
def State.jobAbsent (s : State) (j : Job) : Bool :=
  j.ins.any (fun i => match i.sig with
    | none => false
    | some a => decide (s.sigStatus a.toNat = .notPresent)) ||
  (match j.strip with
    | none => false
    | some (bus, n) => decide (stripCount s.variant bus ≤ n + (if isPair j.program then 1 else 0)))

/-- A signal of a job that names no kind of R12. -/
def State.jobSigBad (s : State) (j : Job) : Bool :=
  j.ins.any (fun i => match i.sig with
    | none => false
    | some a => decide (s.sigStatus a.toNat = .outOfRange))

/-- A failed check, if its place is known. -/
def failAt (st : Status) (p : Option Nat) : Option ImgError := p.map (fun x => (st, x))

/-- The first place over the sections of an image. -/
def overSections (im : Image) (f : Section → Option Nat) : Option Nat := im.sections.findSome? f

/-- The checks of R235 on the image whose form is right, written to `img_data` of cluster c, in the order of its table. The
first failing item is that of the first row that fails, and in it the first in the image (DESIGN CHOICE, log entry 95). -/
def State.imageChecks (s : State) (c : Nat) (im : Image) : List (Option ImgError) :=
  let js := im.jobs
  let place (j : Job) : Nat := j.at_
  let fs := fsHz im.fs
  [ failAt .outOfRange (firstBad s.jobSigBad place js),
    if s.variant.clusters ≤ im.cluster then some (.notPresent, 16) else none,
    failAt .notPresent (firstBad s.jobAbsent place js),
    if im.cluster ≠ c then some (.outOfRange, 16) else none,
    if 9 * (im.b * 1000000000 / fs) < 10 * im.path then some (.outOfRange, 20) else none,
    failAt .outOfRange (firstBad (traysBad im.b) (·.at_) im.sections),
    failAt .outOfRange (overSections im (fun x =>
      firstBad (fun j => decide (32768 - 2 * (x.tin + x.tout) < j.xAt + j.xLen)) place x.jobs)),
    failAt .outOfRange (overSections im (fun x => firstClash memoryClash place [] x.jobs)),
    failAt .outOfRange (overSections im (fun x => firstBad (fun j => decide (32768 < j.yAt + j.yLen)) place x.jobs)),
    failAt .outOfRange (overSections im (fun x =>
      if (x.xRuns ++ x.yRuns).any (fun r => decide (32768 < r.1 + r.2.length)) then some x.at_ else none)),
    failAt .outOfRange (overSections im (trayClash im.b)),
    failAt .outOfRange (overSections im (fun x => firstBad (fun j => decide (x.program.length ≤ j.entry)) place x.jobs)),
    failAt .outOfRange (overSections im (fun x => (programBad x.program).map (fun p => x.at_ + 24 + 8 * p))),
    failAt .outOfRange (overSections im (fun x => firstBad (contextBad x (tapPointers x.program)) place x.jobs)),
    failAt .outOfRange (firstBad storeBad place js),
    failAt .outOfRange (firstClash regionsClash place [] js),
    failAt .outOfRange (firstBad namesBad place js),
    failAt .outOfRange (firstClash namesClash place [] js),
    failAt .outOfRange (overSections im (fun x => firstBad (stripJobBad x.program.length) place x.jobs)),
    failAt .outOfRange (firstBad (fun j => decide ((j.morphBudget ≠ 0) ≠ (j.morphable = true))) place js),
    failAt .outOfRange (firstBad (readsDeferred (deferredOuts js)) place js) ]

/-- The first failed check of a value written to `img_data` of cluster c, or none. -/
def State.imageStatus (s : State) (c : Nat) (b : List Byte) : Option ImgError :=
  if b = [] then none
  else match parseImage b with
    | .error p => some (.outOfRange, p)
    | .ok im => (s.imageChecks c im).findSome? id

/-- The image staged for cluster c. -/
def State.staged (s : State) (c : Nat) : Option Image :=
  match parseImage (s.val (El.imgData c)).toBytes with
  | .error _ => none
  | .ok im => some im

/-! ### Checks at the activation (R41, R56, R236) -/

/-- The jobs of the images in effect on the other clusters. -/
def State.otherJobs (s : State) (c : Nat) : List Job :=
  (s.allJobs.filter (fun e => e.1 ≠ c)).map (·.2.2.2)

/-- A unit out of service that an image names (R598). -/
def State.jobOut (s : State) (j : Job) : Bool :=
  j.ins.any (fun i => match i.sig with
    | none => false
    | some a => decide (s.sigStatus a.toNat = .wrongState)) ||
  (match j.strip with
    | none => false
    | some (bus, n) => decide (s.unitStatus (n + (if isPair j.program then 1 else 0)) (stripCount s.variant bus) = .wrongState))

/-- Whether a source pigeonhole names an output that the image makes deferrable. -/
def State.holeDeferred (s : State) (outs : List Nat) : Bool :=
  (List.range s.variant.sources).any (fun p =>
    let a := s.nat (El.srcSignal p)
    sigKind a == 5 && outs.contains (sigIndex a))

/-- Regions in DRAM of two images clash (R182); each cluster has its own store. -/
def dramClash (a b : Job) : Bool := regionsClash { a with regions := a.regions.filter (·.dram) } b

/-- The status of a write of 1 to `img_activate` of cluster c (R236): first what the state forbids, then the checks
that span jobs. -/
def State.activateStatus (s : State) (c : Nat) : Status :=
  match s.staged c with
  | none => .wrongState
  | some im =>
    let js := im.jobs
    let others := s.otherJobs c
    if js.any (fun j => others.any (fun o => namesClash o j || dramClash o j)) ||
        js.any (readsDeferred (deferredOuts (js ++ others))) || others.any (readsDeferred (deferredOuts js)) ||
        s.holeDeferred (deferredOuts js) then .outOfRange
    else if s.nat (El.imgState c) = 0 ∨ s.domainUp (2 + c) = false ∨ js.any s.jobOut then .wrongState
    else if s.roundsRun ∧ (im.fs ≠ s.nat El.fsInt ∨ im.b ≠ s.roundB) then .wrongState
    else .ok

end Sys2Proof.Machine
end

