-- ==== Sys2Proof/Machine/Memory.lean ====
section
/-! DEFINITION. DRAM: capacity, the map of the user area, its bytes, and the writes of area 0B (R438 to R444, R469 to
R473). -/

namespace Sys2Proof.Machine

/-! ### Capacity and map (R440 to R443) -/

/-- Data bytes of a channel: 15/16 of its capacity. -/
def State.chanBytes (s : State) : Nat := s.mem.devices * 2 ^ 30 * 15 / 16
/-- Bytes of the user part of a channel. -/
def State.userPart (s : State) : Nat := s.chanBytes * (8 - s.nat El.dramEngineSegs) / 8
/-- U, the bytes of the user area (R441). -/
def State.userSize (s : State) : Nat := s.variant.dramChannels * s.userPart

/-- Bytes of a size in MB. -/
def megabytes (n : Nat) : Nat := n * 2 ^ 20

/-- A map region: first byte, size, grain in bytes (0: single channel), channel, and what earlier regions take from
each channel (R442). -/
structure MapRegion where
  base : Nat
  size : Nat
  grain : Nat
  chan : Nat
  taken : List Nat
deriving DecidableEq, Repr

/-- The bytes that a region takes from channel ch. -/
def MapRegion.takes (r : MapRegion) (n ch : Nat) : Nat :=
  if r.grain = 0 then (if r.chan = ch then r.size else 0) else r.size / n

/-- The size of region r in bytes: 0xFFFF_FFFF is the rest of U, rounded down to 64 MB (R443). -/
def State.regionSize (s : State) (r base : Nat) : Nat :=
  let v := s.nat (El.dmSize r)
  if v = 0xFFFFFFFF then (s.userSize - base) / megabytes 64 * megabytes 64 else megabytes v

/-- The regions from region r on. -/
def State.mapFrom (s : State) : Nat → Nat → Nat → List Nat → List MapRegion
  | 0, _, _, _ => []
  | n + 1, r, base, taken =>
    let size := s.regionSize r base
    if size = 0 then []
    else
      let g := s.nat (El.dmGrain r)
      let x : MapRegion := ⟨base, size, if g = 0 then 0 else 2 ^ (7 + g), s.nat (El.dmChannel r), taken⟩
      let k := s.variant.dramChannels
      x :: s.mapFrom n (r + 1) (base + size) (taken.zipIdx.map (fun e => e.1 + x.takes k e.2))

/-- The map regions in force (R442). -/
def State.dramMap (s : State) : List MapRegion := s.mapFrom 16 0 0 (List.replicate s.variant.dramChannels 0)

/-- The end of the last mapped region (R441). -/
def State.mappedEnd (s : State) : Nat := s.dramMap.foldl (fun _ r => r.base + r.size) 0

/-- Channel and offset in the channel of a user area byte (R443). -/
def State.placeOf (s : State) (a : Nat) : Option (Nat × Nat) :=
  (s.dramMap.find? (fun r => decide (r.base ≤ a) && decide (a < r.base + r.size))).map (fun r =>
    let o := a - r.base
    if r.grain = 0 then (r.chan, r.taken.getD r.chan 0 + o)
    else
      let i := o / r.grain
      let n := s.variant.dramChannels
      (i % n, r.taken.getD (i % n) 0 + i / n * r.grain + o % r.grain))

/-- Whether the map may stand (R443, R444): no channel's user part is exceeded, no absent channel is named, and
"all that remains" stands last. -/
def State.mapOk (s : State) : Bool :=
  let m := s.dramMap
  let n := s.variant.dramChannels
  m.all (fun r => decide (r.grain ≠ 0) || decide (r.chan < n)) &&
    (List.range n).all (fun ch => decide ((m.map (fun r => r.takes n ch)).sum ≤ s.userPart)) &&
    (List.range 15).all (fun r => decide (s.nat (El.dmSize r) ≠ 0xFFFFFFFF) || decide (s.nat (El.dmSize (r + 1)) = 0))

/-! ### Bytes -/

/-- The canonical form of a byte memory: strictly rising addresses, and no entry that holds the 0 of an unlisted byte. -/
def Memory.wf (m : List Host.Cell) : Bool := Tab.wf (fun _ => 0) m

/-- `n` bytes of the user area from byte a; a byte that belongs to no memory reads 0 (R441, R465). -/
def State.dramRead (s : State) (a n : Nat) : List Byte := (List.range n).map (fun i => Tab.get 0 s.mem.dram (a + i))

/-- Write bytes of the user area from byte a; a byte beyond the mapped space is discarded (R441). -/
def writeCells (m : List Host.Cell) (a : Nat) : List Byte → List Host.Cell
  | [] => m
  | b :: l => writeCells (Tab.put 0 m a b) (a + 1) l
def State.dramWrite (s : State) (a : Nat) (b : List Byte) : State :=
  { s with mem := { s.mem with dram := writeCells s.mem.dram a (b.take (s.mappedEnd - a)) } }

/-- The user area is cleared (R444). -/
def State.dramClear (s : State) : State := { s with mem := { s.mem with dram := [], mapDirty := false } }

/-! ### Channels -/

/-- A controller with nothing in it. -/
def Chan.fresh : Chan := ⟨[], [], [], [], [], [], false, [], [], 0, 0, false, []⟩
def State.chan (s : State) (ch : Nat) : Chan := Tab.get Chan.fresh s.mem.chans ch
def State.setChan (s : State) (ch : Nat) (x : Chan) : State :=
  { s with mem := { s.mem with chans := Tab.put Chan.fresh s.mem.chans ch x } }

/-- The counts of rows that a channel reports (R470). -/
def State.showChan (s : State) (ch : Nat) : State :=
  let x := s.chan ch
  (s.setN (El.dcRedirects ch) (x.entries.length + x.forGood.length)).setN (El.dcWaiting ch) x.waiting.length

/-! ### Health (R487) -/

/-- The penalty of each bit of `tw_penalties` (R487). -/
def penaltyOf : Nat → Nat
  | 0 => 4 | 1 => 4 | 2 => 2 | 3 => 2 | _ => 1

/-- Whether penalty b is held: its condition held within the last 10 s. -/
def State.penaltyHeld (s : State) (b : Nat) : Bool := decide (Tab.get 0 s.twin.penaltyAt b ≠ 0)

/-- `tw_penalties` and `tw_health`. -/
def State.showHealth (s : State) : State :=
  let held := (List.range 5).filter s.penaltyHeld
  (s.setN El.twPenalties (held.map (fun b => 2 ^ b)).sum).setN El.twHealth (max 2 (15 - (held.map penaltyOf).sum))

/-- The condition of penalty b holds now. -/
def State.notePenalty (s : State) (b : Nat) : State :=
  ({ s with twin := { s.twin with penaltyAt := Tab.put 0 s.twin.penaltyAt b (s.time.tick + 1) } } : State).showHealth

/-- The claim number (R486). -/
def State.claim (s : State) : Nat := s.nat El.twRank * 4096 + s.nat El.twHealth * 256 + s.nat El.engineNumber % 256

/-! ### Errors and rows (R453 to R455) -/

/-- A row is queued for retirement. -/
def State.queueRow (s : State) (ch row : Nat) : State :=
  let x := s.chan ch
  if x.waiting.contains row ∨ x.copied.contains row ∨ x.entries.contains row ∨ x.forGood.contains row then s
  else (s.setChan ch { x with waiting := x.waiting ++ [row] }).showChan ch

/-- A corrected error in a row: it counts, and the row is queued at `dram_ce_limit` within 24 h. -/
def State.correctedError (s : State) (ch row : Nat) : State :=
  let x := s.chan ch
  let e := Tab.get (0, 0) x.ceRows row
  let f := if e.1 = 0 ∨ e.2 + 86400000000000 < s.time.tick then (1, s.time.tick) else (e.1 + 1, e.2)
  let s1 := (s.inc (El.dcCe ch)).setChan ch { x with ceRows := Tab.put (0, 0) x.ceRows row f }
  if s.nat El.dramCeLimit ≤ f.1 then s1.queueRow ch row else s1

/-- An uncorrectable error in the block at user area byte a, if the row holds one of the user area. -/
def State.lostBlock (s : State) (ch row : Nat) (a : Option Nat) : State :=
  let x := s.chan ch
  let bad := match a with
    | none => x.bad
    | some b => if x.bad.any (fun e => e.1 = b / 64 * 64) then x.bad else (b / 64 * 64, row) :: x.bad
  (((s.inc (El.dcUe ch)).setChan ch { x with bad := bad }).queueRow ch row).notePenalty 1

/-- Whether a range of the user area holds a block with an uncorrectable error. -/
def Chan.lost (x : Chan) (a n : Nat) : Bool := x.bad.any (fun e => overlap e.1 64 a n)

/-- Bytes of the user area with the blocks that cannot be corrected as exact zero. -/
def State.dramReadZeroed (s : State) (x : Chan) (a n : Nat) : List Byte :=
  (s.dramRead a n).zipIdx.map (fun e => if x.lost (a + e.2) 1 then 0 else e.1)

/-- The DRAM domain of a channel. -/
def dramDomain (ch : Nat) : Nat := if ch < 2 then 0x0B else 0x0C
/-- Whether a controller runs: present, its domain up, not in self-refresh. -/
def State.chanRuns (s : State) (ch : Nat) : Bool :=
  decide (ch < s.variant.dramChannels) && s.domainUp (dramDomain ch) && !(s.chan ch).selfRefresh

/-! ### Accesses by class (R180, R309, R445, R454) -/

/-- The rank of a class, highest first. -/
def classRank : DramClass → Nat
  | .express => 0 | .first => 1 | .second => 2 | .bulk => 3

/-- Bytes that requests of a class moved on a channel count for the last second (R470). -/
def State.noteFlow (s : State) (ch : Nat) (cls : DramClass) (n : Nat) : State :=
  { s with mem := { s.mem with
    moved := (s.time.tick, ch, classRank cls, n) :: s.mem.moved.filter (fun e => decide (s.time.tick < e.1 + 1000000000)) } }

/-- A request of a class moves bytes of the engine area: holding boxes, in-trays held during lag, packet buffers, arming and staging
(R440, R445). -/
def State.noteEngine (s : State) (cls : DramClass) (a n : Nat) : State := s.noteFlow (Config.engineChan a % s.variant.dramChannels) cls n

/-- The channel in which a range of the user area holds a block that cannot be corrected, and that block. -/
def State.lostIn (s : State) (a n : Nat) : Option (Nat × Nat) :=
  (List.range s.variant.dramChannels).findSome? (fun ch => ((s.chan ch).bad.find? (fun e => overlap e.1 64 a n)).map (fun e => (ch, e.1)))

/-- A read of `n` bytes of the user area in a class: what it delivers, or none where the operation that it serves fails
(R454). A byte that belongs to no memory reads 0 (R441). -/
def State.dramFetch (s : State) (cls : DramClass) (a n : Nat) : State × Option (List Byte) :=
  match s.placeOf a with
  | none => (s, some (s.dramRead a n))
  | some p =>
    let s1 := s.noteFlow p.1 cls n
    match s1.lostIn a n with
    | none => (s1, some (s1.dramRead a n))
    | some e =>
      let s2 := s1.lostBlock e.1 (Config.rowOf e.1 p.2) (some e.2)
      (s2, if classRank cls ≤ 1 then
          some ((s2.dramRead a n).zipIdx.map (fun b => if (s2.lostIn (a + b.2) 1).isSome then 0 else b.1))
        else none)

/-- A write of bytes of the user area in a class: a block that it covers whole is good again (R453). -/
def State.dramStore (s : State) (cls : DramClass) (a : Nat) (b : List Byte) : State :=
  let s1 := match s.placeOf a with
    | none => s
    | some p => s.noteFlow p.1 cls b.length
  let mend (k : State) (ch : Nat) : State :=
    let x := k.chan ch
    if x.bad = [] then k else k.setChan ch { x with bad := x.bad.filter (fun e => !(decide (a ≤ e.1) && decide (e.1 + 64 ≤ a + b.length))) }
  ((List.range s.variant.dramChannels).foldl mend s1).dramWrite a b

/-- Bytes per second that a channel moves at the rate of this boot, inline ECC taken off (R439, R469). -/
def State.chanRate (s : State) : Nat := s.mem.rate * 1000000 * 4 * 15 / 16

/-- Share of the data rate that the requests of a class took over the last second, in percent (R470). -/
def State.classLoad (s : State) (ch rank : Nat) : Nat :=
  let n := ((s.mem.moved.filter (fun e => e.2.1 == ch && e.2.2.1 == rank && decide (s.time.tick < e.1 + 1000000000))).map (fun e => e.2.2.2)).sum
  100 * n / max 1 s.chanRate

/-! ### Writes of area 0B -/

/-- The counters of a channel. -/
def dcCounters (ch : Nat) : List Nat := [El.dcCe ch, El.dcUe ch, El.dcPromoted ch, El.dcRetrains ch, El.dcRepaired ch]

/-- The value of a write in area 0B (R471, R472). -/
def State.memValue (s : State) (a : Nat) (v : Val) : Status :=
  let o := objectOf a
  let e := elementOf a
  if 0x100 ≤ o ∧ o < 0x110 ∧ e = 0 then
    (if v.toNat % 64 = 0 ∨ v.toNat = 0xFFFFFFFF then .ok else .outOfRange)
  else if o = 0x200 ∧ e = 0 then (if s.userSize ≤ v.toNat then .outOfRange else .ok)
  else if o = 0x200 ∧ e = 1 then
    let n := v.toBytes.length
    (if n = 0 ∨ 65536 < n ∨ s.mappedEnd < s.nat El.dramWinAddr + n then .outOfRange else .ok)
  else .ok

/-- The mask of the top E segments (R440, R452). -/
def engineMask (e : Nat) : Nat := 256 - 2 ^ (8 - e)

/-- A write in area 0B applies (R444, R469, R472, R473). -/
def State.applyMem (s : State) (a : Nat) (v : Val) : State :=
  let o := objectOf a
  if a = El.dramEngineSegs then
    let s1 : State := { (s.setV a v).setN El.dramRetain (engineMask v.toNat) with mem := { s.mem with mapDirty := true } }
    if s.nat El.dramUserSize = 0 then s1 else s1.setN El.dramUserSize s1.userSize
  else if 0x100 ≤ o ∧ o < 0x110 then { (s.setV a v) with mem := { s.mem with mapDirty := true } }
  else if a = El.dramWinData then s.dramStore .bulk (s.nat El.dramWinAddr) v.toBytes
  else if a = El.dramClear then (if v.toNat = 1 then s.setAll ((List.range 4).flatMap dcCounters) 0 else s)
  else if a = El.sramClear then
    (if v.toNat = 1 then s.setAll [El.bistRegions, El.sramCe, El.fabDecodeErr, El.fabDenied] 0 else s)
  else s.setV a v

end Sys2Proof.Machine
end

