-- ==== Sys2Proof/Machine/Cluster.lean ====
section
/-! DEFINITION. The DSP clusters: images in effect, jobs and trays, DMA, audits and the relief core, and the writes of
area 1D (R162, R171, R177 to R182, R190 to R202, R234 to R239). -/

namespace Sys2Proof.Machine

/-! ### Core memories -/

/-- A table of words from a list, from key `w` on; zeros stay unlisted. -/
def putWords (t : Tab Word) (w : Nat) : List Word → Tab Word
  | [] => t
  | x :: l => putWords (Tab.put 0 t w x) (w + 1) l

/-- The memory that initialisation runs leave (R230). -/
def runsMem (runs : List (Nat × List Word)) : Tab Word := runs.foldl (fun t r => putWords t r.1 r.2) []

/-- A program memory from address 0 on. -/
def progMem (p : List DspWord) : Tab DspWord := (p.zipIdx.filter (fun e => e.1 ≠ 0)).map (fun e => (e.2, e.1))

/-- The library code and the regions that the loader lays down for the strip jobs of a section (R233). -/
def Section.libs (x : Section) : List Lib :=
  (x.jobs.filter (·.strip.isSome)).map (fun j => ⟨j.program, j.entry, j.xAt, j.xLen, j.yAt, j.yLen⟩)

/-- A core as the loader leaves it for a section (R230, R233): the image's words, but in the regions of strip jobs what the
loader lays down there. -/
def Core.loaded (x : Section) : Core :=
  let l := x.libs
  let outside (at_ len : Lib → Nat) (e : Nat × Word) : Bool := !(l.any (fun b => decide (at_ b ≤ e.1) && decide (e.1 < at_ b + len b)))
  { Core.cleared with
    x := (runsMem x.xRuns).filter (outside Lib.xAt Lib.xLen)
    y := (runsMem x.yRuns).filter (outside Lib.yAt Lib.yLen)
    prog := progMem x.program, libs := l }

/-- A word of program memory: library code where the loader laid it down (R233). -/
def Core.progWord (k : Core) (w : Nat) : DspWord :=
  match k.libs.find? (fun l => decide (l.entry ≤ w) && decide (w < l.entry + (libNeeds l.program).1)) with
  | some l => Config.libCode l.program (w - l.entry)
  | none => Tab.get 0 k.prog w

/-- The service core that the relief core carries, if any (R195, R201). -/
def State.carried (s : State) (c : Nat) : Option Nat :=
  if s.nat (El.clReliefState c) = 2 then some (s.nat (El.coreCarries c 8)) else none

/-- The loader fills the core memories from the image in effect (R230, R237): a core with no section is cleared, and a
relief core that carries a retired core takes that core's section. -/
def State.loadCores (s : State) (c : Nat) : State :=
  let s1 := (List.range 9).foldl (fun (k : State) j => k.setCore c j Core.cleared) s
  match (s.cluster c).image with
  | none => s1
  | some im => im.sections.foldl (fun k x =>
      let k1 := k.setCore c x.core (Core.loaded x)
      if s.carried c = some x.core then k1.setCore c 8 (Core.loaded x) else k1) s1

/-! ### The operating point (R50, R424, R425) -/

/-- DSP clock of a point, MHz. -/
def pointMHz : Nat → Nat
  | 0 => 600 | 1 => 750 | 2 => 900 | _ => 1000

/-- Whether every planned path fits 90 % of the round at a point (R425, R50). -/
def State.pathsFit (s : State) (pt : Nat) : Bool :=
  (List.range s.variant.clusters).all (fun c => match (s.cluster c).image with
    | none => true
    | some im => decide (10 * im.path ≤ 9 * (s.roundB * pointMHz pt * 1000000 / s.fs)))

/-- The supply voltage of a point, mV (R424). -/
def pointMv : Nat → Nat
  | 0 => 650 | 1 => 700 | 2 => 750 | _ => 800

/-- The word of VOUT_COMMAND for a point, in LINEAR16 with the exponent of VOUT_MODE (R427; log entry 114). -/
def voutWord (pt : Nat) : Nat := (2 * pointMv pt * 2 ^ Config.voutExponent + 1000) / 2000 % 65536

/-- The sequencer commands the voltage of a point: on the VID pins, or by VOUT_COMMAND, 0x21, over PMBus to `dvfs_pmbus_addr`
(R427). -/
def State.commandVolt (s : State) (pt : Nat) : State :=
  { s with refs := { s.refs with
    vout := pointMv pt
    vid := if s.nat El.dvfsIf = 0 then pt else s.refs.vid
    pmbus := if s.nat El.dvfsIf = 1 then some (s.nat El.dvfsPmbusAddr, 0x21, voutWord pt) else s.refs.pmbus } }

/-- The lowest point from `pt` up at which every planned path fits; point 3 where none does (R50, R425). -/
def State.fitFrom (s : State) (pt : Nat) : Nat := ((List.range 4).find? (fun p => decide (pt ≤ p) && s.pathsFit p)).getD 3

/-- A path that takes effect may exceed 90 % of the round at the present point, which the sequencer may then never use (R50,
R425): the point moves up at that boundary (log entry 81). -/
def State.fitPoint (s : State) : State :=
  let pt := s.fitFrom (s.nat El.dvfsPoint)
  if s.nat El.dvfsState ≠ 0 ∨ pt = s.nat El.dvfsPoint then s
  else
    let s1 := s.commandVolt pt
    (({ s1 with refs := { s1.refs with raise := none, lowSince := s.time.tick } } : State).setN El.dvfsPoint pt).inc El.dvfsChanges

/-! ### Images take effect (R234, R237) -/

/-- The status elements of a job. -/
def jobElems (c j pos : Nat) : List Nat :=
  [El.jobNumber c j pos, El.jobFlags c j pos, El.jobBudget c j pos, El.jobCycles c j pos, El.jobCyclesMax c j pos,
    El.jobState c j pos, El.jobException c j pos, El.jobExcPc c j pos, El.jobOverflowRounds c j pos]

/-- The jobs of an image: core, position and descriptor. -/
def Image.placed (im : Image) : List (Nat × Nat × Job) :=
  im.sections.flatMap (fun x => x.jobs.zipIdx.map (fun e => (x.core, e.2, e.1)))

/-- `job_flags` (R239). -/
def Job.flags (j : Job) : Nat :=
  (if j.phase3 then 1 else 0) + (if j.deferrable then 2 else 0) + (if j.morphable then 4 else 0) +
    (if j.strip.isSome then 8 else 0)

/-- The job objects of an image in effect (R239). -/
def State.showJob (s : State) (c : Nat) (e : Nat × Nat × Job) : State :=
  (((s.setN (El.jobNumber c e.1 e.2.1) e.2.2.num).setN (El.jobFlags c e.1 e.2.1) e.2.2.flags).setN
    (El.jobBudget c e.1 e.2.1) e.2.2.budget).setN (El.jobState c e.1 e.2.1) 1

/-- A strip whose job is loaded starts afresh: its ramps and morphs end at their targets, and every filter, delay and dynamics
state restarts (R233, R237). The choice between primary and backup is the strip's, not the job's, and stays. -/
def State.settleStrip (s : State) (bus : Bool) (n : Nat) : State :=
  let x := s.strip bus n
  s.setStrip bus n { StripRun.fresh with prepared := x.prepared, onBackup := x.onBackup, lost := x.lost, backupAt := x.backupAt }

/-- The strips that a job runs. -/
def Job.strips (j : Job) : List (Bool × Nat) :=
  match j.strip with
  | none => []
  | some (bus, n) => (bus, n) :: (if isPair j.program then [(bus, n + 1)] else [])

/-- A strip that no image in effect names does not run: `running` reads 0 (R234). -/
def State.restStrip (s : State) (bus : Bool) (n : Nat) : State :=
  (s.setStrip bus n { s.strip bus n with ran := false }).setN (El.stStatus bus n) (s.nat (El.stStatus bus n) / 2 * 2)

/-- A strip job sets the program of its strip (R234), whose ramps and morphs end (R237). -/
def State.bindStrip (s : State) (j : Job) : State :=
  match j.strip with
  | none => s
  | some (bus, n) =>
    let s1 := if s.nat (El.stProgram bus n) = j.program then s else s.applyProgram bus n j.program
    let s2 := s1.settleStrip bus n
    if isPair j.program then s2.settleStrip bus (n + 1) else s2

/-- The rounds that a load takes: ⌈0.0004 × Fs_int / B⌉ (R237). -/
def State.loadRounds (s : State) : Nat := ceilDiv (4 * s.fs) (10000 * s.roundB)

/-- What an audit of cluster c leaves once it is over or skipped. -/
def Cluster.auditOver (x : Cluster) : Cluster :=
  { x with auditing := false, auditRound := none, audited := none, replay := [], replayTop := 0, sent := [], resent := [] }

/-- The service core after j in the order of R193. -/
def nextCore (j : Nat) : Nat := (j + 1) % 8

/-- An audit in progress is skipped, and the next core is taken (R193). -/
def State.skipAudit (s : State) (c : Nat) : State :=
  let x := s.cluster c
  if x.auditing = false then s
  else (s.setCluster c { x.auditOver with auditCore := nextCore x.auditCore }).inc (El.clAuditsSkipped c)

/-- The activation of cluster c takes the image that is staged now (R237). -/
def State.captureImage (s : State) (c : Nat) : State :=
  (s.noteEngine .bulk c (s.val (El.imgData c)).toBytes.length).setCluster c { s.cluster c with taken := s.staged c }

/-- The image of an accepted activation of cluster c, captured then, takes effect at the boundary into round k (R234, R237): its
jobs and strips show, an audit in progress is skipped, and the loader starts. -/
def State.takeImage (s : State) (c k : Nat) : State :=
  match (s.cluster c).taken.orElse (fun _ => s.staged c) with
  | none => s
  | some im =>
    let old := match (s.cluster c).image with
      | none => []
      | some o => o.placed
    let s1 := old.foldl (fun q e => (q.setAll (jobElems c e.1 e.2.1) 0)) (s.skipAudit c)
    let s2 := (old.flatMap (fun e => e.2.2.strips)).foldl (fun q e => q.restStrip e.1 e.2) s1
    let s3 := im.placed.foldl (fun q e => q.showJob c e) s2
    let s4 := im.jobs.foldl (fun q j => q.bindStrip j) s3
    let s5 := (List.range 9).foldl (fun q j => q.setN (El.coreHalted c j) 0) s4
    let s6 := (if s.staged c = some im then s5.setN (El.imgState c) 2 else s5).setN (El.imgActiveCrc c) im.crc
    let s7 := (s6.setN (El.imgPath c) im.path).setN (El.imgRate c) (im.fs + 256 * im.b)
    State.fitPoint <| s7.setCluster c { s7.cluster c with
      image := some im
      taken := none
      loadFrom := k
      loadUntil := k + s.loadRounds
      loading := true
      dma := []
      auditNext := none
      guardAt := [] }

/-- The load is done (R237): the new jobs run from the image's state. -/
def State.finishLoad (s : State) (c : Nat) : State :=
  (s.loadCores c).setCluster c { (s.loadCores c).cluster c with loading := false }

/-- The image takes effect at once, with the core memories loaded, where no rounds run (R237). -/
def State.takeImageNow (s : State) (c : Nat) : State := (s.takeImage c 0).finishLoad c

/-- Whether cluster c runs jobs in round k (R237). -/
def State.clusterRuns (s : State) (c k : Nat) : Bool :=
  let x := s.cluster c
  s.clusterUp c && x.image.isSome && !(x.loading && decide (x.loadFrom ≤ s.lineUp k))

/-! ### Jobs and trays (R162, R171, R177 to R179) -/

/-- The round to be computed next, or being computed. -/
def State.workRound (s : State) : Nat := s.rounds.current.getD s.rounds.nextRound

/-- Whether a core runs a schedule: a service core in service, or a relief core that audits or carries one. -/
def State.coreRuns (s : State) (c j : Nat) : Bool :=
  if j = 8 then (s.carried c).isSome || s.inAudit c j else decide (s.nat (El.coreState c j) = 0)

/-- The service core whose schedule core j of cluster c runs: on the relief core, the one that it audits or carries. -/
def State.scheduleOf (s : State) (c j : Nat) : Nat :=
  if j ≠ 8 then j else if s.inAudit c j then (s.cluster c).auditCore else (s.carried c).getD 8

/-- Phases 1 and 3 are open for jobs while the phase before is complete (R15, R44). -/
def State.phaseOpen (s : State) (phase3 : Bool) : Bool := decide (s.rounds.phase = if phase3 then 2 else 0)

/-- Whether every job before `pos` of the same phase is done for the round (R162). -/
def jobsBefore (js : List Job) (k : Core) (pos : Nat) (phase3 : Bool) : Bool :=
  js.zipIdx.all (fun e => decide (pos ≤ e.2) || e.1.phase3 != phase3 || k.ended.contains e.2 || k.halted.contains e.2)

/-- The pointers as a job's context block and tray bindings load them (R171, R178). -/
def loadContext (k : Core) (jb : Job) (x : Section) (half : Nat) : Core :=
  let w := k.readXs jb.xAt 16
  let h (i : Nat) : BitVec 16 := ((w.getD (i / 2) 0).extractLsb' (if i % 2 = 1 then 16 else 0) 16)
  let p (i : Nat) : BitVec 16 :=
    let t := jb.trays.getD i 0xFF
    if t = 0xFF then h i
    else if t < 0x40 then BitVec.ofNat 16 (inTrayBase x.tin x.tout half + (jb.ins.getD t ⟨none, 0, 0⟩).off)
    else BitVec.ofNat 16 (outTrayBase x.tout half + (jb.outs.getD (t - 0x40) ⟨0, 0⟩).off)
  { k with
    p := Vector.ofFn (fun i : Fin 8 => p i.val), n := Vector.ofFn (fun i : Fin 8 => h (8 + i.val))
    l := Vector.ofFn (fun i : Fin 8 => h (16 + i.val)), b := Vector.ofFn (fun i : Fin 8 => h (24 + i.val)) }

/-- `JOB` (R170). -/
def jobWord (num core cluster : Nat) : Word := BitVec.ofNat 32 (num + core * 2 ^ 20 + cluster * 2 ^ 24)

/-- A core as a job starts it (R171): everything but memories and pointers is 0, and the program counter is at the
job's entry. -/
def startCore (k : Core) (jb : Job) (x : Section) (half pos cl t : Nat) : Core :=
  let k1 := loadContext k jb x half
  { Core.cleared with
    p := k1.p, n := k1.n, l := k1.l, b := k1.b, x := k.x, y := k.y, prog := k.prog
    ended := k.ended, halted := k.halted, ready := k.ready, handed := k.handed, overflowed := k.overflowed
    used := k.used, libs := k.libs
    pc := BitVec.ofNat 13 jb.entry, job := jobWord jb.num x.core cl, run := some pos, since := t }

/-- Whether a job may start on a core now (R44, R46, R162, R179, R190). The copy of an audit needs its inputs alone. -/
def State.mayStart (s : State) (c j pos : Nat) (x : Section) (jb : Job) : Bool :=
  let k := s.core c j
  (s.inAudit c j || (s.openRound && s.phaseOpen jb.phase3)) && s.clusterRuns c s.workRound && s.coreRuns c j && k.run.isNone &&
    !k.ended.contains pos && !k.halted.contains pos && (jb.ins.isEmpty || k.ready.contains pos) &&
    jobsBefore x.jobs k pos jb.phase3

/-- The relief core's copy of a strip job ends: what the strip computes is the audited core's alone, and AUDIT_ROUND says whether
the copy differed (log entry 96). -/
def State.endCopy (s : State) (c j pos : Nat) : State :=
  s.setCore c j { s.core c j with ended := pos :: (s.core c j).ended }

/-- A strip job runs its standard program for the round (R123, R604). -/
def State.runStripJob (s : State) (c j pos : Nat) (x : Section) (jb : Job) (bus : Bool) (n : Nat) : State :=
  let p := s.nat (El.stProgram bus n)
  let m := s.lineSample s.workRound
  let s1 := ((s.runStrip bus n p m).recordCycles c j pos (s.stripCycles bus n p m)).setN (El.jobState c x.core pos) 1
  let k := s1.core c j
  s1.setCore c j { k with ended := pos :: k.ended, job := jobWord jb.num x.core c }

/-- JOB_START: the job at position `pos` starts on core j of cluster c (R162, R171). -/
def State.startJob (s : State) (c j pos : Nat) : State :=
  let sv := s.scheduleOf c j
  match s.sectionOf c sv, s.jobAt c sv pos with
  | some x, some jb =>
    if s.mayStart c j pos x jb = false then s
    else match jb.strip with
      | some (bus, n) => if s.inAudit c j then s.endCopy c j pos else s.runStripJob c j pos x jb bus n
      | none => (if s.inAudit c j then s else s.setN (El.jobState c sv pos) 1).setCore c j
          (startCore (s.core c j) jb x (s.half c j) pos c s.time.tick)
  | _, _ => s

/-- The samples of a job input: a direct signal, or the destination bound to it. A phase 1 job reads the sum of a pass A
destination across a feedback path, from the round before (R16). -/
def State.jobInputSamples (s : State) (jb : Job) (i : JobIn) : List Int :=
  match i.sig with
  | some a => s.strippedSignal jb.phase3 a.toNat
  | none => if jb.phase3 then s.consumer 2 i.num else s.consumerBefore 2 i.num

/-- Words of samples. -/
def sampleWords (l : List Int) : List Word := l.map (fun v => BitVec.ofInt 32 v)

/-- The tray port writes words of a job's inputs into a core, and the job's inputs are in place. -/
def Core.takeInputs (k : Core) (base pos : Nat) (ins : List (Nat × List Word)) : Core :=
  let k1 := ins.foldl (fun m i => m.writeXs (base + i.1) i.2) k
  { k1 with ready := pos :: k1.ready }

/-- TRAY_INPUT_WRITE: the tray port writes a job's inputs for the round into the in-tray half (R178, R179), and into the copy of
the core that an audit of the round runs on (R192). -/
def State.writeInputs (s : State) (c j pos : Nat) : State :=
  let sv := s.scheduleOf c j
  match s.sectionOf c sv, s.jobAt c sv pos with
  | some x, some jb =>
    let k := s.core c j
    if s.inAudit c j ∨ s.openRound = false ∨ s.clusterRuns c s.workRound = false ∨ k.ready.contains pos ∨ s.phaseOpen jb.phase3 = false then s
    else
      let base := inTrayBase x.tin x.tout (s.half c j)
      let ins := jb.ins.map (fun i => (i.off, sampleWords (s.jobInputSamples jb i)))
      let s1 := s.setCore c j (k.takeInputs base pos ins)
      if s.inAudit c 8 ∧ (s.cluster c).auditCore = j ∧ (s.cluster c).auditRound = s.rounds.current then
        s1.setCore c 8 ((s1.core c 8).takeInputs base pos ins)
      else s1
  | _, _ => s

/-- TRAY_OUTPUT_READ: the outputs of a job that ended are handed to MIX; those of a halted job are exact zero (R179,
R190). -/
def State.readOutputs (s : State) (c j pos : Nat) : State :=
  let sv := s.scheduleOf c j
  match s.sectionOf c sv, s.jobAt c sv pos with
  | some x, some jb =>
    let k := s.core c j
    if s.inAudit c j ∨ s.rounds.current.isNone ∨ s.clusterRuns c s.workRound = false ∨ jb.strip.isSome then s
    else
      let base := outTrayBase x.tout (s.half c j)
      if k.halted.contains pos ∨ s.nat (El.jobState c sv pos) = 3 then
        jb.outs.foldl (fun q o => q.setSignal (sigJob o.idx) s.zeros) s
      else if k.ended.contains pos then
        (jb.outs.foldl (fun q o => q.setSignal (sigJob o.idx) ((k.readXs (base + o.off) s.roundB).map BitVec.toInt)) s).setCore c j
          { k with handed := pos :: k.handed }
      else s
  | _, _ => s

/-! ### DMA (R180 to R182) -/

/-- Whether regions hold every byte from `a` to `e`, one after the other: as many steps as there are regions. -/
def covered (l : List Region) : Nat → Nat → Nat → Bool
  | 0, a, e => decide (e ≤ a)
  | n + 1, a, e => decide (e ≤ a) || (match l.find? (fun g => decide (g.base ≤ a) && decide (a < g.base + g.len)) with
    | none => false
    | some g => covered l n (g.base + g.len) e)

/-- The address of row r at one end: core memories count words, the cluster store and DRAM bytes. -/
def rowAt (sp : DmaSpace) (a stride r : Nat) : Nat :=
  match sp with
  | .x => a + r * stride
  | .y => a + r * stride
  | .store => a + 4 * (r * stride)
  | .dram => a + 4 * (r * stride)

/-- Whether one end of a transfer lies in the issuing job's rights (R182). -/
def endAllowed (jb : Job) (sp : DmaSpace) (at_ stride len rows : Nat) (write : Bool) : Bool :=
  let regionOk (dram : Bool) : Bool :=
    let l := jb.regions.filter (fun g => g.dram == dram && (!write || g.write))
    (List.range rows).all (fun r => covered l l.length (rowAt sp at_ stride r) (rowAt sp at_ stride r + 4 * len))
  match sp with
  | .x => true
  | .y => true
  | .store => regionOk false
  | .dram => regionOk true

/-- A transfer within the job's rights (R182). One of no words, or of more than the 65,536 that a channel moves (R180), is outside
any rights (DESIGN CHOICE, log entry 97). -/
def xferAllowed (jb : Job) (t : DmaXfer) : Bool :=
  decide (0 < t.len * t.rows) && decide (t.len * t.rows ≤ 65536) && endAllowed jb t.src t.srcAt t.srcStride t.len t.rows false &&
    endAllowed jb t.dst t.dstAt t.dstStride t.len t.rows true

/-- The DMA channel numbers of a service core (R180). -/
def ownsChannel (sv ch : Nat) : Bool := ch == 2 * sv || ch == 2 * sv + 1

/-- Whether a space lies outside the core. -/
def isOutside (sp : DmaSpace) : Bool := sp == .store || sp == .dram

/-- Four bytes of a word, and the words of a byte string (R241). -/
def wordBytes (l : List Word) : List Byte := l.flatMap (fun w => leBytes 4 w.toNat)
def bytesWords (b : List Byte) : List Word := (words32 b).map (BitVec.ofNat 32)

/-- The core that holds the memories of a service core's schedule: the relief core while it carries it. -/
def State.holder (s : State) (c sv : Nat) : Nat := if s.carried c = some sv then 8 else sv

/-- A byte of the cluster store (R163): what the Dispatcher stages, and the firmware tables, are bytes that no rule gives. -/
def State.storeByte (s : State) (c a : Nat) : Byte :=
  if 0x300000 ≤ a ∧ a < 0x380000 then BitVec.ofNat 8 (Config.freeNat (s.free + a))
  else if 0x3C0000 ≤ a then Config.firmwareTable (a - 0x3C0000)
  else Tab.get 0 (s.cluster c).store a

/-- The class of DRAM requests for byte a: Express for a region that the job marks as a delay line, First otherwise (R180,
R445). -/
def Job.classAt (jb : Job) (a : Nat) : DramClass :=
  if jb.regions.any (fun g => g.dram && g.delay && decide (g.base ≤ a) && decide (a < g.base + g.len)) then .express else .first

/-- `n` words of Y from word `w` on, and words written there: the address wraps as a pointer's does. A DMA address past word
32,767 of X or Y wraps so too (DESIGN CHOICE, log entry 97). -/
def Core.readYs (k : Core) (w n : Nat) : List Word := (List.range n).map (fun i => k.readY ((w + i) % 32768))
def Core.writeYs (k : Core) (w : Nat) : List Word → Core
  | [] => k
  | v :: l => (k.writeY (w % 32768) v).writeYs (w + 1) l

/-- Words of a row in a core's memories. -/
def Core.rowOut (k : Core) (sp : DmaSpace) (a n : Nat) : List Word := if sp = .y then k.readYs a n else k.readXs a n
def Core.rowIn (k : Core) (sp : DmaSpace) (a : Nat) (l : List Word) : Core := if sp = .y then k.writeYs a l else k.writeXs a l

/-- `n` words of one end of a transfer on core j: a DRAM block that cannot be corrected reads as zero (R454). -/
def State.dmaRead (s : State) (c j : Nat) (jb : Job) (sp : DmaSpace) (a n : Nat) : State × List Word :=
  match sp with
  | .x => (s, (s.core c j).rowOut sp a n)
  | .y => (s, (s.core c j).rowOut sp a n)
  | .store => (s, bytesWords ((List.range (4 * n)).map (fun i => s.storeByte c (a + i))))
  | .dram => let r := s.dramFetch (jb.classAt a) a (4 * n); (r.1, bytesWords (r.2.getD []))

/-- Write words to one end of a transfer. -/
def State.dmaWrite (s : State) (c j : Nat) (jb : Job) (sp : DmaSpace) (a : Nat) (l : List Word) : State :=
  match sp with
  | .x => s.setCore c j ((s.core c j).rowIn sp a l)
  | .y => s.setCore c j ((s.core c j).rowIn sp a l)
  | .store => s.setCluster c { s.cluster c with store := writeCells (s.cluster c).store a (wordBytes l) }
  | .dram => s.dramStore (jb.classAt a) a (wordBytes l)

/-- The relief core's copy issues a transfer in an audit round: a read from outside the core takes the next one captured on the
channel, and waits until there is one; a write to the outside is kept for the comparison and never made (R192). -/
def State.replayDma (s : State) (c ch pos : Nat) (t : DmaXfer) : State :=
  let x := s.cluster c
  let k := s.core c 8
  let inner := (List.range t.rows).flatMap (fun r => k.rowOut t.src (rowAt t.src t.srcAt t.srcStride r) t.len)
  let replayed := x.replay.find? (fun e => e.1 = ch)
  let data := match replayed with
    | none => []
    | some e => bytesWords ((List.range (4 * e.2.2)).map (fun i => s.storeByte c (e.2.1 + i)))
  if isOutside t.src ∧ replayed.isNone then s
  else
    let words := if isOutside t.src then data else inner
    let x1 : Cluster := if isOutside t.src then { x with replay := x.replay.erase (replayed.getD (0, 0, 0)) } else x
    if isOutside t.dst then s.setCluster c { x1 with resent := x1.resent ++ [(pos, t, words)] }
    else (s.setCluster c x1).setCore c 8 ((List.range t.rows).foldl (fun m r =>
      m.rowIn t.dst (rowAt t.dst t.dstAt t.dstStride r) ((words.drop (r * t.len)).take t.len)) k)

/-- DMA_TRANSFER: a core's job issues a transfer on a free channel of its own; outside its rights it is a core
exception (R182, R189). -/
def State.issueDma (s : State) (c j ch : Nat) (t : DmaXfer) : State :=
  let k := s.core c j
  let sv := k.service j
  if s.clusterUp c = false ∨ ownsChannel sv ch = false then s
  else match k.run with
    | none => s
    | some pos => match s.jobAt c sv pos with
      | none => s
      | some jb =>
        let x := s.cluster c
        if xferAllowed jb t = false then s.coreException c j .dmaRights k
        else if s.inAudit c j then s.replayDma c ch pos t
        else if (Tab.get none x.dma ch).isSome then s
        else s.setCluster c { x with dma := Tab.put none x.dma ch (some ⟨sv, t, pos, s.inAudit c 8 && decide (x.auditCore = j) && decide (x.auditRound = s.rounds.current)⟩) }

/-- What an audited core's transfer moved goes into the replay buffer, and its write to the outside is kept for the comparison
(R163, R192). -/
def State.captureDma (s : State) (c ch : Nat) (d : Dma) (words : List Word) : State :=
  if d.audit = false ∨ s.inAudit c 8 = false then s
  else
    let x := s.cluster c
    let n := 4 * words.length
    let at_ := 0x380000 + x.replayTop
    let x1 : Cluster :=
      if isOutside d.xfer.src = false then x
      else if 262144 < x.replayTop + n then { x with replayTop := x.replayTop + n }
      else { x with
        replay := x.replay ++ [(ch, at_, words.length)], replayTop := x.replayTop + n
        store := writeCells x.store at_ (wordBytes words) }
    s.setCluster c (if isOutside d.xfer.dst then { x1 with sent := x1.sent ++ [(d.pos, d.xfer, words)] } else x1)

/-- Cluster store bytes that a transfer moves (R200). -/
def storeBytes (t : DmaXfer) : Nat :=
  ((if t.src = .store then 1 else 0) + (if t.dst = .store then 1 else 0)) * 4 * t.len * t.rows

/-- DMA_COMPLETE: the transfer of a channel is done, and its locks clear (R181). -/
def State.completeDma (s : State) (c ch : Nat) : State :=
  match Tab.get none (s.cluster c).dma ch with
  | none => s
  | some d => match s.jobAt c d.core d.pos with
    | none => s
    | some jb =>
      let t := d.xfer
      let j := s.holder c d.core
      let r := (List.range t.rows).foldl (fun (acc : State × List Word) r =>
        let q := acc.1.dmaRead c j jb t.src (rowAt t.src t.srcAt t.srcStride r) t.len
        (q.1.dmaWrite c j jb t.dst (rowAt t.dst t.dstAt t.dstStride r) q.2, acc.2 ++ q.2)) (s, [])
      let s1 := r.1.captureDma c ch d r.2
      let x := s1.cluster c
      s1.setCluster c { x with dma := Tab.put none x.dma ch none, storeMoved := x.storeMoved + storeBytes t }

/-! ### Audits and the relief core (R191 to R198) -/

/-- Whether audits run in cluster c. -/
def State.auditsRun (s : State) (c : Nat) : Bool :=
  s.clusterUp c && s.on (El.clAuditEnable c) && s.nat (El.clReliefState c) == 0 && s.roundsRun

/-- AUDIT_MIRROR: the relief core begins the mirror of the core it audits next: one that `core_retire` names, one that
raised an exception, or the next in order (R191, R192, R193, R198). -/
def State.beginMirror (s : State) (c : Nat) : State :=
  let x := s.cluster c
  if s.auditsRun c = false ∨ x.auditing ∨ x.retiring.isSome then s
  else
    let j := (x.forced.orElse (fun _ => x.auditNext)).getD x.auditCore
    (s.setCluster c { x with auditing := true, auditAt := s.lineUp s.rounds.nextRound, auditCore := j, auditNext := none }).setN
      (El.clAuditCore c) j

/-- The copy that a mirror leaves (R192): the program, X and Y memories of the audited core. Every write into them is repeated
into the copy, so the copy is the core's memories as they stand where the mirror ends; the jobs of the round have not begun. -/
def Core.mirror (k : Core) : Core :=
  { Core.cleared with
    x := k.x, y := k.y, prog := k.prog, libs := k.libs, halted := k.halted, ended := k.ended, ready := k.ready }

/-- The mirror ends at the boundary into round k, 2 rd after the one that it began with, and the audit round begins. -/
def State.beginAudit (s : State) (c k : Nat) : State :=
  let x := s.cluster c
  if x.auditing = false ∨ x.auditRound.isSome ∨ s.lineUp k < x.auditAt + 2 then s
  else (s.setCluster c { x with auditRound := some k }).setCore c 8 (s.core c x.auditCore).mirror

/-- The audited core has completed the audit round: its out-trays stand for the comparison. -/
def State.closeAudit (s : State) (c k : Nat) : State :=
  let x := s.cluster c
  if x.auditing ∧ x.auditRound = some k then s.setCluster c { x with audited := some (s.core c x.auditCore) } else s

/-- Whether the relief core has completed the audit round: every job of the schedule ended or halted on the copy. A strip job ends
with AUDIT_ROUND itself (log entry 96). -/
def State.reliefDone (s : State) (c : Nat) : Bool :=
  match s.sectionOf c (s.cluster c).auditCore with
  | none => true
  | some x => x.jobs.zipIdx.all (fun e => e.1.strip.isSome || (s.core c 8).ended.contains e.2 || (s.core c 8).halted.contains e.2)

/-- Whether what a job hands out differs between the audited core and the copy: the halt, the words of its out-tray, the address,
length and data of its DMA writes (R191, R192). -/
def State.jobDiffers (s : State) (c : Nat) (was : Core) (x : Section) (jb : Job) (pos : Nat) : Bool :=
  let z := s.cluster c
  let k := s.core c 8
  let base := outTrayBase x.tout (s.half c 8)
  let of (l : List (Nat × DmaXfer × List Word)) := l.filter (fun e => e.1 == pos)
  let done := k.ended.contains pos || k.halted.contains pos
  done && (was.halted.contains pos != k.halted.contains pos || of z.sent != of z.resent ||
    jb.outs.any (fun o => was.readXs (base + o.off) s.roundB != k.readXs (base + o.off) s.roundB))

/-- The first job of the schedule whose output differs, among those that the copy has done (R192, R195). -/
def State.firstDiffers (s : State) (c : Nat) : Option Nat :=
  let z := s.cluster c
  match z.audited, s.sectionOf c z.auditCore with
  | some was, some x =>
    (x.jobs.zipIdx.find? (fun e => e.1.strip.isNone && s.jobDiffers c was x e.1 e.2)).map (fun e => e.1.num)
  | _, _ => none

/-- AUDIT_ROUND: the relief core has completed the audit round (R192): the audit is skipped and counted where the core's DMA
reads exceed 256 KB (R193), it matched, or it found a difference or was forced, and the core waits for its retirement (R195,
R198). `dmaBytes` and `differs` stand for what the standard programs read by DMA and for the first job in which a fault of the
silicon shows, which the model's exact cores do not have (log entry 96). Where a forced retirement finds no difference, `job` of
its notice is a free value (DESIGN CHOICE, log entry 98). -/
def State.endAudit (s : State) (c dmaBytes : Nat) (differs : Option Nat) : State :=
  let x := s.cluster c
  let j := x.auditCore
  if x.auditing = false ∨ x.audited.isNone ∨ s.reliefDone c = false then s
  else if 262144 < dmaBytes + x.replayTop then s.skipAudit c
  else
    let s1 := s.inc (El.clAudits c)
    let found := (s.firstDiffers c).orElse (fun _ => differs)
    if found.isSome ∨ x.forced = some j then
      let w := s1.fresh
      w.2.setCluster c { x.auditOver with forced := none, retiring := some (j, found.getD w.1) }
    else (s1.setCluster c { x.auditOver with auditCore := nextCore j }).inc (El.coreAuditsPassed c j)

/-- An audit whose relief core has not completed round k when round k + 2 begins is skipped (R193), but for one that has already
found a difference: the island waits for the relief core (R195). -/
def State.auditLate (s : State) (c k : Nat) : Bool := (s.cluster c).auditing && decide ((s.cluster c).auditAt + 4 ≤ s.lineUp k)
def State.reliefHolds (s : State) (c k : Nat) : Bool := s.auditLate c k && (s.firstDiffers c).isSome
def State.lateAudit (s : State) (c k : Nat) : State := if s.auditLate c k then s.skipAudit c else s

/-- RELIEF_TAKEOVER: at a round boundary the core is retired, and the relief core carries its schedule from its own state (R195,
R197). -/
def State.takeOverCore (s : State) (c : Nat) : State :=
  let x := s.cluster c
  match x.retiring with
  | none => s
  | some (j, job) =>
    if s.rounds.current.isSome ∨ s.clusterUp c = false then s
    else
      let n := s.firstSample s.rounds.nextRound
      let k := x.auditAt + 2
      let r := s.core c 8
      let s1 := ((s.setCore c 8 { r with run := none, ended := [], ready := [], handed := [], overflowed := [], used := [] }).setCluster c
        { x with retiring := none }).setN (El.coreState c j) 1
      let s2 := ((s1.setN (El.coreRetiredAt c j) n).setN (El.coreState c 8) 3).setN (El.coreCarries c 8) j
      let s3 := s2.setN (El.clReliefState c) 2
      let s4 : State := { s3 with flash := { s3.flash with repair := .core c j :: s3.flash.repair } }
      s4.post nCoreRelieved (El.coreState c j) ([c, j] ++ twoWords k ++ [job])

/-- `cl_audit_enable` 0 stops audits at a boundary (R200). -/
def State.stopAudits (s : State) (c : Nat) : State :=
  if s.on (El.clAuditEnable c) ∨ 1 ≤ s.nat (El.clReliefState c) then s
  else (s.setCluster c (s.cluster c).auditOver).setN (El.clReliefState c) 1

/-! ### Readings of a round (R51, R200, R201, R239) -/

/-- The cycles of a job and of the strips it runs, of the round that is complete. -/
def State.showCycles (s : State) (c : Nat) (e : Nat × Nat × Job) : State :=
  let n := Tab.get 0 (s.core c (s.holder c e.1)).used e.2.1
  let s1 := (s.setN (El.jobCycles c e.1 e.2.1) n).raise (El.jobCyclesMax c e.1 e.2.1) n
  e.2.2.strips.foldl (fun q b => (q.setN (El.stCycles b.1 b.2) n).raise (El.stCyclesMax b.1 b.2) n) s1

/-- Use of the cluster store in a round, in percent: what the jobs' transfers moved of 128 bytes per cycle (R163, R200), and what
the standard programs use of it, which no rule gives (log entry 3). -/
def State.storeUse (s : State) (c : Nat) (strips : Bool) : Nat × State :=
  let all := 128 * (s.roundB * pointMHz (s.nat El.dvfsPoint) * 1000000 / s.fs)
  let n := 100 * (s.cluster c).storeMoved / max 1 all
  if strips then (min 100 (n + s.fresh.1 % 101), s.fresh.2) else (min 100 n, s)

/-- What a round that is complete leaves in the objects of a cluster and its cores. -/
def State.clusterReadings (s : State) (c k : Nat) : State :=
  match (s.cluster c).image with
  | none => s
  | some im =>
    if s.clusterUp c = false then s
    else
      let s1 := im.placed.foldl (fun q e => q.showCycles c e) s
      let s2 := (List.range 9).foldl (fun (q : State) j =>
        let n := ((q.core c j).used.map (fun (e : Nat × Nat) => e.2)).sum
        (q.setN (El.coreCycles c j) n).raise (El.coreCyclesMax c j) n) s1
      let u := s2.storeUse c (s.clusterRuns c k && im.jobs.any (·.strip.isSome))
      (u.2.setN (El.clStoreRate c) u.1).setCluster c { u.2.cluster c with storeMoved := 0 }

/-- RELIEF_SELF_TEST: between audits the relief core runs its self-test; a wrong result retires it (R194). -/
def State.selfTest (s : State) (c : Nat) (ok : Bool) : State :=
  if s.auditsRun c = false ∨ (s.cluster c).auditing ∨ ok then s
  else (s.setN (El.clReliefState c) 3).setN (El.coreState c 8) 1

/-! ### Writes of area 1D -/

/-- The cluster, core and position of an object of area 1D. -/
def jobPlace (o : Nat) : Nat × Nat × Nat := ((o - 0x1000) / 512, (o - 0x1000) / 64 % 8, (o - 0x1000) % 64)
def corePlace (o : Nat) : Nat × Nat := ((o - 0x200) / 16, (o - 0x200) % 16)

/-- What the state allows of a write in area 1D (R202, R236). -/
def State.clusterState (s : State) (a : Nat) (v : Val) : Status :=
  let o := objectOf a
  let e := elementOf a
  if 0x10 ≤ o ∧ o < 0x18 ∧ e = 6 ∧ v.toNat = 1 then s.activateStatus (o - 0x10)
  else if 0x200 ≤ o ∧ o < 0x300 ∧ e = 0x0E ∧ v.toNat = 1 then
    let c := (corePlace o).1
    (if s.nat (El.clReliefState c) ≠ 0 ∨ s.on (El.clAuditEnable c) = false then .wrongState else .ok)
  else .ok

/-- The value of a write in area 1D (R235). -/
def State.clusterValue (s : State) (a : Nat) (v : Val) : Status :=
  let o := objectOf a
  if 0x10 ≤ o ∧ o < 0x18 ∧ elementOf a = 0 then
    (match s.imageStatus (o - 0x10) v.toBytes with
      | none => .ok
      | some e => e.1)
  else .ok

/-- A store into `img_data` that R235 refuses (R238). -/
def State.noteRefusal (s : State) (c : Nat) (b : List Byte) : State :=
  match s.imageStatus c b with
  | none => s
  | some e => ((s.setN (El.imgState c) 3).setN (El.imgRefusal c) e.1.code).setN (El.imgErrorAt c) e.2

/-- The counters that `cl_clear` clears (R200). -/
def clusterCounters (c : Nat) : List Nat :=
  [El.clAudits c, El.clAuditsSkipped c] ++
    (List.range 9).flatMap (fun j => [El.coreAuditsPassed c j, El.coreExceptions c j, El.coreCyclesMax c j])

/-- `job_clear` (R126, R239). -/
def State.clearJob (s : State) (c j pos : Nat) : State :=
  let s1 := (s.setN (El.jobCyclesMax c j pos) 0).setN (El.jobOverflowRounds c j pos) 0
  let s2 := s1.setCluster c { s1.cluster c with guardAt := Tab.drop (s1.cluster c).guardAt (64 * j + pos) }
  match s.jobAt c j pos with
  | none => s2
  | some jb => match jb.strip with
    | none => s2
    | some (bus, n) =>
      let s3 := s2.setN (El.stCyclesMax bus n) 0
      if isPair jb.program then s3.setN (El.stCyclesMax bus (n + 1)) 0 else s3

/-- A write in area 1D applies; audits stop at the next boundary, or at once where no rounds run (R197, R198, R200, R201, R235, R239); activations under R237 where no rounds run. -/
def State.applyCluster (s : State) (a : Nat) (v : Val) : State :=
  let o := objectOf a
  let e := elementOf a
  if 0x10 ≤ o ∧ o < 0x18 then
    let c := o - 0x10
    if e = 0 then
      let b := v.toBytes
      (((s.noteEngine .bulk c b.length).setV a v).setN (El.imgState c) (if b = [] then 0 else 1)).setN (El.imgCrc c) (field b 12 4)
    else if v.toNat = 1 then (s.captureImage c).takeImageNow c else s
  else if 0x100 ≤ o ∧ o < 0x108 then
    let c := o - 0x100
    if e = 0x0F then (if v.toNat = 1 then s.setAll (clusterCounters c) 0 else s)
    else
      let s1 := s.setV a v
      if 1 < s.nat (El.clReliefState c) then s1
      else if v.toNat = 0 then (if s.roundsRun then s1 else s1.stopAudits c)
      else s1.setN (El.clReliefState c) 0
  else if 0x200 ≤ o ∧ o < 0x300 then
    let c := (corePlace o).1
    let j := (corePlace o).2
    if v.toNat = 0 then s
    else if e = 0x0E then s.setCluster c { s.cluster c with forced := some j }
    else { s with flash := { s.flash with repair := s.flash.repair.filter (fun r => r ≠ .core c j) } }
  else if v.toNat = 1 then s.clearJob (jobPlace o).1 (jobPlace o).2.1 (jobPlace o).2.2
  else s

end Sys2Proof.Machine
end

