-- ==== Sys2Proof/Machine/Lane.lean ====
section
/-! DEFINITION. The lane of a coach link: blocks, chunks and sections (R364 to R368). -/

namespace Sys2Proof.Machine

/-- The data blocks of a byte string, eight bytes to a block, the first in the low bits; the last is padded with zeros. -/
def dataBlocks (b : List Byte) : List Block :=
  (List.range (ceilDiv b.length 8)).map (fun i => ⟨false, BitVec.ofNat 64 (leVal (slice b (8 * i) 8))⟩)

/-- The bytes of a block's 64 bits. -/
def Block.bytes (b : Block) : List Byte := leBytes 8 b.word.toNat

/-- The section start block (R366): kind, the sender's number, data blocks, first item index, round index. -/
def startBlock (kind engine n first round : Nat) : Block :=
  ⟨true, BitVec.ofNat 64 (0xC3 + kind % 16 * 2 ^ 8 + engine % 4096 * 2 ^ 12 + n % 8192 * 2 ^ 24 + first % 32768 * 2 ^ 37 +
    round % 4096 * 2 ^ 52)⟩

/-- The chunk end block: the CRC-32C of the chunk's data blocks (R366). -/
def chunkEnd (l : List Block) : Block := ⟨true, BitVec.ofNat 64 (0xC5 + crc32c (l.flatMap Block.bytes) * 2 ^ 32)⟩

/-- Data blocks with a chunk end block after every 256 and after the last (R367). -/
def chunked (l : List Block) : List Block :=
  (List.range (max 1 (ceilDiv l.length 256))).flatMap (fun i => slice l (256 * i) 256 ++ [chunkEnd (slice l (256 * i) 256)])

/-- A section (R367). -/
def laneSection (kind engine first round : Nat) (l : List Block) : List Block :=
  startBlock kind engine l.length first round :: chunked l

/-- Items of `per` blocks each, in sections of at most 4,096 data blocks that carry items whole (R368). -/
def laneSections (kind engine round per : Nat) (items : List (List Block)) : List Block :=
  let room := 4096 / max 1 per
  (List.range (max 1 (ceilDiv items.length room))).flatMap (fun i =>
    laneSection kind engine (room * i) round (slice items (room * i) room).flatten)

/-- The samples of a channel, two to a block: the even one in the low half (R368). -/
def channelBlocks (x : List Int) : List Block := dataBlocks (x.flatMap (fun v => leBytes 4 (wrap 32 v)))
/-- The partial sums of a bus, 48 bits each (R368). -/
def sumBlocks (x : List Int) : List Block := dataBlocks (x.flatMap (fun v => leBytes 6 (wrap 48 v)))

/-- Bytes of a tunnelled message in a section (R368). -/
def tunnelBytes (m : List Byte) : Nat := ceilDiv (2 + m.length) 8 * 8
/-- A tunnelled message: its length, the message, zeros to a multiple of 8 bytes. -/
def tunnelItem (m : List Byte) : List Byte :=
  leBytes 2 m.length ++ m ++ List.replicate (tunnelBytes m - 2 - m.length) 0

/-- The items of a section that were received (R367): an item with any byte in a bad chunk of 2,048 bytes is missing. `at_` is
the offset of the first item. -/
def received {α : Type} (bad : List Nat) (size : α → Nat) : Nat → List α → List (Option α)
  | _, [] => []
  | at_, x :: l =>
    (if bad.any (fun c => decide (2048 * c < at_ + size x) && decide (at_ < 2048 * (c + 1))) then none else some x) ::
      received bad size (at_ + size x) l

/-- The self-synchronising scrambler 1 + x^39 + x^58 over payload bits, from a state whose bit i was sent i bits ago (R364). -/
def scramble : List Bool → Nat → List Bool
  | [], _ => []
  | b :: l, st =>
    let o := b != (st.testBit 38 != st.testBit 57)
    o :: scramble l ((2 * st + o.toNat) % 2 ^ 58)

/-- The bits of the blocks in the order in which the lane sends them: the two bits of the sync header, then the scrambled
payload, each bit inverted where the polarity says so (R364, R366). -/
def laneBits (invert : Bool) (st : Nat) (l : List Block) : List Bool :=
  let pay := scramble (l.flatMap (fun b => (List.range 64).map (fun i => b.word.getLsbD i))) st
  (l.zipIdx.flatMap (fun e => [!e.1.control, e.1.control] ++ slice pay (64 * e.2) 64)).map (fun b => b != invert)

/-- The bits that the transmit lane of link l carried for its last section: `cl_polarity` [0] inverts them (R364). -/
def State.laneOut (s : State) (l : Nat) : List Bool :=
  let x := s.link l
  laneBits (bitOf (s.nat (El.lkPolarity l)) 0) (Config.scrambler l) x.lane

end Sys2Proof.Machine
end

