-- ==== Sys2Proof/Machine/Speaker.lean ====
section
/-! DEFINITION. Loudspeaker protection (R522 to R525): the excursion model, the two thermal stages, the thermal gain and the
excursion limiter. The manual gives the equations and the bilinear transform, and neither word lengths nor roundings: the
states are integers in units of 2^-64 of V, m/s, m, A and K, rounded half to even (log entry 115). -/

namespace Sys2Proof.Machine

/-- A channel without a model, nothing in its delay. -/
def Speaker.fresh : Speaker where
  model := 0xFF
  pars := []
  u := 0
  v := 0
  x := 0
  i := 0
  coil := 0
  mag := 0
  att := 0
  gain := 2 ^ 31
  line := []
  seen := 0
  peaks := []
  lowest := 2 ^ 31
  limits := false
  hot := false

/-- Number e of the model in force, as its object 1F.(0000+j) gives it (R531). -/
def Speaker.par (q : Speaker) (e : Nat) : Int := q.pars.getD e 0
/-- `lm_bl`, `lm_mms`, `lm_kms`, `lm_rms`, `lm_re` and `lm_le` in units of 1e-6 of T·m, kg, N/m, kg/s, ohm and H. -/
def Speaker.bl (q : Speaker) : Int := q.par 0 * 1000
def Speaker.mms (q : Speaker) : Int := q.par 1
def Speaker.kms (q : Speaker) : Int := q.par 2 * 1000000
def Speaker.rms (q : Speaker) : Int := q.par 3 * 1000
def Speaker.re (q : Speaker) : Int := q.par 4 * 1000
def Speaker.le (q : Speaker) : Int := q.par 5

/-- Division by an integer that is positive for every model: half to even. -/
def roundBy (a b : Int) : Int := roundDiv a b.toNat

/-- One sample of voltage u through the equations of R523, by the bilinear transform at `fs`: with k = 2 Fs, the sum of the old
and new velocities follows from both equations, and displacement and current from it. -/
def Speaker.move (q : Speaker) (fs : Nat) (u : Int) : Speaker :=
  let k : Int := 2 * fs
  let e := k * q.le + q.re
  let sumU := u + q.u
  let den := (k * (k * q.mms + q.rms) + q.kms) * e + k * q.bl * q.bl
  let num := k * e * (2 * k * q.mms * q.v - 2 * q.kms * q.x) + k * q.bl * (1000000 * sumU + 2 * k * q.le * q.i)
  let w := roundBy num den
  { q with
    u := u
    v := w - q.v
    x := q.x + roundBy w k
    i := roundBy (1000000 * sumU + (k * q.le - q.re) * q.i - q.bl * w) e }

/-- The rise of a first-order stage toward p · Rth with time constant τ: each sample takes the exact step response (log entry 115). -/
def riseOf (fs : Nat) (rise target : Int) (tau : Nat) : Int :=
  target + roundShift ((rise - target) * fixRound (fixExp (-(fixOne * 1000 / ((tau * fs : Nat) : Int)))) 63) 63

/-- Re(T) i² in units of 2^-64 W (R524). -/
def Speaker.power (q : Speaker) : Int :=
  let warm := 100000 * 2 ^ 64 + 393 * (q.coil + q.mag)
  roundBy (q.i * q.i * q.re * warm) (1000000 * 100000 * 2 ^ 128)

/-- The thermal stages take the predicted power (R524). -/
def Speaker.heat (q : Speaker) (fs : Nat) : Speaker :=
  let p := q.power
  { q with
    coil := riseOf fs q.coil (roundBy (p * q.par 7) 1000) (q.par 8).toNat
    mag := riseOf fs q.mag (roundBy (p * q.par 9) 1000) (q.par 10).toNat }

/-- T_vc in 0.1 °C and units of 2^-64: the ambient and both rises. -/
def Speaker.temp (q : Speaker) : Int := q.par 12 * 2 ^ 64 + 10 * (q.coil + q.mag)

/-- Units of the thermal attenuation in 1 dB: every `Fs_int` divides it. -/
def attUnit : Nat := 28224000

/-- The thermal gain falls at 10 dB per second above `lm_tmax` − 5 K, and rises at 1 dB per second below `lm_tmax` − 10 K, up to
0 dB (R524). -/
def Speaker.adapt (q : Speaker) (fs : Nat) : Speaker :=
  let t := q.temp
  if (q.par 11 - 50) * 2 ^ 64 < t then { q with att := q.att + 10 * (attUnit / fs) }
  else if t < (q.par 11 - 100) * 2 ^ 64 then { q with att := q.att - attUnit / fs }
  else q

/-- The thermal gain in units of 2^-31. -/
def Speaker.thermal (q : Speaker) : Nat :=
  if q.att = 0 then 2 ^ 31 else (fixRound (fixExp (-(fixLn10 * (q.att : Int) / (20 * (attUnit : Int))))) 31).toNat

/-- The gain that an excursion needs: Xmax / |x|, at most 1, rounded down to 31 bits (R525). -/
def Speaker.needs (q : Speaker) (x : Nat) : Nat :=
  let lim := (q.par 6).toNat * 2 ^ 64
  if x * 1000000 ≤ lim then 2 ^ 31 else lim * 2 ^ 31 / (x * 1000000)

/-- The largest of a window: values with their sample counts, newest first, falling no further back than n samples. -/
def pushPeak (n at_ v : Nat) (l : List (Nat × Nat)) : List (Nat × Nat) :=
  (at_, v) :: l.filter (fun e => decide (v < e.2) && decide (at_ < e.1 + n))
/-- The largest value of a window. -/
def peakIn (l : List (Nat × Nat)) : Nat := l.foldl (fun m e => max m e.2) 0

/-- The delay and the limiter: the sample that entered 32 samples ago leaves with its gain (R525). Without a model the gain is 1. -/
def Speaker.limit (q : Speaker) (fs : Nat) (y : Int) : Speaker × Int :=
  let line := ((y, q.x.natAbs) :: q.line).take 33
  let cur := (line.getD 32 (0, 0)).1
  if q.model = 0xFF then ({ q with line := line.take 32, gain := 2 ^ 31 }, cur)
  else
    let f := lookGainOver 32 ((List.range 33).map (fun k => q.needs (line.getD (32 - k) (0, 0)).2))
    let h := 2 ^ 31 - roundUp31 ((2 ^ 31 - q.gain) * releaseCoef (q.par 13).toNat fs)
    let g := min h f
    ({ q with line := line.take 32, gain := g }, roundShift (cur * g) 31)

/-- One sample of a channel's input through steps 1 and 2 of R507; `vfs` in 0.01 V. -/
def Speaker.sample (q : Speaker) (fs vfs : Nat) (z : Int) : Speaker × Int :=
  if q.model = 0xFF then q.limit fs z
  else
    let th := q.thermal
    let y := roundShift (z * th) 31
    let q1 := ((q.move fs (roundDiv (y * vfs * 2 ^ 33) 100)).heat fs).adapt fs
    let r := q1.limit fs y
    let q2 := r.1
    ({ q2 with
      seen := q2.seen + 1
      peaks := pushPeak fs q2.seen q2.x.natAbs q2.peaks
      lowest := min q2.lowest (q2.gain * th / 2 ^ 31) }, r.2)

/-- An excursion as tenths of a percent of Xmax. -/
def Speaker.shown (q : Speaker) (x : Nat) : Nat :=
  if q.par 6 ≤ 0 then 0 else x * 1000000 * 1000 / ((q.par 6).toNat * 2 ^ 64)

end Sys2Proof.Machine
end

