-- ==== Sys2Proof/Machine/Loop.lean ====
section
/-! DEFINITION. The loop and the modulator of a power stage channel (R505 to R511, R516 to R518): sense decimation, interpolation to
the loop rate, the controller, three-level double-edge modulation with dead time, and the over-current cut. Time is counted in
interpolator steps of 1/84 of a PSC clock period. -/

namespace Sys2Proof.Machine

/-- Interpolator steps per second: 84 × 196.608 MHz (R508). A carrier period is counted in as many units, so that a carrier of f Hz
moves on by f units in a step. -/
def stepsPerSecond : Nat := 16515072000
/-- The loop rate in Hz, and the steps of a loop period (R506). -/
def loopRate : Nat := 3072000
def loopSteps : Nat := 5376

/-- Modulation limit of ±0.95, in units of 2^-31, rounded down (R508). -/
def modLimit : Int := 2040109465

/-! ### Sense (R506) -/

def Sinc.fresh : Sinc := ⟨[0, 0, 0, 0], [0, 0, 0, 0], []⟩

/-- A bit of the stream passes the four integrators, which wrap at 32 bits. -/
def Sinc.bit (q : Sinc) (b : Bool) : Sinc :=
  let r := q.ints.foldl (fun (a : Int × List Int) i => let y := Int.bmod (a.1 + i) (2 ^ 32); (y, a.2 ++ [y])) (if b then 1 else -1, [])
  { q with ints := r.2 }

/-- Every eighth bit the four combs give a sample at the loop rate, full scale 4,096, which the FIR compensates; a constant stream
keeps its value. -/
def Sinc.sample (q : Sinc) : Sinc × Int :=
  let r := q.combs.foldl (fun (a : Int × List Int) p => (Int.bmod (a.1 - p) (2 ^ 32), a.2 ++ [a.1])) (q.ints.getD 3 0, [])
  let fir := (r.1 :: q.fir).take 8
  let y := fir.zipIdx.foldl (fun z e => z + roundShift (Config.senseTap e.2 * (e.1 - r.1)) 30) r.1
  ({ q with combs := r.2, fir := fir }, y)

/-- A loop period of a stream: 8 bits, and the sample in units of 2^-20 of the scale's unit. -/
def Sinc.take (q : Sinc) (bits : List Bool) (scale : Nat) : Sinc × Int :=
  let r := (bits.foldl Sinc.bit q).sample
  (r.1, r.2 * scale * 2 ^ 8)

/-! ### The modulator (R508, R509) -/

def PscLoop.fresh : PscLoop where
  smp := 0
  fed := []
  sv := Sinc.fresh
  si := Sinc.fresh
  volt := 0
  amp := 0
  halfSum := 0
  halfN := 0
  halfMean := 0
  integ := 0
  err := 0
  out := 0
  half := none
  shift := 0
  legA := false
  legB := false
  cut := false
  due := []
  gates := ⟨false, false, false, false⟩
  edges := []
  tested := 0
  vPos := 0
  iPos := 0
  vNeg := 0
  iNeg := 0
  peaks := []

/-- What a channel's settings and its start-up step ask of its loop: the profile, scales, unity-gain frequency and filter, the dead
time in steps, the carrier frequency and the phase it moves to, and the step of R516. -/
structure LoopSet where
  profile : Nat
  svScale : Nat
  siScale : Nat
  bw : Nat
  filtL : Nat
  filtC : Nat
  dead : Nat
  f : Nat
  target : Nat
  step : Nat

/-- A gate takes a level. -/
def PscGates.set (g : PscGates) (i : Nat) (v : Bool) : PscGates :=
  match i with
  | 0 => { g with ah := v }
  | 1 => { g with al := v }
  | 2 => { g with bh := v }
  | _ => { g with bl := v }
def PscGates.get (g : PscGates) (i : Nat) : Bool :=
  match i with
  | 0 => g.ah
  | 1 => g.al
  | 2 => g.bh
  | _ => g.bl

/-- The edges of a leg that goes to a level at a step: one switch off, and after the dead time the other on (R509). Leg A is 0, leg B
is 1. -/
def legEdges (dead leg at_ : Nat) (high : Bool) : List GateEdge :=
  if high then [⟨at_, 2 * leg + 1, false⟩, ⟨at_ + dead, 2 * leg, true⟩]
  else [⟨at_, 2 * leg, false⟩, ⟨at_ + dead, 2 * leg + 1, true⟩]

/-- The gates take an edge, which is recorded where it changes one. -/
def PscLoop.edge (l : PscLoop) (e : GateEdge) : PscLoop :=
  if l.gates.get e.gate = e.high then l
  else { l with gates := l.gates.set e.gate e.high, edges := l.edges ++ [e] }

/-- An edge joins those that wait, in the order of their steps. -/
def insEdge (e : GateEdge) : List GateEdge → List GateEdge
  | [] => [e]
  | x :: l => if e.at_ < x.at_ then e :: x :: l else x :: insEdge e l

/-- Edges wait for their steps. A gate that goes off drops an edge that was to put it on later, so that a pulse shorter than the dead
time never closes both switches of a leg. -/
def PscLoop.wait (l : PscLoop) (es : List GateEdge) : PscLoop :=
  { l with due := es.foldl (fun d e =>
      insEdge e (if e.high then d else d.filter (fun x => !(x.gate == e.gate && x.high && decide (e.at_ ≤ x.at_))))) l.due }

/-- The edges before a step happen. -/
def PscLoop.run (l : PscLoop) (to_ : Nat) : PscLoop :=
  let now := l.due.filter (fun e => decide (e.at_ < to_))
  now.foldl PscLoop.edge { l with due := l.due.filter (fun e => decide (to_ ≤ e.at_)) }

/-- The step at which half carrier period k begins. -/
def halfStart (f shift k : Nat) : Nat := ceilDiv (k * (stepsPerSecond / 2) - shift) f

/-- A trough (k even) or peak of the carrier: m is sampled, the phase moves by at most 1° per period, and the edges of the half follow
from the comparisons m > c and −m > c (R508, R515). At a trough a cut ends (R518). -/
def PscLoop.turn (l : PscLoop) (p : LoopSet) (k at_ : Nat) : PscLoop :=
  let m := max (-modLimit) (min modLimit l.out)
  let by_ := stepsPerSecond / 720
  let shift := if l.shift ≤ p.target then min p.target (l.shift + by_) else max p.target (l.shift - by_)
  let cut := l.cut && k % 2 == 1
  let mean := if l.halfN = 0 then l.volt else roundDiv l.halfSum l.halfN
  let l1 := { l with half := some k, shift := shift, cut := cut, halfSum := 0, halfN := 0, halfMean := mean }
  if cut ∨ p.f = 0 then l1
  else
    let place (z : Int) : Nat := at_ + ceilDiv ((2 ^ 31 + z).toNat * (stepsPerSecond / 2) / 2 ^ 32) p.f
    if k % 2 = 0 then
      let start := (if l1.legA then [] else legEdges p.dead 0 at_ true) ++ (if l1.legB then [] else legEdges p.dead 1 at_ true)
      let fall := legEdges p.dead 0 (place m) false ++ legEdges p.dead 1 (place (-m)) false
      { (l1.wait (start ++ fall)) with legA := false, legB := false }
    else
      { (l1.wait (legEdges p.dead 0 (place (-m)) true ++ legEdges p.dead 1 (place m) true)) with legA := true, legB := true }

/-! ### The controller (R511) -/

/-- m from the reference and the sensed voltage: a proportional-integral controller with phase lead, and under profile 1 the damping
of the filter's resonance. `was` is the voltage one loop period before. -/
def PscLoop.control (l : PscLoop) (p : LoopSet) (ref was : Int) : PscLoop :=
  let g (k : Nat) : Int := Config.loopGain k p.profile p.bw p.filtL p.filtC
  let seen := if p.profile = 0 then l.halfMean else l.volt
  let err := ref - seen
  let integ := l.integ + roundShift (g 1 * err) 24
  let damp := if p.profile = 0 then 0
    else roundShift (g 3 * Config.capCurrent ((l.volt - was) * loopRate * p.filtC) l.amp) 24
  { l with
    integ := integ
    err := err
    out := roundShift (g 0 * err) 24 + integ + roundShift (g 2 * (err - l.err)) 24 - damp }

/-- The lead test's sums over the last 20 ms of each half, and its count (R517). -/
def PscLoop.test (l : PscLoop) : PscLoop :=
  let n := l.tested
  let l1 := { l with tested := n + 1 }
  if 15360 ≤ n ∧ n < 76800 then { l1 with vPos := l.vPos + l.volt, iPos := l.iPos + l.amp }
  else if 92160 ≤ n ∧ n < 153600 then { l1 with vNeg := l.vNeg + l.volt, iNeg := l.iNeg + l.amp }
  else l1

/-- Whether the step of R516 closes the loop: lead test, gain rising, running, lead test alone. -/
def loopClosed (step : Nat) : Bool := step == 2 || step == 4 || step == 5 || step == 6

/-- The reference in units of 2^-20 of 0.01 V: +1.00 V and then −1.00 V in a lead test, else the channel's input (R516, R517). -/
def PscLoop.reference (l : PscLoop) (p : LoopSet) (input : Int) : Int :=
  if p.step = 2 ∨ p.step = 6 then (if l.tested < 76800 then 100 * 2 ^ 20 else if l.tested < 153600 then -(100 * 2 ^ 20) else 0)
  else input

/-- Loop period L: the sense bits come in, the controller works, and the edges of the period are placed. Bootstrap charge holds the
low sides on; a channel in no step holds its gates low. -/
def PscLoop.period (l : PscLoop) (p : LoopSet) (L : Nat) (input : Int) (bits : List (Bool × Bool)) : PscLoop :=
  let a := l.sv.take (bits.map (·.1)) p.svScale
  let b := l.si.take (bits.map (·.2)) p.siScale
  let l1 := { l with sv := a.1, si := b.1, volt := a.2, amp := b.2, halfSum := l.halfSum + a.2, halfN := l.halfN + 1 }
  let now := L * loopSteps
  let end_ := now + loopSteps
  if p.step < 2 ∨ p.f = 0 then { l1 with half := none }
  else if p.step = 3 then
    (({ l1 with half := none, legA := false, legB := false, due := [] } : PscLoop).wait
      ([⟨now, 0, false⟩, ⟨now, 2, false⟩] ++ (if l1.gates.al then [] else [⟨now + p.dead, 1, true⟩]) ++
        (if l1.gates.bl then [] else [⟨now + p.dead, 3, true⟩]))).run end_
  else
    let l2 := l1.control p (l1.reference p input) l.volt
    let l3 := if p.step = 2 ∨ p.step = 6 then l2.test else l2
    let l4 := match l3.half with
      | some _ => l3
      | none => { l3 with shift := p.target, half := some ((now * p.f + p.target) / (stepsPerSecond / 2)) }
    let k := l4.half.getD 0 + 1
    let at_ := halfStart p.f l4.shift k
    let l5 := if at_ < end_ then l4.turn p k at_ else l4
    l5.run end_

/-! ### The over-current cut (R518) -/

/-- The step at which the carrier period that holds step `now` ends. -/
def PscLoop.periodEnd (l : PscLoop) (f now : Nat) : Nat :=
  let k := (now * f + l.shift) / stepsPerSecond + 1
  halfStart f l.shift (2 * k)

/-- The gates as they stand at a step: what the edges of the sample period after it did is not yet so. -/
def PscLoop.gatesAt (l : PscLoop) (now : Nat) : PscGates :=
  (l.edges.filter (fun e => decide (now < e.at_))).reverse.foldl (fun g e => g.set e.gate (!e.high)) l.gates

/-- The step of the last gate edge up to a step. -/
def PscLoop.lastEdge (l : PscLoop) (now : Nat) : Option Nat :=
  ((l.edges.filter (fun e => decide (e.at_ ≤ now))).getLast?).map (·.at_)

/-- What a cut at step `now` does to a leg: a conducting high side goes off and the low side follows after the dead time; a low side
that waits for its dead time comes on as it would have. -/
def PscLoop.cutLeg (l : PscLoop) (dead leg now end_ : Nat) : List GateEdge :=
  let g := l.gatesAt now
  if g.get (2 * leg) then legEdges dead leg now false
  else if g.get (2 * leg + 1) then []
  else
    let waits := (l.edges ++ l.due).filter (fun e => e.gate == 2 * leg + 1 && e.high && decide (now < e.at_) && decide (e.at_ < end_))
    [⟨(waits.head?.map (·.at_)).getD now, 2 * leg + 1, true⟩]

/-- A cut (R518): the low sides of both legs are on until the carrier period ends. Edges placed for later steps of the period do not
happen; those up to `to_`, the end of the loop periods done, happen at once. -/
def PscLoop.cutAt (l : PscLoop) (p : LoopSet) (now to_ : Nat) : PscLoop :=
  let end_ := l.periodEnd p.f now
  let later := (l.edges ++ l.due).filter (fun e => decide (end_ ≤ e.at_))
  let reached : Bool := match l.half with
    | none => false
    | some k => decide (end_ ≤ halfStart p.f l.shift k)
  let back := if reached then legEdges p.dead 0 end_ true ++ legEdges p.dead 1 end_ true else []
  let l1 : PscLoop := { l with
    gates := l.gatesAt now, edges := l.edges.filter (fun e => decide (e.at_ ≤ now)), due := [], cut := !reached
    legA := reached && l.legA, legB := reached && l.legB }
  (l1.wait (l.cutLeg p.dead 0 now end_ ++ l.cutLeg p.dead 1 now end_ ++ back ++ later)).run to_

/-- All four gates go low at a step (R519, R526). -/
def PscLoop.stop (l : PscLoop) (now : Nat) : PscLoop :=
  let l1 : PscLoop := { l with
    gates := l.gatesAt now, edges := l.edges.filter (fun e => decide (e.at_ ≤ now)), due := [], half := none, cut := false
    legA := false, legB := false }
  (List.range 4).foldl (fun k i => k.edge ⟨now, i, false⟩) l1

end Sys2Proof.Machine
end

