-- ==== Sys2Proof/Machine/Psc.lean ====
section
/-! DEFINITION. The power stage controller (R504 to R531): switching frequency, carrier phases, the start-up sequence,
over-current, retries and latch, and what a played sample does in its channel. -/

namespace Sys2Proof.Machine

/-! ### Driving (R526) -/

/-- The engine drives its outputs: in SOLO, in ACTIVE while it holds the claim, and in an ACTIVATING entered from SOLO
(R526, R532). -/
def State.drives (s : State) : Bool :=
  s.mode == 5 || (s.mode == 6 && s.twin.driving) || (s.mode == 9 && s.sys.actFrom == 5)

/-- The engine follows its channels: it drives them, or shadows the engine that does (R518, R521, R527). -/
def State.followsPsc (s : State) : Bool := s.drives || s.mode == 7

/-- A channel that is off. -/
def PscCh.fresh : PscCh where
  step := 0
  since := 0
  recovery := false
  testCut := false
  shut := 0
  cuts := []
  cutPeriod := none
  retryRun := false
  failed := 0
  shutdowns := 0
  nextRetry := none
  runSince := none
  limitAt := none
  target := 0
  loop := PscLoop.fresh
  speaker := Speaker.fresh
def State.pscCh (s : State) (n : Nat) : PscCh := Tab.get PscCh.fresh s.psc n
def State.setPscCh (s : State) (n : Nat) (x : PscCh) : State := { s with psc := Tab.put PscCh.fresh s.psc n x }

/-- Group of a channel, and the channels of a group (R504). -/
def pscGroup (n : Nat) : Nat := n / 8
def groupChannels (g : Nat) : List Nat := (List.range 8).map (8 * g + ·)

/-- Whether a channel is on: `psc_on` is 1 and no protection holds it. -/
def State.pscIsOn (s : State) (n : Nat) : Bool := s.on (El.pscOn n) && (s.pscCh n).shut == 0

/-! ### Switching frequency (R513, R514) -/

/-- The frequencies of the exclusion list. -/
def State.excluded (s : State) : List Nat := ((List.range 32).map (fun i => s.nat (El.pscExcl i))).filter (· ≠ 0)

/-- The distances |k f − x|. -/
def distances (xs : List Nat) (f : Nat) : List Nat :=
  xs.flatMap (fun x => (List.range 5).map (fun (k : Nat) => ((((k + 1) * f : Nat) : Int) - (x : Int)).natAbs))

/-- The smallest distance, if the list holds a frequency. -/
def smallest : List Nat → Option Nat
  | [] => none
  | x :: l => some (l.foldl min x)

/-- Whether a frequency is clear (R513). -/
def fswClear (xs : List Nat) (f : Nat) : Bool := (distances xs f).all (fun d => decide (4000 < d))

/-- The multiples of 250 Hz from 400 to 800 kHz. -/
def fswList : List Nat := (List.range 1601).map (fun i => 400000 + 250 * i)

/-- The clear frequency nearest to the preference, the lower of two (R514). -/
def nearestClear (xs : List Nat) (pref : Nat) : Option Nat :=
  fswList.foldl (fun b f =>
    if fswClear xs f = false then b
    else match b with
      | none => some f
      | some g => if ((f : Int) - pref).natAbs < ((g : Int) - pref).natAbs then some f else some g) none

/-- The frequencies whose smallest distance is the largest. -/
def widest (xs : List Nat) : List Nat :=
  let m (f : Nat) : Nat := (smallest (distances xs f)).getD 0
  let best := fswList.foldl (fun b f => max b (m f)) 0
  fswList.filter (fun f => m f = best)

/-- A group chooses its frequency (R514). Among several frequencies whose smallest distance is the largest the choice
is open, and so is the margin against an empty list (log entry 3). -/
def State.chooseFsw (s : State) (g : Nat) : State :=
  let xs := s.excluded
  let pref := s.nat (El.pgFswPref g)
  let w := s.fresh
  let l := widest xs
  let f := if s.nat (El.pgFswMode g) = 1 then pref
    else (nearestClear xs pref).getD (l.getD (w.1 % l.length) pref)
  ((w.2.setN (El.pgFsw g) f).setN (El.pgFswClear g) (if fswClear xs f then 1 else 0)).setN (El.pgMargin g)
    ((smallest (distances xs f)).getD (w.1 % 2 ^ 32))

/-! ### Carrier phases (R515) -/

/-- Whether the carriers of a group are staggered: during start-up, lead test and recovery, and in running service
where `pg_stagger_run` is 1. -/
def State.staggered (s : State) (g : Nat) : Bool :=
  s.on (El.pgStaggerRun g) || (groupChannels g).any (fun n => let k := (s.pscCh n).step; k != 0 && k != 5)

/-- The targets of the group's carriers follow its channels; `pg_channels_on` is N. The carriers move there as they turn. -/
def State.movePhases (s : State) (g : Nat) : State :=
  let on := (groupChannels g).filter s.pscIsOn
  let st := s.staggered g
  let s1 := on.zipIdx.foldl (fun (k : State) e =>
    k.setPscCh e.1 { k.pscCh e.1 with target := if st then stepsPerSecond * e.2 / on.length else 0 }) s
  s1.setN (El.pgChannelsOn g) on.length

/-! ### The loop's settings and its time -/

/-- What a channel's settings ask of its loop. The unity-gain frequency is at most f_sw / 8 (R511); the dead time is rounded to the
interpolator step (R509). -/
def State.loopSet (s : State) (n : Nat) : LoopSet :=
  let f := s.nat (El.pgFsw (pscGroup n))
  { profile := s.nat (El.pscProfile n)
    svScale := s.nat (El.pscSvScale n)
    siScale := s.nat (El.pscSiScale n)
    bw := min (s.nat (El.pscLoopBw n) * 1000) (f / 8)
    filtL := s.nat (El.pscFiltL n)
    filtC := s.nat (El.pscFiltC n)
    dead := (roundDiv ((s.nat (El.pscDead n) * stepsPerSecond : Nat) : Int) 1000000000000).toNat
    f := f
    target := (s.pscCh n).target
    step := (s.pscCh n).step }

/-- First loop period that begins in sample n of the running count, and the interpolator step in which it begins. -/
def State.loopFrom (s : State) (n : Nat) : Nat := ceilDiv (n * loopRate) s.fs

/-- The interpolator step that has been reached, counted from the sample that the channel played last. -/
def State.stepNow (s : State) (n : Nat) : Nat :=
  let l := (s.pscCh n).loop
  let idx := Tab.get 0 s.rounds.played (outKey (.psc n)) - 1
  l.smp * stepsPerSecond / s.fs + (s.smpClk - s.clkOf idx) * stepsPerSecond / (65536 * 1000000000)

/-- The gates on the pins, and whether `PSC_SCKg` carries its clock: both are held low where the engine does not drive (R526). -/
def State.pscPins (s : State) (n : Nat) : PscGates := if s.drives then (s.pscCh n).loop.gates else ⟨false, false, false, false⟩
def State.pscSck (s : State) (g : Nat) : Bool := s.drives && decide (8 * g < s.variant.pscChannels)

/-! ### What a channel shows (R529) -/

/-- `psc_state`. -/
def State.pscCode (s : State) (n : Nat) : Nat :=
  let x := s.pscCh n
  if x.shut = 1 then 4
  else if x.shut = 2 then 5
  else if x.step = 6 then 1
  else if s.on (El.pscOn n) = false then 0
  else if s.drives = false then 6
  else match x.step with
    | 1 => 2
    | 2 => 1
    | 3 => 2
    | 4 => 2
    | 5 => 3
    | _ => 6

/-- The status elements of a channel, and the phases of its group. -/
def State.showPsc (s : State) (n : Nat) : State :=
  let x := s.pscCh n
  let s1 := ((s.setN (El.pscState n) (s.pscCode n)).setN (El.pscRetries n) x.failed).setN (El.pscNextRetry n)
    (x.nextRetry.getD 0)
  let g := pscGroup n
  let s2 := s1.movePhases g
  if (groupChannels g).all (fun m => !s2.pscIsOn m) then s2.setN (El.pgFsw g) 0 else s2

/-! ### Starting (R516, R517, R527) -/

/-- The loop as a step of the start-up sequence begins: the lead test counts anew, the loop closes from rest, and in a recovery from
the state that it has with its decimators refilled (R516, R517, R527); without a step the gates go low. -/
def PscLoop.begin_ (l : PscLoop) (k now : Nat) (recovery : Bool) : PscLoop :=
  if k < 2 then l.stop now
  else if k = 2 ∨ k = 6 then { l with integ := 0, err := 0, out := 0, tested := 0, vPos := 0, iPos := 0, vNeg := 0, iNeg := 0 }
  else if k = 4 ∧ recovery then { l with sv := Sinc.fresh, si := Sinc.fresh, half := none }
  else if k = 4 then { l with integ := 0, err := 0, out := 0 }
  else l

/-- A step of the start-up sequence begins. -/
def State.pscStep (s : State) (n k : Nat) : State :=
  let x := s.pscCh n
  s.setPscCh n { x with step := k, since := s.time.tick, loop := x.loop.begin_ k (s.stepNow n) x.recovery }

/-- The gates of a channel go low, whatever it did. -/
def State.pscOpen (s : State) (n : Nat) : PscLoop := (s.pscCh n).loop.stop (s.stepNow n)

/-- The sequence goes on once the sense clock is there: the lead test, the bootstrap charge, or the closed loop of a
recovery. -/
def State.pscClocked (s : State) (n : Nat) : State :=
  let x := s.pscCh n
  (s.pscStep n (if x.recovery then 4 else if s.on (El.pscTestOnStart n) then 2 else 3)).showPsc n

/-- A channel starts (R516): its group chooses a frequency if all its channels were off, and the sense clock is checked.
Whether `PSC_SCIg` carries its clock is open (log entry 3). -/
def State.startPsc (s : State) (n : Nat) (recovery : Bool) : State :=
  if s.followsPsc = false ∨ s.pscIsOn n = false then s.showPsc n
  else
    let s1 := if s.nat (El.pgFsw (pscGroup n)) = 0 then s.chooseFsw (pscGroup n) else s
    let s2 := s1.setPscCh n { s1.pscCh n with recovery := recovery, testCut := false, cuts := [], cutPeriod := none, runSince := none }
    let w := s2.fresh
    if w.1 % 2 = 0 then (w.2.pscStep n 1).showPsc n else w.2.pscClocked n

/-- The channels that the variant has. -/
def State.pscList (s : State) : List Nat := List.range s.variant.pscChannels

/-- Every channel that is on starts (R526, R527). -/
def State.startAllPsc (s : State) (recovery : Bool) : State := s.pscList.foldl (fun k n => k.startPsc n recovery) s

/-- The SerDes lanes of ports A and B and of the coach links are forced to idle (R27, R418, R532). -/
def State.lanesIdle (s : State) : Bool := decide (s.mode ≤ 3)

/-- The gates are held low: no channel runs, and a channel that is on reads `psc_state` 6 (R526). -/
def State.holdPsc (s : State) : State :=
  s.pscList.foldl (fun k n => (k.setPscCh n { k.pscCh n with step := 0, runSince := none, loop := k.pscOpen n }).showPsc n) s

/-- Every channel shows its state anew; the sequences go on. -/
def State.showAllPsc (s : State) : State := s.pscList.foldl (fun k n => k.showPsc n) s

/-! ### Shutdown, retry and latch (R519, R520) -/

/-- First sample of the first round boundary `ms` from now. -/
def State.boundaryAfter (s : State) (ms : Nat) : Nat :=
  s.roundUp (ceilDiv ((s.smpClk + ms * 1000000 * 65536) * s.fs) (1000000000 * 65536))

/-- A channel shuts down with a cause: 1 over-current, 2 lead test failed. A retry that has not run for 10 s has
failed; the sixth failed retry latches the channel. -/
def State.shutPsc (s : State) (n cause : Nat) : State :=
  let x := s.pscCh n
  let ran : Bool := match x.runSince with
    | none => false
    | some r => decide (r + 10000000000 ≤ s.time.tick)
  let again : Bool := x.retryRun && !ran
  let failed := if again then x.failed + 1 else 0
  let downs := if again then x.shutdowns + 1 else 1
  let latch : Bool := decide (6 ≤ failed)
  let delay := if latch then 0 else 250 * 2 ^ failed
  let s1 := (s.setPscCh n { x with
    step := 0
    loop := s.pscOpen n
    shut := if latch then 2 else 1
    failed := failed
    shutdowns := downs
    retryRun := false
    runSince := none
    nextRetry := if latch then none else some (s.boundaryAfter delay) }).inc (El.pscShutdowns n)
  let s2 := (s1.showPsc n).post nOcShutdown (El.pscOn n) [n, cause, x.cuts.length, failed, delay]
  if latch then s2.post nPscLatch (El.pscOn n) [n, downs] else s2

/-- Whether the bridge of a channel switches, here or on the engine that this one shadows. -/
def State.pscSwitches (s : State) (n : Nat) : Bool :=
  decide (n < s.variant.pscChannels) && s.followsPsc && decide (2 ≤ (s.pscCh n).step)

/-- Whether the input reads 1 in the blanking time after an edge of the channel's own gates (R518). -/
def State.pscBlanked (s : State) (n : Nat) : Bool :=
  match (s.pscCh n).loop.lastEdge (s.stepNow n) with
  | none => false
  | some e => decide ((s.stepNow n - e) * 1000000000 < s.nat (El.pscOcBlank n) * stepsPerSecond)

/-- The number of the carrier period in progress. -/
def State.pscPeriod (s : State) (n : Nat) : Nat :=
  (s.stepNow n * s.nat (El.pgFsw (pscGroup n)) + (s.pscCh n).loop.shift) / stepsPerSecond

/-- OVER_CURRENT: outside blanking the pulse in progress is cut, and a carrier period with a cut counts once; more than 32 in 1 ms shut
the channel down (R518, R519). The shadow of a twin counts the periods in which the input reads 1. -/
def State.overCurrent (s : State) (n : Nat) : State :=
  if s.pscSwitches n = false ∨ (s.mode ≠ 7 ∧ s.pscBlanked n) then s
  else
    let x := s.pscCh n
    let now := s.stepNow n
    let loop := if s.mode = 7 then x.loop else x.loop.cutAt (s.loopSet n) now (s.loopFrom (x.loop.smp + 1) * loopSteps)
    if x.cutPeriod = some (s.pscPeriod n) then s.setPscCh n { x with loop := loop }
    else
      let cuts := s.time.tick :: x.cuts.filter (fun t => decide (s.time.tick < t + 1000000))
      let s1 := (s.setPscCh n { x with loop := loop, cuts := cuts, cutPeriod := some (s.pscPeriod n), testCut := true }).inc (El.pscCutCycles n)
      if 32 < cuts.length ∧ x.step ≠ 6 then s1.shutPsc n 1 else s1

/-- The channel is off, with nothing pending (R521). -/
def State.clearPsc (s : State) (n : Nat) : State :=
  s.setPscCh n { s.pscCh n with
    step := 0
    loop := s.pscOpen n
    shut := 0
    failed := 0
    shutdowns := 0
    retryRun := false
    nextRetry := none
    runSince := none }

/-! ### Writes (R517, R521, R529 to R531) -/

/-- The value of a write in areas 1E and 1F. -/
def State.pscValue (s : State) (a : Nat) (v : Val) : Status :=
  let o := objectOf a
  let e := elementOf a
  if areaOf a = 0x1F then
    (if e = 0x0B ∧ v.toInt ≤ s.int (El.lmTAmb o) + 100 then .outOfRange else .ok)
  else if o < 0x100 ∧ e = 0x0D ∧ v.toNat < s.nat (El.pscRMin o) then .outOfRange
  else if 0x100 ≤ o ∧ o < 0x200 ∧ e = 1 ∧ v.toNat % 250 ≠ 0 then .outOfRange
  else .ok

/-- What the state of a channel allows (R517, R521). -/
def State.pscStateOk (s : State) (a : Nat) (v : Val) : Status :=
  let n := objectOf a
  let e := elementOf a
  if areaOf a ≠ 0x1E ∨ 0x100 ≤ n then .ok
  else if e = 0 ∧ v.toNat = 1 ∧ (s.pscCh n).shut ≠ 0 then .wrongState
  else if e = 0x0F ∧ v.toNat = 1 ∧
      (s.on (El.pscOn n) ∨ (s.pscCh n).shut ≠ 0 ∨ (s.pscCh n).step ≠ 0 ∨ s.drives = false ∨ s.mode = 9) then .wrongState
  else if e = 0x10 ∧ v.toNat = 1 ∧ (s.pscCh n).shut ≠ 2 then .wrongState
  else .ok

/-- `psc_on` takes a value: protection prevails over a 1 (R284, R521). -/
def State.applyPscOn (s : State) (n v : Nat) : State :=
  let x := s.pscCh n
  if v = 1 then
    (if x.shut ≠ 0 then s
    else if s.on (El.pscOn n) then s
    else (s.setN (El.pscOn n) 1).startPsc n false)
  else
    let s1 := s.setN (El.pscOn n) 0
    if x.shut = 2 then s1.showPsc n else (s1.clearPsc n).showPsc n

/-- `psc_test`: the lead test alone, on a channel that is off (R517). -/
def State.applyPscTest (s : State) (n : Nat) : State :=
  if s.pscStateOk (El.pscTest n) (.int 1) ≠ .ok then s
  else ((s.setPscCh n { s.pscCh n with testCut := false }).pscStep n 6).showPsc n

/-- `psc_unlatch` (R521). -/
def State.applyPscUnlatch (s : State) (n : Nat) : State :=
  if (s.pscCh n).shut = 2 then ((s.setN (El.pscOn n) 0).clearPsc n).showPsc n else s

/-- A write in area 1E takes effect. -/
def State.applyPsc (s : State) (a : Nat) (v : Val) : State :=
  let n := objectOf a
  let e := elementOf a
  if n < 0x100 then
    if e = 0 then s.applyPscOn n v.toNat
    else if e = 0x0F then (if v.toNat = 1 then s.applyPscTest n else s)
    else if e = 0x10 then (if v.toNat = 1 then s.applyPscUnlatch n else s)
    else if e = 0x2F then (if v.toNat = 1 then s.setAll [El.pscCutCycles n, El.pscShutdowns n] 0 else s)
    else s.setV a v
  else if n < 0x200 ∧ e = 2 then (s.setV a v).movePhases (n - 0x100)
  else s.setV a v

/-! ### The events of a channel -/

/-- BOOTSTRAP_CHARGE: after 64 carrier periods the loop closes, and the input gain rises (R516). -/
def State.pscBootstrap (s : State) (n : Nat) : State :=
  let x := s.pscCh n
  if x.step = 3 ∧ 64 * 1000000000 ≤ (s.time.tick - x.since) * s.nat (El.pgFsw (pscGroup n)) then (s.pscStep n 4).showPsc n else s

/-- Length of the rise of the input gain, in ns: `psc_soft`, or 32 samples in a recovery. -/
def State.softNs (s : State) (n : Nat) : Nat :=
  if (s.pscCh n).recovery then ceilDiv (32 * 1000000000) s.fs else s.nat (El.pscSoft n) * 1000000

/-- SOFT_START_END: the input gain has reached 1, and the channel runs (R516). -/
def State.pscSoftEnd (s : State) (n : Nat) : State :=
  let x := s.pscCh n
  if x.step = 4 ∧ s.softNs n ≤ s.time.tick - x.since then
    (s.setPscCh n { x with step := 5, since := s.time.tick, runSince := some s.time.tick }).showPsc n
  else s

/-- The input gain of a channel now, as a fraction of the ramp of R516: numerator and denominator. -/
def State.pscGain (s : State) (n : Nat) : Nat × Nat :=
  let x := s.pscCh n
  match x.step with
  | 5 => (1, 1)
  | 4 => (min (s.time.tick - x.since) (s.softNs n), s.softNs n)
  | _ => (0, 1)

/-- (V₊ − V₋) / (I₊ − I₋) in mΩ, from the sums of both halves, each over as many samples; where the currents do
not differ the quotient is open, and so is how one that does not come out even is rounded (R517, log entry 71). -/
def PscLoop.measured (l : PscLoop) (mohm : Nat) (up : Bool) : Int :=
  let v := (l.vPos - l.vNeg) * 1000
  let i := l.iPos - l.iNeg
  let q (a b : Int) : Int := a / b + if up ∧ a % b ≠ 0 then 1 else 0
  if i = 0 then mohm else if 0 < i then q v i else q (-v) (-i)

/-- LEAD_TEST_DONE: the test passes when the resistance lies within its limits and no cut occurred; in a start the
bootstrap charge follows, or the shutdown with cause 2; a test alone leaves the channel off (R517, R519). -/
def State.pscTestDone (s : State) (n mohm : Nat) (up : Bool) : State :=
  let x := s.pscCh n
  if (x.step ≠ 2 ∧ x.step ≠ 6) ∨ (s.time.tick < x.since + 50000000 ∧ x.testCut = false) then s
  else
    let z := x.loop.measured mohm up
    let s1 := s.setN (El.pscMeasR n) (min z.toNat 65535)
    if x.step = 6 then (s1.pscStep n 0).showPsc n
    else if x.testCut ∨ z < (s.nat (El.pscRMin n) : Int) ∨ (s.nat (El.pscRMax n) : Int) < z then s1.shutPsc n 2
    else (s1.pscStep n 3).showPsc n

/-- SENSE_CLOCK_RETURN: a start that was held proceeds (R516). -/
def State.pscClock (s : State) (n : Nat) : State := if (s.pscCh n).step = 1 then s.pscClocked n else s

/-- PSC_RETRY: at the boundary of its retry round a channel that is shut down starts again; `psc_on` is corrected to 1
(R520, R521). -/
def State.pscRetry (s : State) (n : Nat) : State :=
  let x := s.pscCh n
  match x.nextRetry with
  | none => s
  | some m =>
    if x.shut ≠ 1 ∨ s.followsPsc = false ∨ s.roundsRun = false ∨ s.firstSample s.roundIssued < m then s
    else
      let s1 := s.setPscCh n { x with shut := 0, retryRun := true, nextRetry := none }
      (s1.correct (El.pscOn n) (.int 1)).startPsc n false

/-- RETRY_EPISODE_END: a retry that has run 10 s ends the episode (R520). -/
def State.pscEpisodeEnd (s : State) (n : Nat) : State :=
  let x := s.pscCh n
  match x.runSince with
  | none => s
  | some r =>
    if x.retryRun ∧ r + 10000000000 ≤ s.time.tick then
      (s.setPscCh n { x with retryRun := false, failed := 0, shutdowns := 0 }).showPsc n
    else s

/-- At a round boundary `psc_on` of a channel that is shut down or latched is corrected to 0 (R283, R521). -/
def State.correctPsc (s : State) : State :=
  s.pscList.foldl (fun k n => if (k.pscCh n).shut = 0 then k else k.correct (El.pscOn n) (.int 0)) s

/-! ### A played sample (R507, R522 to R525) -/

/-- The scaled samples at loop period L, at the interpolator's delay of 8 samples: the line between its neighbours, with the taps of the
polyphase filter over the last 16 (R507). Sample n of the count is the newest; `fed` is newest first. -/
def interpolated (fed : List Int) (fs n L : Nat) : Int :=
  let ph := L * fs - n * loopRate
  let a := fed.getD 8 0
  let c := a + roundDiv ((fed.getD 7 0 - a) * (ph : Int)) loopRate
  (fed.take 16).zipIdx.foldl (fun z e => z + roundShift (Config.pscTap e.2 ph * (e.1 - c)) 30) c

/-- The loop periods of a played sample. -/
def State.runLoop (s : State) (n smp : Nat) (y : Int) (sense : List (Bool × Bool)) : State :=
  let x := s.pscCh n
  let p := s.loopSet n
  let g := s.pscGain n
  let lo := s.loopFrom smp
  let hi := s.loopFrom (smp + 1)
  let fed := (roundShift (y * s.nat (El.pscVfs n)) 11 :: x.loop.fed).take 17
  let l0 : PscLoop := { x.loop with
    smp := smp, fed := fed, edges := x.loop.edges.filter (fun e => decide (lo * loopSteps < e.at_ + 8258)) }
  if s.followsPsc = false then s.setPscCh n { x with loop := { l0 with due := [] } }
  else
    let r := (List.range (hi - lo)).foldl (fun (a : PscLoop × Nat) i =>
      let ref := if g.1 = 0 then 0 else roundDiv (interpolated fed s.fs smp (lo + i) * (g.1 : Int)) g.2
      let q := a.1.period p (lo + i) ref ((sense.drop (8 * i)).take 8)
      (q, max a.2 q.amp.natAbs)) (l0, 0)
    let peaks := pushPeak s.fs smp r.2 r.1.peaks
    (s.setPscCh n { x with loop := { r.1 with peaks := peaks } }).setN (El.pscIPeak n) (min (roundShift (peakIn peaks : Int) 20).toNat 65535)

/-- EXCURSION_LIMIT at the start of a limiting episode, at most once a second (R525): of the limiter with the gain that the sample
needs, or of the thermal gain (log entry 117). -/
def State.noteLimit (s : State) (n : Nat) (was : Speaker) : State :=
  let x := s.pscCh n
  let q := x.speaker
  let quiet : Bool := match x.limitAt with
    | none => false
    | some t => decide (s.time.tick < t + 1000000000)
  let say (kind value gain : Nat) : State :=
    (s.setPscCh n { x with limitAt := some s.time.tick }).post nExcursionLimit (El.pscOn n) [n, kind, value, wordParam (-reading gain)]
  if quiet then s
  else if q.limits ∧ was.limits = false then say 1 (q.shown (peakIn q.peaks) / 10) (q.needs q.x.natAbs)
  else if q.hot ∧ was.hot = false then say 2 (wordParam (q.temp / 2 ^ 64)) q.thermal
  else s

/-- A sample that a channel plays passes its protection and its loop (R507); `idx` is its timeline index, and `sense` the bits of `SV`
and `SI` in its sample period. -/
def State.pscPlay (s : State) (n idx : Nat) (y : Int) (sense : List (Bool × Bool)) : State :=
  let x := s.pscCh n
  let r := x.speaker.sample s.fs (s.nat (El.pscVfs n)) y
  let q : Speaker := { r.1 with limits := decide (r.1.gain < 2 ^ 31), hot := decide (0 < r.1.att) }
  let s1 := (s.setPscCh n { x with speaker := q }).runLoop n (byJump (-s.rounds.slid) idx) r.2 sense
  if q.model = 0xFF then s1
  else ((s1.noteLimit n x.speaker).setN (El.pscXPeak n) (min (q.shown (peakIn q.peaks)) 65535)).setI (El.pscTCoil n) (q.temp / 2 ^ 64)

/-- The model that a channel names is in force from a round boundary on; parameters written meanwhile keep its state (R522). -/
def State.latchModel (s : State) (n : Nat) : State :=
  let x := s.pscCh n
  let m := s.nat (El.pscModel n)
  let pars := if m = 0xFF then [] else (List.range 14).map (fun e => s.int (El.lmBl m + e))
  let q := if m = x.speaker.model then { x.speaker with pars := pars } else { Speaker.fresh with model := m, pars := pars, line := x.speaker.line }
  s.setPscCh n { x with speaker := { q with lowest := 2 ^ 31 } }

/-- What the round that ends leaves for READ, and the models of the next one: `psc_gr` is the largest reduction of the round; a channel
with no model reads none. -/
def State.pscBoundary (s : State) : State :=
  (s.pscList).foldl (fun (k : State) n =>
    let q := (k.pscCh n).speaker
    let k1 := k.setI (El.pscGr n) (min (-(reading q.lowest)) 32767)
    (if q.model = 0xFF then k1.setAll [El.pscXPeak n, El.pscTCoil n] 0 else k1).latchModel n) s

end Sys2Proof.Machine
end

