-- ==== Sys2Proof/Machine/Sap.lean ====
section
/-! DEFINITION. Serial ports, rings, the start trigger and the ASRC bank (R289 to R324). -/

namespace Sys2Proof.Machine

/-! ### In-trays and played samples (R28, R49, R57) -/

/-- Replace item i of a list. -/
def setAt (l : List Int) (i : Nat) (v : Int) : List Int := l.zipIdx.map (fun e => if e.2 = i then v else e.1)

/-- A sample with timeline index `idx` enters the in-tray that is collected in its round and computed in the next; an
in-tray that has been handed over takes nothing more (R63). -/
def State.capture (s : State) (sig idx : Nat) (v : Int) : State :=
  let b := s.roundB
  let k := idx / b + 1
  if k < s.rounds.nextPulse then s
  else
    let tray := Tab.get [] s.rounds.inTrays k
    let x := setAt (Tab.get s.zeros tray sig) (idx % b) v
    { s with rounds := { s.rounds with inTrays := Tab.put [] s.rounds.inTrays k (Tab.put [] tray sig x) } }

/-- The sample that an output played `back` samples before its last one. -/
def State.playedBack (s : State) (key back : Nat) : Int := (Tab.get [] s.rounds.lastOut key).getD back 0

/-! ### Formats (R291 to R299) -/

/-- A port as reset leaves it: masks and gates at their defaults, DOUT low (R27, R532). -/
def SapPort.fresh : SapPort where
  rxMask := 3
  txMask := 3
  rxOn := 0
  txOn := 0
  writes := []
  cut := []
  goodFrames := 0
  locked := false
  slipped := false
  startWait := false
  gates := []
  prevWords := []
  dout := []
  driven := []
  clocks := .released
  line := .low
  bits := []
  sync := []
  onRising := false
  aes := []
  lastIn := none
def State.sapPort (s : State) (p : Nat) : SapPort := Tab.get SapPort.fresh s.sap.ports p
def State.setSapPort (s : State) (p : Nat) (x : SapPort) : State :=
  { s with sap := { s.sap with ports := Tab.put SapPort.fresh s.sap.ports p x } }

/-- Bits of a slot word. -/
def State.wordBits (s : State) (p : Nat) : Nat := if s.nat (El.spFormat p) = 3 then 24 else s.nat (El.spWidth p)
/-- A port that takes its clocks from its pins. -/
def State.isSlave (s : State) (p : Nat) : Bool := s.nat (El.spFormat p) == 3 || s.nat (El.spClocking p) == 0
/-- The largest master frame length (R296). -/
def maxFrame (fs : Nat) : Nat := if fs ≤ 48000 then 1024 else if fs ≤ 96000 then 512 else 256
/-- The fastest BCLK of a rate family, Hz (R296). -/
def maxBclk (fs : Nat) : Nat := if fs % 44100 = 0 then 45158400 else 49152000
/-- Whether a number is a power of two from 16 to 1,024. -/
def isFrameLen (n : Nat) : Bool := [16, 32, 64, 128, 256, 512, 1024].contains n

/-- Whether a frame counts for the lock of a port (R295, R297, R299): length and phase as expected, an unlocked port's rate in
range, and the BCLK of a slave within the limit of R296. -/
def State.frameGood (s : State) (p : Nat) (f : SapFrame) : Bool :=
  let aes := s.nat (El.spFormat p) == 3
  f.good && (s.nat (El.spDomain p) == 0 ||
      (if aes then decide (3200000 ≤ f.rate) && decide (f.rate ≤ 19200000) else decide (800000 ≤ f.rate) && decide (f.rate ≤ 38400000))) &&
    (aes || decide (s.nat (El.spFrameLen p) * f.rate ≤ maxBclk s.fs * 100))

/-- The BCLK period of a frame in which slot k begins (R291). -/
def State.slotAt (s : State) (p k : Nat) : Nat :=
  let len := s.nat (El.spFrameLen p)
  let off := s.nat (El.spOffset p)
  match s.nat (El.spFormat p) with
  | 0 => k * (len / 2) + 1 + off
  | 1 => k * (len / 2) + off
  | _ => off + k * s.nat (El.spWidth p)

/-- Whether the slots fit the frame or half frame (R297). -/
def State.slotsFit (s : State) (p : Nat) : Bool :=
  let len := s.nat (El.spFrameLen p)
  let w := s.nat (El.spWidth p)
  let off := s.nat (El.spOffset p)
  match s.nat (El.spFormat p) with
  | 0 => decide (1 + off + w ≤ len / 2)
  | 1 => decide (off + w ≤ len / 2)
  | 2 => decide (off + s.nat (El.spSlots p) * w ≤ len)
  | _ => true

/-- The settings that R297 refuses when a port is enabled. -/
def State.portBad (s : State) (p : Nat) : Bool :=
  let f := s.nat (El.spFormat p)
  let m := f != 3 && s.nat (El.spClocking p) == 1
  (f != 2 && s.nat (El.spSlots p) != 2) || (f == 3 && decide (7 < p)) || !(s.slotsFit p) ||
    (m && (!(isFrameLen (s.nat (El.spFrameLen p))) || decide (maxFrame s.fs < s.nat (El.spFrameLen p)) ||
      s.nat (El.spDomain p) == 1))

/-- Whether a port is enabled, and whether it carries data: enabled, in the locked domain, in lock (R295, R299, R307). -/
def State.portOn (s : State) (p : Nat) : Bool := s.on (El.spEnable p) && s.domainUp 0x10 && decide (p < s.variant.serialPorts)
def State.portLocked (s : State) (p : Nat) : Bool := s.portOn p && (!s.isSlave p || (s.sapPort p).locked)
def State.portData (s : State) (p : Nat) : Bool :=
  s.portLocked p && s.nat (El.spDomain p) == 0 && s.nat (El.spEnable p) == 1

/-- `sp_state` follows the port (R319). -/
def State.showPort (s : State) (p : Nat) : State :=
  let st := if s.on (El.spEnable p) = false then 0
    else if s.portLocked p then (if s.nat (El.spEnable p) = 2 then 2 else 3)
    else if (s.sapPort p).slipped then 4 else 1
  s.setN (El.spState p) st

/-! ### Pins (R27, R293, R296, R300) -/

/-! ### Supplies and the switched pull-downs (R567, R575, R576) -/

/-- Min and Max of a rail in 0.01 mV (R567): 0 `VDD_DSP`, at the operating point, 1 `VDD_CORE`, 2 `VDD_SRAM`, 3 `VDD_AO`, 4 `VDD2H`,
5 `VDDQ`, 6 `VDD_SD`, 7 `VDDA_SD`, 8 `VDDIO18`, 9 `VDDIO33`. -/
def State.railLimits (s : State) (r : Nat) : Nat × Nat :=
  if r = 0 then (s.refs.vout * 97, s.refs.vout * 105)
  else [(0, 0), (72750, 78750), (77600, 84000), (72750, 78750), (101000, 112000), (47000, 57000), (82450, 89250), (116400, 126000),
    (171000, 189000), (313500, 346500)].getD r (0, 0)

/-- Whether a rail is within its limits, `VDD_SRAM` never below `VDD_CORE`. -/
def State.railOk (s : State) (r : Nat) : Bool :=
  match Tab.get none s.sys.rails r with
  | none => true
  | some v =>
    let l := s.railLimits r
    let core := (Tab.get none s.sys.rails 1).getD 7500
    decide (l.1 ≤ 10 * v) && decide (10 * v ≤ l.2) && (r != 2 || decide (core ≤ v))

/-- Whether a switched pull-down on a pin of an I/O rail may be engaged: while `VDD_AO` and that rail are within their limits, on a part
that has its supplies (R575). -/
def State.pullsOn (s : State) (io : Nat) : Bool := s.sys.powered && s.railOk 3 && s.railOk io

/-- The pull-down of `CLAIM_IO` (R474, R577): engaged while `tw_enable` is 1 and its supplies stand. -/
def State.claimPull (s : State) : Bool := s.on El.twEnable && s.pullsOn 9

/-- BCLK, FSYNC and DOUT of a port as the mode, the claim and the port's settings leave them. In the safe states DOUT is low
through its pull-down, which needs its supplies, and master clocks stop where they stand; where the engine does not drive, on
a port that is off, and in OFF and DORMANT, all are released (R27, R300, R532, R576). -/
def State.pinsOf (s : State) (p : Nat) (x : SapPort) : SapPort :=
  if s.mode = 2 ∨ s.mode = 3 then
    { x with clocks := if x.clocks = .driven then .stopped else x.clocks, line := if s.pullsOn 8 then .low else .released, dout := [], driven := [], bits := [], sync := [], aes := [] }
  else if s.drives && s.portOn p then
    { x with clocks := if s.isSlave p then .released else .driven, line := .driven }
  else { x with clocks := .released, line := .released, dout := [], driven := [], bits := [], sync := [], aes := [] }

/-- The pins of every port follow a change of mode, claim, domain or setting. -/
def State.followPins (s : State) : State :=
  (List.range s.variant.serialPorts).foldl (fun (k : State) p => k.setSapPort p (k.pinsOf p (k.sapPort p))) s

/-! ### Masks and gates (R303, R304, R306) -/

/-- The cut-off of a frame, as BCLK periods of a frame of the second number: the start of the last slot (R303). -/
def State.cutOff (s : State) (p : Nat) : Nat × Nat :=
  let len := s.nat (El.spFrameLen p)
  let off := s.nat (El.spOffset p)
  match s.nat (El.spFormat p) with
  | 0 => (len / 2 + 1 + off, len)
  | 1 => (len / 2 + off, len)
  | 2 => (off + (s.nat (El.spSlots p) - 1) * s.nat (El.spWidth p), len)
  | _ => (1, 2)

/-- The first frame that a shadow write made now governs; frames of a port off the timeline have no number, and the next
one takes the copy (R303). -/
def State.governs (s : State) (p : Nat) : Nat :=
  if s.anchored = false ∨ s.nat (El.spDomain p) = 1 then 0
  else
    let unit := 1000000000 * 65536
    let at_ := s.smpClk * s.fs % unit
    let c := s.cutOff p
    if at_ * c.2 < c.1 * unit then s.sampleNow + 1 else s.sampleNow + 2

/-- A write of a mask or gate lands in the shadow, which the dictionary shows. -/
def State.shadowWrite (s : State) (p e v : Nat) : State :=
  let x := s.sapPort p
  (s.setSapPort p { x with writes := x.writes ++ [(s.governs p, e, v)] }).setN (addrOf 0x08 p e) v

/-- An active setting takes a value. -/
def SapPort.take (x : SapPort) (e v : Nat) : SapPort :=
  match e with
  | 0x0A => { x with rxMask := v }
  | 0x0B => { x with txMask := v }
  | 0x0D => { x with rxOn := v }
  | 0x0E => { x with txOn := v }
  | _ => x

/-- A gate at rest. -/
def Gate.rest (open_ : Bool) : Gate := ⟨if open_ then 32 else 0, open_, 0, false, 0⟩
def SapPort.gate (x : SapPort) (k : Nat) : Gate := Tab.get (Gate.rest false) x.gates k
def SapPort.setGate (x : SapPort) (k : Nat) (g : Gate) : SapPort :=
  { x with gates := Tab.put (Gate.rest false) x.gates k g }

/-- The gates of a bank (first key `base`) follow the bits that a copy made active: a changed bit starts a new wait from
the gate's position (R306). -/
def turnGates (x : SapPort) (base bits : Nat) : SapPort :=
  (List.range 32).foldl (fun (y : SapPort) i =>
    let g := y.gate (base + i)
    if g.openTo = bitOf bits i then y
    else y.setGate (base + i) { g with openTo := bitOf bits i, waited := 0, moving := false }) x

/-- A frame that carries no data passes exact zero, which is a crossing: the gates of a bank reach their goals (R306). -/
def settleGates (x : SapPort) (base : Nat) : SapPort :=
  (x.gates.filter (fun e => decide (base ≤ e.1) && decide (e.1 < base + 32))).foldl (fun (y : SapPort) e =>
    y.setGate e.1 { Gate.rest e.2.openTo with prevY := 0 }) x
def State.settleIn (s : State) (p : Nat) : State := s.setSapPort p (settleGates (s.sapPort p) 0)

/-- The copy that governs frame m (R303, R304). -/
def State.copyShadow (s : State) (p m : Nat) : State :=
  let x := s.sapPort p
  let a := s.nat (El.spApplyAt p)
  let due := x.cut ++ (if m < a then [] else x.writes.filter (fun w => decide (w.1 ≤ m)))
  let y := due.foldl (fun (k : SapPort) w => k.take w.2.1 w.2.2) x
  let z := turnGates (turnGates y 0 y.rxOn) 32 y.txOn
  let s1 := s.setSapPort p { z with
    cut := []
    writes := if m < a then x.writes else x.writes.filter (fun w => decide (m < w.1)) }
  if m < a then s1 else s1.setN (El.spApplyAt p) 0

/-- A write of `sp_apply_at`: what earlier cut-offs took stays taken, and what the old index held waits for the next cut-off
that the new one lets pass (R303, R304). -/
def State.writeApplyAt (s : State) (p v : Nat) : State :=
  let x := s.sapPort p
  let old := s.nat (El.spApplyAt p)
  let g := s.governs p
  let taken (w : Nat × Nat × Nat) : Bool := decide (w.1 < g) && decide (old ≤ w.1)
  let hold (w : Nat × Nat × Nat) : Nat × Nat × Nat := (if w.1 < old then max w.1 g else w.1, w.2)
  (s.setSapPort p { x with
    cut := x.cut ++ x.writes.filter taken
    writes := (x.writes.filter (fun w => !taken w)).map hold }).setN (El.spApplyAt p) v

/-- Where a gate goes to. -/
def Gate.goal (g : Gate) : Nat := if g.openTo then 32 else 0

/-- y at k/32, rounded half to even. -/
def gatedBy (y : Int) (k : Nat) : Int := roundShift (y * k) 5

/-- Whether a sample is a zero crossing of its signal. -/
def crosses (prev y : Int) : Bool := y == 0 || (decide (prev < 0) && decide (0 < y)) || (decide (0 < prev) && decide (y < 0))

/-- One sample through a gate whose wait lasts `n` samples (R306). -/
def Gate.pass (g : Gate) (n : Nat) (y : Int) : Gate × Int :=
  let move (h : Gate) : Gate × Int :=
    let k := if h.openTo then h.pos + 1 else h.pos - 1
    ({ h with pos := k, moving := decide (k ≠ h.goal), waited := 0, prevY := y }, gatedBy y k)
  if g.pos = g.goal ∧ g.moving = false then ({ g with prevY := y }, gatedBy y g.pos)
  else if g.moving then move g
  else if n = 0 ∨ (g.waited < n ∧ crosses g.prevY y) then
    ({ g with pos := g.goal, waited := 0, prevY := y }, gatedBy y g.goal)
  else if n ≤ g.waited then move { g with moving := true }
  else ({ g with waited := g.waited + 1, prevY := y }, gatedBy y g.pos)

/-- Samples that a gate of port p waits for a crossing (R306). -/
def State.gateWait (s : State) (p : Nat) : Nat := ceilDiv (s.nat (El.spZcTimeout p) * s.fs) 1000

/-- Pass a sample through gate k of port p. -/
def State.passGate (s : State) (p k : Nat) (y : Int) : State × Int :=
  let x := s.sapPort p
  let r := (x.gate k).pass (s.gateWait p) y
  (s.setSapPort p (x.setGate k r.1), r.2)

/-! ### Rings (R309 to R313, R321) -/

/-- The slots of a mask. -/
def maskSlots (m : Nat) : List Nat := (List.range 32).filter (bitOf m)

/-- Bytes of a channel word, and of a frame of ring r (R310). -/
def State.ringWord (s : State) (r : Nat) : Nat := if s.nat (El.ringPack r) = 0 then 3 else 4
def State.ringFrame (s : State) (r : Nat) : Nat := (maskSlots (s.nat (El.ringMask r))).length * s.ringWord r

/-- A channel word of a sample (R310). -/
def packWord (pack : Nat) (x : Int) : List Byte :=
  let z := roundShift x 8
  let v := if z < -8388608 then -8388608 else if 8388607 < z then 8388607 else z
  match pack with
  | 0 => leBytes 3 (wrap 24 v)
  | 1 => leBytes 4 (wrap 24 v * 256)
  | _ => leBytes 4 (wrap 32 v)

/-- The sample that a channel word plays. -/
def unpackWord (pack : Nat) (b : List Byte) : Int :=
  let n := leVal b
  signed 24 (if pack = 1 then n / 256 else n % 2 ^ 24) * 256

/-- Whether ring r runs now: started, and past what it waits for. -/
def State.ringRuns (s : State) (r : Nat) : Bool :=
  (s.nat (El.ringState r) == 1 || s.nat (El.ringState r) == 3)

/-- Frame m is the first that ring r handles (R313). -/
def State.ringFirst (s : State) (r m : Nat) : State :=
  if Tab.get 0 s.sap.ringWait r = 3 then
    { (s.setN (El.ringStartSample r) m) with sap := { s.sap with ringWait := Tab.drop s.sap.ringWait r } }
  else s

/-- A capture ring records the samples of a frame, or stops where it is full (R312). -/
def State.ringCapture (s : State) (r m : Nat) (smp : Nat → Int) : State :=
  let n := s.nat (El.ringFrames r)
  let wr := s.nat (El.ringWr r)
  let rd := s.nat (El.ringRd r)
  let full : Bool := decide ((wr + 1) % n = rd)
  if full ∧ s.nat (El.ringFull r) = 0 then s.setN (El.ringState r) 2
  else
    let s1 := if full then s.setN (El.ringRd r) ((rd + 1) % n) else s
    let b := (maskSlots (s.nat (El.ringMask r))).flatMap (fun k => packWord (s.nat (El.ringPack r)) (smp k))
    ((s1.ringFirst r m).dramStore .second (s.nat (El.ringBase r) + wr * s.ringFrame r) b).setN (El.ringWr r) ((wr + 1) % n)

/-- A playback ring gives the samples of a frame by slot; an empty one gives zero and counts it (R312), and so does a frame
whose bytes cannot be read (R454, log entry 102). -/
def State.ringPlay (s : State) (r m : Nat) : State × List (Nat × Int) :=
  let slots := maskSlots (s.nat (El.ringMask r))
  let rd := s.nat (El.ringRd r)
  if s.nat (El.ringWr r) = rd then
    (((s.ringFirst r m).inc (El.ringXruns r)).setN (El.ringState r) 3, slots.map (fun k => (k, 0)))
  else
    let at_ := s.nat (El.ringBase r) + rd * s.ringFrame r
    let w := s.ringWord r
    let q := (s.ringFirst r m).dramFetch .second at_ (s.ringFrame r)
    let s1 := (q.1.setN (El.ringState r) 1).setN (El.ringRd r) ((rd + 1) % s.nat (El.ringFrames r))
    match q.2 with
    | none => (s1.inc (El.ringXruns r), slots.map (fun k => (k, 0)))
    | some b => (s1, slots.zipIdx.map (fun e => (e.1, unpackWord (s.nat (El.ringPack r)) (slice b (e.2 * w) w))))

/-- The running rings of a direction on port p. -/
def State.portRings (s : State) (p dir : Nat) : List Nat :=
  (List.range 16).filter (fun r => s.ringRuns r && s.nat (El.ringPort r) == p && s.nat (El.ringDir r) == dir)

/-- Rings that wait for `what` start (R321). -/
def State.startRings (s : State) (what : Nat) : State :=
  ((s.sap.ringWait.filter (fun e => e.2 = what)).map (·.1)).foldl (fun (k : State) r =>
    { (k.setN (El.ringState r) 1) with sap := { k.sap with ringWait := Tab.ins r 3 k.sap.ringWait } }) s

/-- A write of `ring_run` (R312, R321). -/
def State.applyRingRun (s : State) (r v : Nat) : State :=
  let s1 := (s.setN (El.ringRun r) v).setN (El.ringState r) 0
  if v = 0 then { s1 with sap := { s1.sap with ringWait := Tab.drop s1.sap.ringWait r } }
  else { (s1.setAll [El.ringWr r, El.ringRd r] 0) with sap := { s1.sap with ringWait := Tab.ins r v s1.sap.ringWait } }

/-! ### The ASRC bank (R314 to R318, R322 to R324) -/

/-- A channel's source belongs to its group (R314). -/
def State.asrcMatches (s : State) (n : Nat) : Bool :=
  let a := s.nat (El.asrcSource n)
  let src := s.nat (El.agSource (s.nat (El.asrcGroup n)))
  if sigKind a = 1 then sigIndex a / 32 == src
  else if sigKind a = 0 then
    decide (0x100 ≤ src) && decide (src < 0x300) &&
      decide (s.nat (El.rxFirst (src - 0x100)) ≤ sigIndex a) &&
      decide (sigIndex a < s.nat (El.rxFirst (src - 0x100)) + s.nat (El.rxChannels (src - 0x100)))
  else false

/-- `asrc_state` of every channel (R322). -/
def State.showAsrc (s : State) : State :=
  (List.range s.variant.asrcChannels).foldl (fun (k : State) n =>
    k.setN (El.asrcState n)
      (if k.nat (El.asrcSource n) = silence then 0
      else if k.asrcMatches n = false then 3 else k.nat (El.agState (k.nat (El.asrcGroup n))))) s

/-- Whether a heartbeat path is silent: 1 courier, 2 pulse pair. -/
def State.silent (s : State) (path : Nat) : Bool :=
  decide (s.nat El.twFailRounds ≤ (if path = 1 then s.twin.silentCourier else s.twin.silentPair))
/-- Whether the partner is declared failed (R485). -/
def State.partnerFailed (s : State) : Bool := s.silent 1 && s.silent 2

/-- The ASRC bank follows the ACTIVE's positions: in SHADOW, but for one that is isolated or whose partner has failed, which uses its own
estimates, and in a resync from its snapshot on (R318, R480, R485, R498). -/
def State.asrcFollows (s : State) : Bool :=
  (s.mode == 7 && s.nat El.twRole != 5 && !s.partnerFailed) || (s.mode == 8 && decide (2 ≤ s.twin.resyncStep))

/-- A group loses its lock, or its input: it counts the loss of a lock, and its channels fall to zero over 32 samples from the
level that they had (R316, R317). -/
def State.asrcDrop (s : State) (g st : Nat) : State :=
  let was := s.nat (El.agState g)
  let s1 := s.setN (El.agState g) st
  let s2 := if was = 2 then s1.inc (El.agUnlocks g) else s1
  let q := s2.sap
  ({ s2 with sap := { q with
    asrcFade := if was = 2 then q.asrcFade else Tab.drop q.asrcFade g
    asrcLoss := if was = 2 then Tab.ins g 32 q.asrcLoss else q.asrcLoss
    asrcSince := if st = 1 then Tab.ins g s.time.tick q.asrcSince else Tab.drop q.asrcSince g } } : State).showAsrc

/-- A group shows a measured rate and its ratio to Fs_int (R323). -/
def State.showRate (s : State) (g rate : Nat) : State :=
  (s.setN (El.agRate g) (rate % 2 ^ 32)).setN (El.agRatio g)
    ((rate * 2 ^ 32 / (s.fs * 100) + if Config.ratioUp rate s.fs then 1 else 0) % 2 ^ 64)

/-- Whether a rate lies within ±1,000 ppm of that at lock (R315). -/
def State.tracks (s : State) (g rate : Nat) : Bool :=
  let r := Tab.get 0 s.sap.asrcRate g
  decide (((rate : Int) - r).natAbs * 1000 ≤ r)

/-- `n` sample instants at a rate reach a group: one without input acquires, and a locked one returns to acquiring when its
rate leaves the tracking range (R316). A SHADOW's groups do not estimate (R318). -/
def State.groupFeed (s : State) (g rate n : Nat) : State :=
  let idle := s.nat (El.agState g) = 0
  let s1 : State := { s with sap := { s.sap with
    asrcFed := g :: s.sap.asrcFed
    asrcSeen := Tab.put 0 s.sap.asrcSeen g (if idle then n else Tab.get 0 s.sap.asrcSeen g + n) } }
  if s1.asrcFollows then s1
  else if idle then s1.asrcDrop g 1
  else if s1.nat (El.agState g) ≠ 2 then s1
  else if s1.tracks g rate = false then s1.asrcDrop g 1
  else s1.showRate g rate

/-- Samples reach a channel: the last 1,024 are kept. -/
def State.asrcPush (s : State) (n : Nat) (x : List Int) : State :=
  { s with sap := { s.sap with asrcIn := Tab.put [] s.sap.asrcIn n ((x.reverse ++ Tab.get [] s.sap.asrcIn n).take 1024) } }

/-- A source delivers sample instants, each the samples of its signals, at a rate (R314, R316). -/
def State.asrcFeed (s : State) (src rate : Nat) (x : List (List (Nat × Int))) : State :=
  let s1 := (List.range 32).foldl (fun (k : State) g => if k.nat (El.agSource g) = src then k.groupFeed g rate x.length else k) s
  (List.range s1.variant.asrcChannels).foldl (fun (k : State) n =>
    let a := k.nat (El.asrcSource n)
    if k.nat (El.agSource (k.nat (El.asrcGroup n))) = src ∧ k.asrcMatches n then
      k.asrcPush n (x.filterMap (fun t => (t.find? (fun e => e.1 = a)).map (·.2)))
    else k) s1

/-- A group's source is out of lock or off; a SHADOW's groups follow the ACTIVE alone (R318). -/
def State.asrcStarve (s : State) (src : Nat) : State :=
  (List.range 32).foldl (fun (k : State) g =>
    if k.asrcFollows = false ∧ k.nat (El.agSource g) = src ∧ k.nat (El.agState g) ≠ 0 then k.asrcDrop g 0 else k) s

/-- Whether a group's channels sound: it is locked, or falls to zero after a loss. -/
def State.asrcSounds (s : State) (g : Nat) : Bool := s.nat (El.agState g) == 2 || decide (0 < Tab.get 0 s.sap.asrcLoss g)

/-- The gain of a group on the i-th sample of a round: k of n (R317). -/
def State.asrcGain (s : State) (g i : Nat) : Nat × Nat :=
  let level := Tab.get 0 s.sap.asrcFade g
  if s.nat (El.agState g) = 2 then (min 1024 (level + i), 1024) else (level * (Tab.get 0 s.sap.asrcLoss g - i), 1024 * 32)

/-- Input samples, unsigned Q40.24, that a group passes in a round. -/
def State.asrcStep (s : State) (g : Nat) : Nat := s.roundB * (s.nat (El.agRatio g) / 2 ^ 8)

/-- A group's position moves on by a round: by its ratio, and by the estimator's correction of at most 1/16 input sample
(R315, R316). -/
def State.asrcAdvance (s : State) (g : Nat) : State :=
  let pos := Tab.get 0 s.sap.asrcPos g
  let c := Config.asrcTrack (s.nat (El.agBandwidth g)) (Tab.get 0 s.sap.asrcSeen g) pos % (2 ^ 21 + 1)
  { s with sap := { s.sap with asrcPos := Tab.put 0 s.sap.asrcPos g (pos + s.asrcStep g + c - 2 ^ 20) } }

/-- Input sample j of a channel of group g, counted from the first since the group began to acquire. -/
def State.asrcInput (s : State) (n g j : Nat) : Int :=
  let seen := Tab.get 0 s.sap.asrcSeen g
  if j < seen then (Tab.get [] s.sap.asrcIn n).getD (seen - 1 - j) 0 else 0

/-- The i-th sample that channel n delivers in a round: the 128 input samples up to the group's position, weighted about the
point 64 input samples before it (R315). -/
def State.asrcOut (s : State) (n i : Nat) : Int :=
  let g := s.nat (El.asrcGroup n)
  let pos : Nat := Tab.get 0 s.sap.asrcPos g + i * (s.nat (El.agRatio g) / 2 ^ 8)
  let mid : Int := (pos : Int) - (64 * 2 ^ 24 : Nat)
  let part (d : Nat) : Int :=
    if pos / 2 ^ 24 < d then 0
    else
      let j := pos / 2 ^ 24 - d
      s.asrcInput n g j * Config.asrcTap (s.nat (El.agRate g)) s.fs (mid - (j * 2 ^ 24 : Nat)).natAbs
  satQ31 (roundShift ((List.range 128).map part).sum 30)

/-- The samples that the ASRC delivers in a round, under the fades of R317: exact zero for a channel whose group is not locked
or whose source is not in the group. A channel whose group was locked at some moment of the round is not lost. -/
def State.asrcTray (s : State) (k : Nat) : State :=
  (List.range s.variant.asrcChannels).foldl (fun (q : State) n =>
    let g := q.nat (El.asrcGroup n)
    let q1 : State := if q.asrcMatches n && (q.nat (El.agState g) == 2 || q.sap.asrcHeld.contains g) then
      { q with rounds := { q.rounds with live := sigAsrc n :: q.rounds.live } } else q
    if q.asrcMatches n = false ∨ q.asrcSounds g = false then q1
    else
      let x := (List.range q.roundB).map (fun i => let f := q.asrcGain g i; roundDiv (q.asrcOut n i * f.1) f.2)
      let tray := Tab.get [] q1.rounds.inTrays k
      { q1 with rounds := { q1.rounds with inTrays := Tab.put [] q1.rounds.inTrays k (Tab.put [] tray (sigAsrc n) x) } }) s

/-- The fades of the groups after a round. -/
def Sap.faded (q : Sap) (b : Nat) (locked : Nat → Bool) : Sap :=
  let loss := (q.asrcLoss.map (fun e => (e.1, e.2 - b))).filter (fun e => e.2 ≠ 0)
  { q with
    asrcFade := (q.asrcFade.filter (fun e => locked e.1 || loss.any (fun l => l.1 == e.1))).map
      (fun e => (e.1, if locked e.1 then min 1024 (e.2 + b) else e.2))
    asrcLoss := loss
    asrcHeld := (List.range 32).filter locked }

/-- The groups at the boundary into round k (R316, R317, R324): positions move on where the engine estimates them, samples are
delivered, fades advance, groups that a write returns to acquiring do so, and a group whose source delivered nothing for the
round has no input. -/
def State.asrcBoundary (s : State) (k : Nat) : State :=
  let s0 := if s.asrcFollows then s else ((List.range 32).filter s.asrcSounds).foldl (fun (q : State) g => q.asrcAdvance g) s
  let s1 := s0.asrcTray k
  let s2 := s1.sap.asrcReset.foldl (fun (q : State) g => q.asrcDrop g 1) s1
  let s3 := if s2.asrcFollows then s2 else (List.range 32).foldl (fun (q : State) g =>
    if q.nat (El.agState g) ≠ 0 ∧ !(s2.sap.asrcFed.contains g) ∧ !(s2.sap.asrcReset.contains g) then q.asrcDrop g 0 else q) s2
  let q := s3.sap.faded s.roundB (fun g => s3.nat (El.agState g) == 2)
  { s3 with sap := { q with asrcReset := [], asrcFed := [] } }

/-- A group is locked at a rate: its channels fade in (R316, R317). -/
def State.asrcHold (s : State) (g : Nat) : State :=
  let s1 := (s.setN (El.agState g) 2).inc (El.agLocks g)
  ({ s1 with sap := { s1.sap with
    asrcHeld := g :: s1.sap.asrcHeld
    asrcFade := Tab.ins g 0 s1.sap.asrcFade
    asrcLoss := Tab.drop s1.sap.asrcLoss g } } : State).showAsrc

/-- ASRC_GROUP_LOCK: after 20 ms of tracking a group locks at a measured rate (0.01 Hz) of the range of R315 (R316). Its
position is that of its last input sample (log entry 103). -/
def State.asrcLock (s : State) (g rate : Nat) : State :=
  if s.asrcFollows ∨ 32 ≤ g ∨ s.nat (El.agState g) ≠ 1 ∨ s.time.tick < Tab.get 0 s.sap.asrcSince g + 20000000 ∨
      rate < 800000 ∨ 38400000 < rate then s
  else
    let s1 := s.showRate g rate
    let pos := Tab.get 0 s.sap.asrcSeen g * 2 ^ 24 - s1.asrcStep g
    ({ s1 with sap := { s1.sap with
      asrcRate := Tab.ins g rate s1.sap.asrcRate
      asrcPos := Tab.put 0 s1.sap.asrcPos g pos } } : State).asrcHold g

/-- ASRC_POSITIONS: the SHADOW takes state and input position of each locked group for a round; the distance of two positions
gives the ratio, and a group that the list leaves out is not locked (R318, log entry 103). -/
def State.asrcTake (s : State) (groups : List (Nat × Nat × Nat)) : State :=
  let take (k : State) (e : Nat × Nat × Nat) : State :=
    let was := k.nat (El.agState e.1)
    let old := Tab.get 0 k.sap.asrcPos e.1
    let k1 := if e.2.2 = 2 then
        (if was = 2 then k.setN (El.agRatio e.1) ((e.2.1 - old) * 2 ^ 8 / k.roundB % 2 ^ 64)
        else
          let h := k.asrcHold e.1
          { h with sap := { h.sap with asrcSeen := Tab.put 0 h.sap.asrcSeen e.1 (e.2.1 / 2 ^ 24) } })
      else if was = e.2.2 then k else k.asrcDrop e.1 e.2.2
    { k1 with sap := { k1.sap with asrcPos := Tab.put 0 k1.sap.asrcPos e.1 e.2.1 } }
  let s1 := groups.foldl take s
  (List.range 32).foldl (fun (k : State) g =>
    if k.nat (El.agState g) = 2 ∧ !(groups.any (fun e => e.1 == g)) then k.asrcDrop g (if k.sap.asrcFed.contains g then 1 else 0) else k) s1

/-! ### Frames (R299 to R302) -/

/-- The number that bits spell, MSB first. -/
def bitsVal (l : List Bool) : Nat := l.foldl (fun n b => 2 * n + b.toNat) 0

/-- The word that a frame carries in slot k: the level of DIN on the edge on which data are captured, MSB first, or the audio
bits of a subframe (R291, R292). -/
def State.slotWord (s : State) (p : Nat) (f : SapFrame) (k : Nat) : Nat :=
  if s.nat (El.spFormat p) = 3 then (f.words.getD k 0).toNat
  else bitsVal ((List.range (s.wordBits p)).map (fun i =>
    let e := f.din.getD (s.slotAt p k + i) (false, false)
    if s.nat (El.spBclkEdge p) = 0 then e.1 else e.2))

/-- A captured word as a sample (R294). -/
def wordSample (w x : Nat) : Int := signed w (x % 2 ^ w) * (2 ^ (32 - w) : Nat)

/-- An output sample rounded to w bits and saturated, as a sample (R294). -/
def outSample (w : Nat) (x : Int) : Int :=
  let z := roundShift x (32 - w)
  let lim : Int := (2 ^ (w - 1) : Nat)
  (if z < -lim then -lim else if lim - 1 < z then lim - 1 else z) * (2 ^ (32 - w) : Nat)

/-- A port falls out of lock: the slip counts (R299). -/
def State.slipPort (s : State) (p : Nat) : State :=
  let x := s.sapPort p
  ((s.setSapPort p { x with locked := false, slipped := true, goodFrames := 0 }).inc (El.spSlips p)).showPort p

/-- Lock after one frame (R299): a good frame counts toward lock, another ends it. -/
def State.lockFrame (s : State) (p : Nat) (good : Bool) : State :=
  let x := s.sapPort p
  if s.isSlave p = false then s
  else if x.locked then (if good then s else (s.slipPort p).asrcStarve p)
  else if good = false then s.setSapPort p { x with goodFrames := 0 }
  else if x.goodFrames + 1 < 16 then s.setSapPort p { x with goodFrames := x.goodFrames + 1 }
  else (s.setSapPort p { x with goodFrames := 16, locked := true, slipped := false }).showPort p

/-- The CRCC of 23 bytes of channel status: x^8 + x^4 + x^3 + x^2 + 1 from all ones, over the bits in the order in which they
are sent (R293, R356, log entry 104). -/
def aesCrcc (b : List Byte) : Byte :=
  b.foldl (fun (c : Byte) x => (List.range 8).foldl (fun (c : Byte) i =>
    let low := c.getLsbD 0 != x.getLsbD i
    if low then (c >>> 1) ^^^ 0xB8 else c >>> 1) c) 0xFF

/-- The 24 bytes of channel status that are sent for 23 given ones. -/
def aesStatus (cs : List Byte) : List Byte := cs.take 23 ++ [aesCrcc (cs.take 23)]

/-- The subframe that carries a 24-bit word on frame n of the sample count: validity and user bits 0, the channel status bit of
the frame, even parity; a block of 192 frames starts on the multiples of 192, in the first subframe (R293, R356). -/
def aesSub (cs : List Byte) (n : Nat) (first : Bool) (audio : Int) : Subframe :=
  let c := bitOf ((aesStatus cs).getD (n % 192 / 8) 0).toNat (n % 8)
  let ones := ((List.range 24).filter (bitOf (wrap 24 audio))).length + c.toNat
  ⟨audio, false, false, c, decide (ones % 2 = 1), first && decide (n % 192 = 0)⟩

/-- AES3 checks: each bad slot and a channel status block whose CRCC fails count; a good block is kept (R293). -/
def State.aesChecks (s : State) (p : Nat) (f : SapFrame) : State :=
  if s.nat (El.spFormat p) ≠ 3 then s
  else
    let s1 := s.bump (El.spErrors p) (f.badSlots.filter (· < 2)).length 32
    match f.csBlock with
    | none => s1
    | some b => if aesStatus b = b then s1.setB (El.spCsRx p) b else s1.inc (El.spErrors p)

/-- The captured samples by slot: a bad AES3 subframe takes the channel's previous sample (R293, R294). -/
def State.captured (s : State) (p : Nat) (f : SapFrame) : List Int :=
  (List.range (s.nat (El.spSlots p))).map (fun k =>
    if s.nat (El.spFormat p) = 3 ∧ f.badSlots.contains k then Tab.get 0 (s.sapPort p).prevWords k
    else wordSample (s.wordBits p) (s.slotWord p f k))

/-- The first frame that a port carries after the trigger fired while it was out of lock (R308). -/
def State.firstData (s : State) (p m : Nat) : State :=
  let x := s.sapPort p
  if x.startWait ∧ s.anchored then (s.setSapPort p { x with startWait := false }).setN (El.spStartSample p) m else s

/-- Steps 3 to 7 of R301 for the samples of frame m. -/
def State.inputSteps (s : State) (p m : Nat) (x : List Int) : State :=
  let act := s.sapPort p
  let x1 := x.zipIdx.map (fun e => if bitOf act.rxMask e.2 then e.1 else 0)
  let s1 := (s.portRings p 0).foldl (fun (k : State) r => k.ringCapture r m (fun i => x1.getD i 0)) s
  let r2 := (s1.portRings p 2).foldl (fun (k : State × List Int) r =>
    let q := k.1.ringPlay r m
    (q.1, k.2.zipIdx.map (fun e => (((q.2.find? (fun z => z.1 = e.2)).map (·.2)).getD e.1)))) (s1, x1)
  r2.2.zipIdx.foldl (fun (k : State) e =>
    let g := k.passGate p e.2 e.1
    g.1.capture (sigSer (32 * p + e.2)) (m + 4) g.2) r2.1

/-- A frame of a locked-domain port that is out of lock or not yet started, or that did not come: exact zero goes through the
steps, once for a sample (R301, R313). -/
def State.silentFrame (s : State) (p m : Nat) : State :=
  let x := s.sapPort p
  if s.nat (El.spDomain p) = 1 then s
  else if s.anchored = false then s.settleIn p
  else if x.lastIn = some m then s
  else (s.setSapPort p { x with lastIn := some m }).inputSteps p m (List.replicate (s.nat (El.spSlots p)) 0)

/-- SAP_FRAME_IN: a frame whose start is the sample edge reached now. The port measures its rate and judges its lock; a port in
lock before the frame, that carries data, passes the words on; an unlocked port feeds the ASRC alone (R295, R299, R301). -/
def State.frameIn (s : State) (p : Nat) (f : SapFrame) : State :=
  if s.portOn p = false then s
  else
    let m := s.sampleNow
    let was := s.portLocked p
    let s1 := (((s.copyShadow p m).aesChecks p f).setN (El.spRate p) (f.rate % 2 ^ 32)).lockFrame p (s.frameGood p f)
    let x := s1.captured p f
    let y := s1.sapPort p
    let s2 := s1.setSapPort p { y with prevWords := x.zipIdx.foldl (fun (t : Tab Int) e => Tab.put 0 t e.2 e.1) y.prevWords }
    if was = false ∨ s2.portLocked p = false ∨ s2.nat (El.spEnable p) ≠ 1 then s2.silentFrame p m
    else
      let s3 := s2.firstData p m
      if s3.nat (El.spDomain p) = 1 then s3.asrcFeed p f.rate [x.zipIdx.map (fun e => (sigSer (32 * p + e.2), e.1))]
      else if s3.anchored = false then s3.settleIn p
      else (s3.setSapPort p { s3.sapPort p with lastIn := some m }).inputSteps p m x

/-- SAP_MISSING_FRAME: no frame where the counted phase expects one (R299). -/
def State.frameMissing (s : State) (p : Nat) : State :=
  if s.portOn p = false then s
  else
    let s1 := s.copyShadow p s.sampleNow
    let x := s1.sapPort p
    if s1.isSlave p = false then s1
    else (if x.locked then (s1.slipPort p).asrcStarve p else s1.setSapPort p { x with goodFrames := 0 }).silentFrame p s.sampleNow

/-- The slots of DOUT that the port drives: those of the mask, and, as `sp_unused_out` sets, every other slot low (R300,
R302). -/
def State.drivenSlots (s : State) (p mask : Nat) : List Nat :=
  if s.drives = false then []
  else (List.range (s.nat (El.spSlots p))).filter (fun i => bitOf mask i || s.nat (El.spUnusedOut p) == 0)

/-- DOUT in each BCLK period of a frame: the words MSB first, low where no slot lies, none where it is released (R291,
R292, R302). -/
def State.doutBits (s : State) (p : Nat) (dout : Tab Int) (driven : List Nat) : List (Option Bool) :=
  let w := s.wordBits p
  (List.range (s.nat (El.spFrameLen p))).map (fun t =>
    match (List.range (s.nat (El.spSlots p))).find? (fun k => decide (s.slotAt p k ≤ t) && decide (t < s.slotAt p k + w)) with
    | none => some false
    | some k => if driven.contains k then some (bitOf (wrap w (Tab.get 0 dout k)) (s.slotAt p k + w - 1 - t)) else none)

/-- FSYNC in each BCLK period of a frame of a master (R291, R319). -/
def State.fsyncBits (s : State) (p : Nat) : List Bool :=
  let len := s.nat (El.spFrameLen p)
  let v := s.nat (El.spFsync p)
  (List.range len).map (fun t =>
    match s.nat (El.spFormat p) with
    | 0 => decide (len / 2 ≤ t)
    | 1 => decide (t < len / 2)
    | _ => decide (t < (match v % 4 with
      | 0 => 1
      | 1 => s.nat (El.spWidth p)
      | _ => len / 2)) != bitOf v 2)

/-- Frame m goes out with the samples of the slots in a mask (R291 to R293, R302). -/
def State.driveFrame (s : State) (p m mask : Nat) (smp : List Int) : State :=
  let x := s.sapPort p
  let w := s.wordBits p
  let driven := s.drivenSlots p mask
  let on := driven.filter (bitOf mask)
  let word (i : Nat) : Int := smp.getD i 0 / (2 ^ (32 - w) : Nat)
  let dout := on.foldl (fun (t : Tab Int) i => Tab.put 0 t i (word i)) []
  let aes := s.nat (El.spFormat p) == 3
  s.setSapPort p { x with
    driven := driven
    dout := dout
    bits := if aes || !s.drives then [] else s.doutBits p dout driven
    sync := if s.isSlave p || !s.drives then [] else s.fsyncBits p
    onRising := s.on (El.spBclkEdge p)
    aes := if aes && s.drives then
      (List.range 2).map (fun i => if on.contains i then some (aesSub (s.val (El.spCsTx p)).toBytes m (i == 0) (word i)) else none) else [] }

/-- The samples of the slots in frame m: those that left the out-tray 8 samples earlier, through their gates, at the slot's
width (R295, R302 steps 1 to 3). -/
def State.slotSamples (s : State) (p m : Nat) : State × List Int :=
  let w := s.wordBits p
  (List.range (s.nat (El.spSlots p))).foldl (fun (k : State × List Int) i =>
    let key := 3 * 2 ^ 28 + 32 * p + i
    let back := Tab.get 0 k.1.rounds.played key - 1 - (m - 8)
    let g := k.1.passGate p (32 + i) (k.1.playedBack key back)
    (g.1, k.2 ++ [outSample w g.2])) (s, [])

/-- SAP_FRAME_OUT: the port drives its frame; capture rings record it; on a port that carries no data every slot is outside the
mask (R295, R299, R300, R302). -/
def State.frameOut (s : State) (p : Nat) : State :=
  let m := s.sampleNow
  if s.portOn p = false then s.setSapPort p (s.pinsOf p (s.sapPort p))
  else
    let s1 := s.copyShadow p m
    if s1.nat (El.spDomain p) = 1 ∨ s1.anchored = false then (s1.setSapPort p (settleGates (s1.sapPort p) 32)).driveFrame p m 0 []
    else
      let r := s1.slotSamples p m
      let s2 := (r.1.portRings p 1).foldl (fun (k : State) q => k.ringCapture q m (fun i => r.2.getD i 0)) r.1
      s2.driveFrame p m (if s2.portData p then (s2.sapPort p).txMask else 0) r.2

/-- GATE_TIMEOUT: a gate whose wait is over moves linearly (R306). -/
def State.gateTimeout (s : State) (p : Nat) (out : Bool) (slot : Nat) : State :=
  let k := (if out then 32 else 0) + slot % 32
  let x := s.sapPort p
  let g := x.gate k
  if g.pos = g.goal ∨ g.moving ∨ g.waited < s.gateWait p ∨ s.gateWait p = 0 then s
  else s.setSapPort p (x.setGate k { g with moving := true })

/-! ### Starting together (R307, R308) -/

/-- The ports of the start set. -/
def State.startSet (s : State) : List Nat := maskSlots (s.nat El.sapStartPorts)

/-- Whether the trigger may be armed (R307). The postmark is judged where the timeline is anchored. -/
def State.armStatus (s : State) : Status :=
  if s.nat El.sapStartState = 1 ∨ s.startSet.any (fun p => s.nat (El.spEnable p) != 2) then .wrongState
  else if s.anchored = false ∨ s.nat El.sapStartSrc = 1 then .ok
  else if s.sampleNow + 3600 * s.fs < s.nat El.sapStartAt then .far
  else if s.nat El.sapStartAt < s.effective then .past
  else .ok

/-- `sap_start_arm`. -/
def State.applyArm (s : State) (v : Nat) : State :=
  if v = 1 then { (s.setN El.sapStartState 1) with sap := { s.sap with edgeAt := none } }
  else if s.nat El.sapStartState = 1 then { (s.setN El.sapStartState 0) with sap := { s.sap with edgeAt := none } }
  else s

/-- START_IN_EDGE: an armed external trigger registers the edge of a pulse that stays high for t_start (R308, R581). -/
def State.startEdge (s : State) (width : Nat) : State :=
  if s.nat El.sapStartState = 1 ∧ s.nat El.sapStartSrc = 1 ∧ s.sap.edgeAt = none then
    let w := s.takesPulse width 100 0
    if w.1 then { w.2 with sap := { w.2.sap with edgeAt := some w.2.smpClk } } else w.2
  else s

/-- The sample on which the trigger fires, if one is known. -/
def State.fireSample (s : State) : Option Nat :=
  if s.nat El.sapStartState ≠ 1 then none
  else if s.nat El.sapStartSrc = 0 then some (s.nat El.sapStartAt)
  else s.sap.edgeAt.map (fun e => ceilDiv ((e + 1000 * 65536) * s.fs) (1000000000 * 65536))

/-- START_TRIGGER_FIRE (R308). -/
def State.fireTrigger (s : State) : State :=
  match s.fireSample with
  | none => s
  | some n =>
    if s.anchored = false ∨ s.sampleNow < n then s
    else
      let s1 := (s.setN El.sapStartState 2).setN El.sapStartSample n
      let s2 := s.startSet.foldl (fun (k : State) p =>
        let k1 := k.setN (El.spEnable p) 1
        let k2 := if k1.portLocked p then k1.setN (El.spStartSample p) n
          else k1.setSapPort p { k1.sapPort p with startWait := true }
        k2.showPort p) s1
      s2.startRings 2

/-! ### Writes of areas 08 and 09 (R297, R298, R304, R311, R313, R319 to R324) -/

/-- A source for `ag_source` (R323). -/
def State.agSourceValue (s : State) (v : Nat) : Status :=
  if v = 0xFFFF ∨ (0x100 ≤ v ∧ v < 0x300) then .ok
  else if v < 0x18 then (if s.variant.serialPorts ≤ v then .notPresent else .ok)
  else .outOfRange

/-- Bytes that a ring spans end within the mapped DRAM (R321). -/
def State.ringFits (s : State) (r : Nat) : Bool :=
  decide (s.nat (El.ringBase r) + s.nat (El.ringFrames r) * s.ringFrame r ≤ s.mappedEnd)

/-- The value of a write in areas 08 and 09. DESIGN CHOICE (log entry 101): R320 gives `sap_start_ports` one bit for each port
and no status for the bits of ports that the variant lacks; they are accepted and hold, and no such port can then be at 2. -/
def State.sapValue (s : State) (a : Nat) (v : Val) : Status :=
  let o := objectOf a
  let e := elementOf a
  let x := v.toNat
  if areaOf a = 0x08 then
    if o < 0x100 then
      if e = 0 ∧ s.nat (El.spEnable o) = 0 ∧ x ≠ 0 ∧ s.portBad o then .outOfRange
      else if e = 0x11 ∧ v.toBytes.length ≠ 23 then .outOfRange
      else .ok
    else if o < 0x200 then .ok
    else
      let r := o - 0x200
      if e = 1 then (if s.variant.serialPorts ≤ x then .notPresent else .ok)
      else if e = 2 ∧ x = 0 then .outOfRange
      else if e = 4 ∧ x % 256 ≠ 0 then .outOfRange
      else if e = 7 ∧ x ≠ 0 ∧ s.ringFits r = false then .outOfRange
      else .ok
  else if o < 0x100 ∧ e = 0 then
    (if sigKind x = 0 ∨ sigKind x = 1 ∨ sigKind x = 8 then s.sigStatus x else .outOfRange)
  else if 0x100 ≤ o ∧ e = 0 then s.agSourceValue x
  else .ok

/-- Elements that an enabled port refuses (R298). -/
def portFixed (e : Nat) : Bool := decide (1 ≤ e) && decide (e ≤ 9)

/-- Whether a ring's start is refused by the state of its port, or of another playback ring (R313, R321). -/
def State.ringStartState (s : State) (r : Nat) : Status :=
  let p := s.nat (El.ringPort r)
  let m := s.nat (El.ringMask r)
  if s.nat (El.spDomain p) = 1 ∨ (maskSlots m).any (fun k => decide (s.nat (El.spSlots p) ≤ k)) then .wrongState
  else if s.nat (El.ringDir r) = 2 ∧ (s.portRings p 2).any (fun q => q != r && Nat.land (s.nat (El.ringMask q)) m != 0) then
    .wrongState
  else .ok

/-- The index of a ring that the engine owns (R311). -/
def State.engineIndex (s : State) (r : Nat) : Nat := if s.nat (El.ringDir r) = 2 then 9 else 8

/-- What the state allows of a write in areas 08 and 09. -/
def State.sapState (s : State) (a : Nat) (v : Val) : Status :=
  let o := objectOf a
  let e := elementOf a
  if areaOf a = 0x08 then
    if o < 0x100 then
      if portFixed e ∧ s.on (El.spEnable o) then .wrongState
      else if e = 0x10 ∧ s.nat (El.spDomain o) = 1 then .wrongState
      else .ok
    else if a = El.sapStartArm then (if v.toNat = 1 then s.armStatus else .ok)
    else if o < 0x200 then .ok
    else
      let r := o - 0x200
      if e = 7 then (if v.toNat = 0 then .ok else s.ringStartState r)
      else if e = s.engineIndex r then .wrongState
      else if s.ringRuns r ∧ ¬(e = 8 ∨ e = 9) then .wrongState
      else .ok
  else if 0x100 ≤ o ∧ e = 0 then
    let x := v.toNat
    if x < 0x18 then (if s.nat (El.spDomain x) = 0 then .wrongState else .ok)
    else if 0x100 ≤ x ∧ x < 0x300 then (if s.nat (El.rxDomain (x - 0x100)) = 0 then .wrongState else .ok)
    else .ok
  else .ok

/-- `sp_enable` takes a value: the port starts, waits, or stops (R297, R299, R307). -/
def State.applyEnable (s : State) (p v : Nat) : State :=
  let x := s.sapPort p
  if v = 0 then
    (((s.setN (El.spEnable p) 0).setSapPort p { x with
      locked := false
      slipped := false
      goodFrames := 0
      startWait := false }).showPort p).asrcStarve p |>.followPins
  else ((s.setN (El.spEnable p) v).showPort p).followPins

/-- A group returns to acquiring at the next round boundary, or at once where no rounds run (R324). -/
def State.resetGroup (s : State) (g : Nat) : State :=
  if s.roundsRun then { s with sap := { s.sap with asrcReset := if s.sap.asrcReset.contains g then s.sap.asrcReset else g :: s.sap.asrcReset } }
  else s.asrcDrop g 1

/-- A write in areas 08 and 09 applies. -/
def State.applySap (s : State) (a : Nat) (v : Val) : State :=
  let o := objectOf a
  let e := elementOf a
  let x := v.toNat
  if areaOf a = 0x08 then
    if o < 0x100 then
      if e = 0 then s.applyEnable o x
      else if e = 0x0A ∨ e = 0x0B ∨ e = 0x0D ∨ e = 0x0E then s.shadowWrite o e x
      else if e = 0x10 then s.writeApplyAt o x
      else if e = 0x1F then (if x = 1 then s.setAll [El.spSlips o, El.spErrors o] 0 else s)
      else s.setV a v
    else if a = El.sapStartArm then s.applyArm x
    else if o < 0x200 then s.setV a v
    else if e = 7 then s.applyRingRun (o - 0x200) x
    else s.setV a v
  else if o < 0x100 then (s.setV a v).showAsrc
  else if e = 0x0F then (if x = 1 then s.setAll [El.agLocks (o - 0x100), El.agUnlocks (o - 0x100)] 0 else s)
  else ((s.setV a v).resetGroup (o - 0x100)).showAsrc

end Sys2Proof.Machine
end

