-- ==== Sys2Proof/Machine/Net.lean ====
section
/-! DEFINITION. Network ports, the switch and media streams (R325 to R362). -/

namespace Sys2Proof.Machine

/-! ### Addresses -/

/-- The number of bytes in network order. -/
def beVal (b : List Byte) : Nat := b.foldl (fun n x => 256 * n + x.toNat) 0

/-- Whether a MAC address is a group address. -/
def isGroupMac (m : Nat) : Bool := decide (m / 2 ^ 40 % 2 = 1)
def broadcastMac : Nat := 2 ^ 48 - 1

/-- Whether a 16-byte address is a multicast address. -/
def isGroupIp (b : List Byte) : Bool :=
  if isMapped b then decide (beVal (slice b 12 1) / 16 = 14) else decide (beVal (slice b 0 1) = 255)

/-- The group MAC address of an IP group. -/
def groupMac (b : List Byte) : Nat :=
  if isMapped b then 0x01005E000000 + beVal (slice b 12 4) % 2 ^ 23 else 0x333300000000 + beVal (slice b 12 4)

/-- The receive streams and transmit streams that are enabled: their `rx_enable` or `tx_enable` is listed. -/
def State.rxOn (s : State) : List Nat :=
  s.regs.filterMap (fun e => if areaOf e.1 = 6 ∧ elementOf e.1 = 0 ∧ objectOf e.1 < 0x200 ∧ e.2.toNat = 1 then some (objectOf e.1) else none)
def State.txOn (s : State) : List Nat :=
  s.regs.filterMap (fun e =>
    if areaOf e.1 = 6 ∧ elementOf e.1 = 0 ∧ 0x200 ≤ objectOf e.1 ∧ e.2.toNat = 1 then some (objectOf e.1 - 0x200) else none)

/-- Whether a leg of a stream uses a port (R328): leg A port A and leg B port B; in chain mode leg A both. -/
def State.legUses (s : State) (legs p : Nat) : Bool :=
  if s.nat El.netMode = 1 then bitOf legs 0 && decide (p < 2) else bitOf legs p && decide (p < 2)
def State.streamOnPort (s : State) (p : Nat) : Bool :=
  s.rxOn.any (fun i => s.legUses (s.nat (El.rxLegs i)) p) || s.txOn.any (fun j => s.legUses (s.nat (El.txLegs j)) p)

/-- The IP groups that a port joins, each with its source filter: the legs of enabled receive streams, and the groups of
`grp_enable` (R341). -/
def State.memberships (s : State) (p : Nat) : List (List Byte × List Byte) :=
  ((s.rxOn.flatMap (fun i =>
    (if s.legUses (s.nat (El.rxLegs i)) p ∧ (p = 0 ∨ s.nat El.netMode = 1) then
      [((s.val (El.rxDstA i)).toBytes, (s.val (El.rxSrcA i)).toBytes)] else []) ++
    (if s.nat El.netMode = 0 ∧ p = 1 ∧ bitOf (s.nat (El.rxLegs i)) 1 then
      [((s.val (El.rxDstB i)).toBytes, (s.val (El.rxSrcB i)).toBytes)] else []))
    |>.filter (fun (e : List Byte × List Byte) => isGroupIp e.1)) ++
    ((List.range 16).filter (fun g => s.on (El.grpEnable g))).map (fun g => ((s.val (El.grpAddr g)).toBytes, List.replicate 16 0))).eraseDups

/-- The groups that a port joins, by their MAC addresses. -/
def State.joined (s : State) (p : Nat) : List Nat := (s.memberships p).map (fun e => groupMac e.1)

/-! ### Ports -/

/-- Whether a port runs: enabled, and its island up (R325). -/
def State.netUp (s : State) (p : Nat) : Bool :=
  decide (p < 3) && s.on (El.portEnable p) && s.domainUp (if p = 2 then 0x0E else 0x0D)

/-- Line rate of a port, kbit/s. -/
def State.lineRate (s : State) (p : Nat) : Nat :=
  if p = 2 then 1000 * s.nat (El.portRateNow 2) else if s.nat (El.portSpeed p) = 1 then 25000000 else 10000000

/-- The MAC address of a port. -/
def State.mac (s : State) (p : Nat) : Nat := beVal (s.val (El.portMac p)).toBytes

/-- Whether a VLAN tag is accepted (R339). -/
def State.vlanOk (s : State) (p : Nat) (v : Option Nat) : Bool :=
  if s.nat (El.portVlan p) = 0 then v == none || v == some 0 else v == some (s.nat (El.portVlan p))

def isPtp : FrameKind → Bool
  | .ptpEvent _ _ _ _ => true
  | .ptpOther => true
  | _ => false

/-- Whether a frame is addressed to the engine (R328). -/
def State.addressed (s : State) (p : Nat) (f : Frame) : Bool :=
  f.dst == broadcastMac || f.dst == s.mac p || (s.nat El.netMode == 1 && decide (p < 2) && (f.dst == s.mac 0 || f.dst == s.mac 1)) ||
    (isGroupMac f.dst && (isPtp f.kind || (s.joined p).contains f.dst))

/-- The bit of `bop_ports` for a port. -/
def bopBit (p : Nat) : Nat := if p = 2 then 0 else p + 1

/-- The receive ring of a frame, if one takes it (R340). -/
def State.rxRing (s : State) (p : Nat) (k : FrameKind) : Option Nat :=
  match k with
  | .ptpEvent _ _ _ _ => some 0
  | .ptpOther => some 0
  | .bop _ dst _ => if bitOf (s.nat El.bopPorts) (bopBit p) && dst == s.nat El.bopUdpPort then some 1 else none
  | .neighbour => some 2
  | .stream i => if p < 2 then some (4 + i % 60) else none
  | .other => none

/-- Deliver a frame to its ring; a full ring drops it (R340). -/
def State.deliver (s : State) (p : Nat) (f : Frame) : State :=
  match s.rxRing p f.kind with
  | none => s
  | some r =>
    let n := s.netPort p
    if 512 ≤ Tab.get 0 n.rx r then s.inc (El.portRxDrops p)
    else s.setNetPort p { n with rx := Tab.put 0 n.rx r (Tab.get 0 n.rx r + 1) }

/-- A unit takes a frame from a receive ring. -/
def State.takeRx (s : State) (p r : Nat) : State :=
  let n := s.netPort p
  s.setNetPort p { n with rx := Tab.put 0 n.rx r (Tab.get 0 n.rx r - 1) }

/-! ### The switch (R329 to R331) -/

/-- The port on which an address was learned. -/
def State.learnedOn (s : State) (m : Nat) : Option Nat := (s.net.learned.find? (fun e => e.1 = m)).map (fun e => e.2.1)

/-- Learn a source address: the table holds 1,024. -/
def State.learn (s : State) (p m : Nat) : State :=
  let rest := s.net.learned.filter (fun e => e.1 ≠ m)
  if rest.length < 1024 then
    ({ s with net := { s.net with learned := (m, p, s.time.tick) :: rest } } : State).setN El.swLearned (rest.length + 1)
  else s

/-- Whether the switch forwards a frame received on port p (R329); a time-aware relay forwards no PTP frame (R399). -/
def State.forwards (s : State) (p : Nat) (f : Frame) : Bool :=
  if f.dst = s.mac 0 ∨ f.dst = s.mac 1 then false
  else if isPtp f.kind ∧ s.nat El.ptpProfile = 2 then false
  else if isPtp f.kind ∧ isGroupMac f.dst then true
  else if isGroupMac f.dst then true
  else decide (s.learnedOn f.dst ≠ some p)

/-- The ring of a forwarded frame (R337). -/
def State.forwardRing (s : State) (f : Frame) : Nat :=
  if isPtp f.kind ∨ f.dscp = 46 then 0 else if f.dscp = s.nat El.swMediaDscp then 4 else 3

/-- Whether a frame to be forwarded passes cut-through (R330). -/
def State.cutsThrough (s : State) (p : Nat) (f : Frame) : Bool :=
  decide (s.lineRate (1 - p) ≤ s.lineRate p) && (Tab.get [] (s.netPort (1 - p)).tx (s.forwardRing f)).isEmpty

/-- Whether port p switches: chain mode, port A or B, and the other port runs. -/
def State.switches (s : State) (p : Nat) : Bool := s.nat El.netMode == 1 && decide (p < 2) && s.netUp (1 - p)

/-- A bad frame that was already leaving is ended with an inverted FCS (R331). -/
def State.stomp (s : State) (p : Nat) (f : Frame) : State :=
  if s.switches p && s.forwards p f && s.cutsThrough p f then s.inc (El.portStomped (1 - p)) else s

/-- FRAME_RECEIVE (R329, R332, R333, R339, R340). -/
def State.frameReceive (s : State) (p : Nat) (f : Frame) : State :=
  if s.netUp p = false then s
  else if f.len < 64 then s.inc (El.portRunts p)
  else if 9216 < f.len then (s.inc (El.portOversize p)).stomp p f
  else if f.fcsOk = false then (s.inc (El.portFcsErr p)).stomp p f
  else if s.vlanOk p f.vlan = false then s
  else
    let s1 := s.bump (El.portRxFrames p) 1 64
    let s2 := if s1.nat El.netMode = 1 ∧ p < 2 then s1.learn p f.srcMac else s1
    let s3 := if s2.switches p && s2.forwards p f then
      (s2.enqueue (1 - p) (s2.forwardRing f) (.forward f (s2.ingress p))).bump El.swForwarded 1 64 else s2
    if s.addressed p f then s3.deliver p f else s3

/-- ADDRESS_AGING: a learned address whose age has passed is forgotten (R329). -/
def State.ageAddress (s : State) (m : Nat) : State :=
  let rest := s.net.learned.filter (fun e => !(e.1 == m && decide (e.2.2 + s.nat El.swAge * 1000000000 ≤ s.time.tick)))
  ({ s with net := { s.net with learned := rest } } : State).setN El.swLearned rest.length

/-! ### Sending (R334, R337, R338) -/

/-- Priority of a ring. -/
def State.ringPrio (s : State) (p r : Nat) : Nat := s.nat (El.txrPriority p r)
/-- Whether a ring is shaped; ring 0 never is. -/
def State.shaped (s : State) (p r : Nat) : Bool := decide (r ≠ 0) && s.on (El.txrShaper p r)

/-- The credits of a port's shaped rings up to now (R338): the idle slope adds; a ring with nothing to send keeps no
positive credit. -/
def State.countCredit (s : State) (p : Nat) : State :=
  let n := s.netPort p
  let dt := s.time.tick - n.creditAt
  let c := (List.range 64).foldl (fun (t : Tab Int) r =>
    if s.shaped p r = false then t
    else
      let v := Tab.get 0 t r + (s.nat (El.txrIdleSlope p r) * dt : Nat)
      Tab.put 0 t r (if (Tab.get [] n.tx r).isEmpty then min v 0 else v)) n.credit
  s.setNetPort p { n with credit := c, creditAt := s.time.tick }

/-- Whether a ring has a frame that may go. -/
def State.eligible (s : State) (p r : Nat) : Bool :=
  !(Tab.get [] (s.netPort p).tx r).isEmpty && (!s.shaped p r || decide (0 ≤ Tab.get 0 (s.netPort p).credit r))

/-- The ring that sends next: the highest priority with an eligible frame; within it the first after the one served
last. -/
def State.nextRing (s : State) (p : Nat) : Option Nat :=
  let l := (List.range 64).filter (s.eligible p)
  let top := l.foldl (fun m r => max m (s.ringPrio p r)) 0
  let at_ := l.filter (fun r => s.ringPrio p r = top)
  let last := Tab.get 64 (s.netPort p).turn top
  (at_.find? (fun r => decide (last < r))).orElse (fun _ => at_.head?)

/-- A started frame of ring 1 or 2 underruns (R334). -/
def State.txUnderrun (s : State) (p r : Nat) : State :=
  let th := min 9216 (s.nat (El.txrThreshold p r) + 256)
  (((s.setN (El.txrThreshold p r) th).inc (El.txrUnderruns p r)).inc (El.portTxUnderruns p)).post nTxUnderrun (El.txrThreshold p r) [p, r, th]

/-- A frame of ring r leaves; PTP messages take their timestamps while they do (R402, R403). -/
def State.frameLeaves (s : State) (p r : Nat) (x : TxItem) (rest : List TxItem) : State :=
  let n := s.netPort p
  let pri := s.ringPrio p r
  let y := s.leaving p x
  let s1 := (s.noteRequest y).setNetPort p { n with
    tx := Tab.put [] n.tx r rest
    sent := some y
    sentTag := if s.nat (El.portVlan p) = 0 then none else some (s.nat (El.portVlan p), pri)
    turn := Tab.ins pri r n.turn
    credit := if s.shaped p r then Tab.put 0 n.credit r (Tab.get 0 n.credit r - (x.bytes * 8 * 1000000 : Nat)) else n.credit }
  ((s1.bump (El.portTxFrames p) 1 64).bump (El.txrFrames p r) 1 64).setN (El.portLoad p pri) (s.offeredLoad p pri)

/-- FRAME_TRANSMIT: the port starts its next frame (R334, R338); on an underrun the frame stays first in its ring. Lanes forced to idle send nothing (R27). -/
def State.frameTransmit (s : State) (p : Nat) (underrun : Bool) : State :=
  if s.netUp p = false ∨ s.nat (El.portLink p) ≠ 1 ∨ (p < 2 ∧ s.lanesIdle) then s
  else
    let s1 := s.countCredit p
    match s1.nextRing p with
    | none => s1
    | some r => match Tab.get [] (s1.netPort p).tx r with
      | [] => s1
      | x :: rest =>
        if underrun ∧ (r = 1 ∨ r = 2) ∧ s1.nat (El.txrThreshold p r) < x.bytes then s1.txUnderrun p r
        else s1.frameLeaves p r x rest

/-- The port on which the engine's own frame to a destination leaves, for leg A in chain mode; both where the address is
not learned, and for groups (R329). -/
def State.ownPorts (s : State) (leg dst : Nat) : List Nat :=
  if s.nat El.netMode = 0 then [leg]
  else if isGroupMac dst then [0, 1]
  else match s.learnedOn dst with
    | some q => [q]
    | none => [0, 1]

/-! ### Links (R327, R336, R358) -/

/-- The rate that `port_speed` of port M fixes, Mbit/s; 0 where it is negotiated (R358). -/
def fixedSpeed : Nat → Nat
  | 1 => 1000 | 2 => 100 | 3 => 10 | _ => 0

/-- PHY_LINK_CHANGE: the PHY at an address reports link and the negotiated speed in Mbit/s, or no link; port M follows the one that `port_phy_addr`
names (R327). -/
def State.phyChange (s : State) (phy : Nat) (link : Option Nat) : State :=
  if s.domainUp 0x0E = false ∨ phy ≠ s.nat (El.portPhyAddr 2) then s
  else
    let v := fixedSpeed (s.nat (El.portSpeed 2))
    let s1 := (s.setN (El.portLink 2) (if link.isSome then 1 else 0)).setN (El.portRateNow 2)
      (match link with | none => 0 | some mbit => if v = 0 then mbit else v)
    s1.setNetPort 2 { s1.netPort 2 with lowSince := s.time.tick }

/-- NET_PORT_LINK_CHANGE: port A or B gains or loses its link (R358). -/
def State.linkChange (s : State) (p : Nat) (up : Bool) : State :=
  if 2 ≤ p ∨ s.netUp p = false then s
  else (s.setN (El.portLink p) (if up then 1 else 0)).setN (El.portRateNow p) (if up then s.lineRate p / 1000 else 0)

/-- PORT_M_SLOW_DOWN (R336). That traffic stayed low over the last 60 s is what the command reports. -/
def State.slowDown (s : State) : State :=
  let n := s.netPort 2
  if s.netUp 2 = false ∨ s.on (El.portEco 2) = false ∨ s.nat (El.portLink 2) ≠ 1 ∨ s.nat (El.portRateNow 2) ≠ 1000 ∨
      s.on (El.ptpEnable 2) ∨ s.time.tick < n.lowSince + 60000000000 ∨
      (n.restoredAt ≠ 0 ∧ s.time.tick < n.restoredAt + 600000000000) then s
  else (s.setN (El.portLink 2) 2).setNetPort 2 { n with slowed := true }

/-- PORT_M_RESTORE (R336): load, or an enabled PTP port, brings 1000 Mbit/s back. -/
def State.restoreM (s : State) : State :=
  let n := s.netPort 2
  if s.netUp 2 = false ∨ n.slowed = false then s
  else (s.setN (El.portLink 2) 2).setNetPort 2 { n with slowed := false, restoredAt := s.time.tick }

/-! ### Neighbours (R341) -/

/-- The IPv6 link-local address derived from `port_mac`. -/
def State.linkLocal (s : State) (p : Nat) : Nat :=
  let m := s.mac p
  0xFE80 * 2 ^ 112 + Nat.xor (m / 2 ^ 24) 0x020000 * 2 ^ 40 + 0xFFFE * 2 ^ 24 + m % 2 ^ 24

/-- The IPv4 and IPv6 addresses of a port. -/
def State.ip4 (s : State) (p : Nat) : Nat := beVal (s.val (El.portIp4 p)).toBytes
def State.ip6 (s : State) (p : Nat) : Nat := beVal (s.val (El.portIp6 p)).toBytes

/-- Whether the engine answers a request. -/
def State.answers (s : State) (p : Nat) : Neighbour → Bool
  | .arp x => x != 0 && x == s.ip4 p
  | .solicit x => x == s.linkLocal p || (x != 0 && x == s.ip6 p)
  | .echo x => (x != 0 && (x == s.ip4 p || x == s.ip6 p)) || x == s.linkLocal p
  | .query g => if g = 0 then !(s.joined p).isEmpty else (s.joined p).contains g

/-- ARP_ND_ICMP (R341). A query names a group by its MAC address, or 0 for every group. -/
def State.neighbourAsk (s : State) (p : Nat) (q : Neighbour) : State :=
  if s.netUp p = false then s
  else
    let s1 := s.takeRx p 2
    if s.answers p q then s1.enqueue p 2 (.neighbour q) else s1

/-- Ports report the groups that they join, and those that nothing uses any more (R341). -/
def State.reportGroups (old s : State) : State :=
  [0, 1, 2].foldl (fun (k : State) p =>
    let was := if old.netUp p then old.memberships p else []
    let now := s.memberships p
    if s.netUp p = false ∨ was = now then k
    else
      let k1 := (now.filter (fun e => !(was.contains e))).foldl (fun (q : State) e => q.enqueue p 2 (.report true e.1 e.2)) k
      (was.filter (fun e => !(now.contains e))).foldl (fun (q : State) e => q.enqueue p 2 (.report false e.1 e.2)) k1) s

/-! ### Streams: packets and checks (R342 to R348) -/

/-- P, the samples per channel of a packet (R343). -/
def perPacket (ptime fsCode : Nat) : Nat :=
  let base := match ptime with
    | 0 => 6
    | 1 => 12
    | 2 => 16
    | 3 => 48
    | _ => 192
  base * 2 ^ (fsCode / 2)

/-- Bytes of a channel sample. -/
def smpBytes (format : Nat) : Nat := format + 2

/-- P of a receive stream and of a transmit stream. -/
def State.rxP (s : State) (i : Nat) : Nat := perPacket (s.nat (El.rxPtime i)) (s.nat (El.rxRate i))
def State.txP (s : State) (j : Nat) : Nat := perPacket (s.nat (El.txPtime j)) (s.nat El.fsInt)

/-- Whether a packet breaks R343, or R342's channel counts. -/
def packetBad (format channels p : Nat) (jumbo : Bool) : Bool :=
  decide ((if jumbo then 8960 else 1440) < channels * smpBytes format * p) ||
    (format == 2 && (channels % 2 == 1 || decide (channels < 2)))

/-- Whether the legs of a stream are refused (R346). -/
def State.legsBad (s : State) (legs : Nat) : Bool :=
  legs == 0 ||
    (if s.nat El.netMode = 1 then bitOf legs 1 || !(s.on (El.portEnable 0) || s.on (El.portEnable 1))
    else (bitOf legs 0 && !s.on (El.portEnable 0)) || (bitOf legs 1 && !s.on (El.portEnable 1)))

/-- Whether two channel ranges overlap. -/
def rangesMeet (a n b m : Nat) : Bool := decide (a < b + m) && decide (b < a + n)

/-- Whether `rx_enable` is refused (R346). -/
def State.rxBad (s : State) (i : Nat) : Bool :=
  let f := s.nat (El.rxFirst i)
  let n := s.nat (El.rxChannels i)
  decide (2048 < f + n) ||
    (s.rxOn.any (fun k => k != i && rangesMeet f n (s.nat (El.rxFirst k)) (s.nat (El.rxChannels k)))) ||
    packetBad (s.nat (El.rxFormat i)) n (s.rxP i) (s.on (El.rxJumbo i)) || s.legsBad (s.nat (El.rxLegs i)) ||
    (s.nat (El.rxDomain i) == 0 && s.nat (El.rxRate i) != s.nat El.fsInt)

/-- Bytes that a packet of transmit stream j occupies on the wire, with preamble and gap (R346). -/
def State.wireBytes (s : State) (j : Nat) : Nat :=
  let leg := if bitOf (s.nat (El.txLegs j)) 0 then 0 else 1
  let dst := (s.val (if leg = 0 then El.txDstA j else El.txDstB j)).toBytes
  let ip := if isMapped dst then 20 else 40
  let tag := if s.nat (El.portVlan leg) = 0 then 0 else 4
  s.nat (El.txChannels j) * smpBytes (s.nat (El.txFormat j)) * s.txP j + 12 + 8 + ip + 14 + tag + 4 + 20

/-- Whether a shaped ring of a port carries more than its idle slope, with stream j (R346). -/
def State.slopeBad (s : State) (j p : Nat) : Bool :=
  let r := s.nat (El.txRing j)
  let l := j :: s.txOn.filter (fun k => k ≠ j ∧ s.nat (El.txRing k) = r ∧ s.legUses (s.nat (El.txLegs k)) p)
  -- the wire rate is bytes * 8 * Fs / P bit/s; a common multiple of every P keeps the sum whole
  let total := (l.map (fun k => s.wireBytes k * 8 * s.fs * (18432 / s.txP k))).sum
  s.legUses (s.nat (El.txLegs j)) p && s.shaped p r && decide (s.nat (El.txrIdleSlope p r) * 1000 * 18432 < total)

/-- Whether `tx_enable` is refused (R346). -/
def State.txBad (s : State) (j : Nat) : Bool :=
  let f := s.nat (El.txFirst j)
  let n := s.nat (El.txChannels j)
  decide (2048 < f + n) ||
    (s.txOn.any (fun k => k != j && rangesMeet f n (s.nat (El.txFirst k)) (s.nat (El.txChannels k)))) ||
    packetBad (s.nat (El.txFormat j)) n (s.txP j) (s.on (El.txJumbo j)) || s.legsBad (s.nat (El.txLegs j)) ||
    decide (s.nat (El.txRing j) < 4) || s.slopeBad j 0 || s.slopeBad j 1

/-! ### Receiving (R347 to R353) -/

def RxStream.fresh : RxStream := ⟨[], [], none, none, false, false, [], none, 0, none, false, none⟩
def State.rxStream (s : State) (i : Nat) : RxStream := Tab.get RxStream.fresh s.net.rx i
def State.setRxStream (s : State) (i : Nat) (x : RxStream) : State :=
  { s with net := { s.net with rx := Tab.put RxStream.fresh s.net.rx i x } }

/-- Whether a packet belongs to stream i on a leg (R348). -/
def State.rxMatches (s : State) (leg i : Nat) (k : Packet) : Bool :=
  let src := (s.val (if leg = 0 then El.rxSrcA i else El.rxSrcB i)).toBytes
  k.dst == (s.val (if leg = 0 then El.rxDstA i else El.rxDstB i)).toBytes &&
    k.dport == s.nat (if leg = 0 then El.rxPortA i else El.rxPortB i) && (src == List.replicate 16 0 || src == k.srcIp)

/-- Whether a packet passes the checks of R348. -/
def State.rxChecks (s : State) (i : Nat) (k : Packet) : Bool :=
  (s.nat (El.rxPt i) == 0xFF || s.nat (El.rxPt i) == k.pt) && (s.nat (El.rxSsrc i) == 0 || s.nat (El.rxSsrc i) == k.ssrc) &&
    k.len == s.nat (El.rxChannels i) * smpBytes (s.nat (El.rxFormat i)) * s.rxP i && k.udpOk

/-- Packets missing between two sequence numbers of a leg (R351). -/
def seqGap (last : Option Nat) (seq : Nat) : Nat :=
  match last with
  | none => 0
  | some l => let d := (seq + 65536 - l) % 65536; if d = 0 ∨ 32768 ≤ d then 0 else d - 1
/-- The last sequence number after a packet. -/
def seqAfter (last : Option Nat) (seq : Nat) : Option Nat :=
  match last with
  | none => some seq
  | some l => if (seq + 65536 - l) % 65536 < 32768 then some seq else some l

/-- The index of a timestamp (R347): within 2^31 of the current sample. -/
def State.indexOf (s : State) (ts off : Nat) : Int :=
  let now := s.sampleNow
  (now : Int) + signed 32 ((ts + 2 * 2 ^ 32 - off % 2 ^ 32 - now % 2 ^ 32) % 2 ^ 32)

/-- The word of a channel sample as Q1.31 (R344): 16 bits for L16, else 24. -/
def State.rxSample (s : State) (i : Nat) (v : Int) : Int :=
  let w := if s.nat (El.rxFormat i) = 0 then 16 else 24
  signed w (wrap w v) * (2 ^ (32 - w) : Nat)

/-- First index whose in-tray can still take a sample now (R349). -/
def State.openIndex (s : State) : Nat :=
  let h := (s.rounds.nextPulse - 1) * s.roundB
  if s.clkOf (s.rounds.nextPulse * s.roundB) < s.smpClk + 5000 * 65536 then h + s.roundB else h

/-- One sample instant of a packet with release index m: each channel is placed, late or early (R349, R351, R352). -/
def State.placeInstant (s : State) (i : Nat) (m : Int) (x : List (Option Int)) : State :=
  let h := (s.rounds.nextPulse - 1) * s.roundB
  let top : Int := (h + s.nat (El.rxLinkOffset i) + 2 * s.roundB + 4 * s.rxP i : Nat)
  if m < s.openIndex then s.bump (El.rxLate i) x.length 32
  else if top ≤ m then s.bump (El.rxEarly i) x.length 32
  else x.zipIdx.foldl (fun (k : State) e =>
    let q := k.rxStream i
    let key := m.toNat * 64 + e.2
    match e.1 with
    | none => k
    | some v => if (Tab.get none q.box key).isSome then k
      else k.setRxStream i { q with box := Tab.put none q.box key (some (k.rxSample i v)) }) s

/-- Time from now to the deadline of release index m, ns (R350). -/
def State.marginOf (s : State) (m : Int) : Int :=
  ((s.clkOf ((m.toNat / s.roundB + 1) * s.roundB) : Int) - (5000 * 65536 : Nat) - s.smpClk) / 65536

/-- `rx_margin` over the last second. -/
def State.noteMargin (s : State) (i : Nat) (m : Int) : State :=
  let q := s.rxStream i
  let l := (s.time.tick, s.marginOf m) :: q.margins.filter (fun e => decide (s.time.tick < e.1 + 1000000000))
  (s.setRxStream i { q with margins := l }).setI (El.rxMargin i) (l.foldl (fun z e => min z e.2) (s.marginOf m))

/-- The packet counters of a leg (R351); its samples go to the holding box in DRAM, in Express class (R445). -/
def State.countPacket (s : State) (leg i seq : Nat) : State :=
  let q := s.rxStream i
  let s := s.noteEngine .express i (s.rxP i * s.nat (El.rxChannels i) * smpBytes (s.nat (El.rxFormat i)))
  if leg = 0 then
    ((s.setRxStream i { q with seqA := seqAfter q.seqA seq, got := true }).inc (El.rxPacketsA i)).bump
      (El.rxMissingA i) (seqGap q.seqA seq) 32
  else
    ((s.setRxStream i { q with seqB := seqAfter q.seqB seq, got := true }).inc (El.rxPacketsB i)).bump
      (El.rxMissingB i) (seqGap q.seqB seq) 32

/-- A timestamp counted without wrap, within 2^31 of the one before. -/
def unwrapTs (last : Option Nat) (ts : Nat) : Nat :=
  match last with
  | none => 2 ^ 40 + ts
  | some l => ((l : Int) + signed 32 ((ts + 2 ^ 32 - l % 2 ^ 32) % 2 ^ 32)).toNat

/-- The samples of a packet enter the holding box of an unlocked stream at timestamp u; one that has been passed on already
is late. -/
def State.unlockedPlace (s : State) (i u : Nat) (x : List (List (Option Int))) : State :=
  x.zipIdx.foldl (fun (k : State) e =>
    let q := k.rxStream i
    if q.passing ∧ u + e.2 < q.low.getD 0 then k.bump (El.rxLate i) e.1.length 32
    else k.setRxStream i { q with box := e.1.zipIdx.foldl (fun (t : Tab (Option Int)) c =>
      let key := (u + e.2) * 64 + c.2
      if (Tab.get none t key).isSome then t else Tab.put none t key (c.1.map (k.rxSample i))) q.box }) s

/-- One sample instant leaves the holding box of an unlocked stream; a missing sample is replaced under `rx_fill`. -/
def State.unlockedPass (s : State) (i : Nat) : State × List (Nat × Int) :=
  let q := s.rxStream i
  let u := q.low.getD 0
  let x := (List.range (s.nat (El.rxChannels i))).map (fun c => (c, Tab.get none q.box (u * 64 + c)))
  let fill (c : Nat) : Int := if s.nat (El.rxFill i) = 1 then Tab.get 0 q.lastSmp c else 0
  let lost := (x.filter (fun e => e.2.isNone)).length
  ((s.setRxStream i { q with
      low := some (u + 1)
      box := q.box.filter (fun e => decide ((u + 1) * 64 ≤ e.1))
      lastSmp := x.foldl (fun (t : Tab Int) e => match e.2 with
        | none => t
        | some v => Tab.put 0 t e.1 v) q.lastSmp }).bump (El.rxReplaced i) lost 64,
    x.map (fun e => (sigNet (s.nat (El.rxFirst i) + e.1), e.2.getD (fill e.1))))

/-- A packet of an unlocked stream: the box orders its samples by timestamp and, once it holds `rx_link_offset` of them, passes
on what lies that far behind the newest (R353). A timestamp more than a second past the newest starts the box afresh
(log entry 105). -/
def State.unlockedReceive (s : State) (i : Nat) (k : Packet) : State :=
  let q0 := s.rxStream i
  let u := unwrapTs q0.lastTs k.ts
  let leap := q0.lastTs.isSome && decide (q0.top + 384000 < u)
  let q : RxStream := if leap then { q0 with box := [], low := none, passing := false, origin := none, top := 0 } else q0
  let top := max q.top (u + s.rxP i)
  let low := if q.passing then q.low.getD u else min (q.low.getD u) u
  let org := q.origin.getD (u, s.time.tick)
  let off := s.nat (El.rxLinkOffset i)
  let pass := q.passing || decide (off ≤ top - low)
  let s1 := s.setRxStream i { q with lastTs := some u, top := top, low := some low, passing := q.passing, origin := some org }
  let s2 := s1.unlockedPlace i u k.samples
  if pass = false then s2
  else
    let s3 := s2.setRxStream i { s2.rxStream i with passing := true }
    let r := (List.range (top - off - low)).foldl (fun (a : State × List (List (Nat × Int))) _ =>
      let z := a.1.unlockedPass i
      (z.1, a.2 ++ [z.2])) (s3, [])
    if r.2 = [] then r.1 else r.1.asrcFeed (0x100 + i) (Config.streamRate (u - org.1) (s.time.tick - org.2)) r.2

/-- STREAM_PACKET_RECEIVE (R348, R349, R351, R353). -/
def State.packetReceive (s : State) (leg i : Nat) (k : Packet) : State :=
  let p := if leg = 0 then 0 else 1
  let port := if s.nat El.netMode = 1 ∧ !s.netUp 0 then 1 else p
  if 1 < leg ∨ s.on (El.rxEnable i) = false ∨ 512 ≤ i ∨ s.netUp port = false ∨ bitOf (s.nat (El.rxLegs i)) leg = false then s
  else
    let s0 := s.takeRx port (4 + i % 60)
    if s.rxMatches leg i k = false then s0
    else if s.rxChecks i k = false then s0.inc (El.rxOther i)
    else
      let s1 := (s0.countPacket leg i k.seq).setN (El.rxState i) 2
      if s.nat (El.rxDomain i) = 1 then s1.unlockedReceive i k
      else if s.anchored = false then s1
      else
        let m0 := s.indexOf k.ts (s.nat (El.rxRtpOffset i)) + (s.nat (El.rxLinkOffset i) : Int)
        k.samples.zipIdx.foldl (fun (q : State) e => q.placeInstant i (m0 + e.2) e.1) (s1.noteMargin i m0)

/-- A channel of a locked stream in the in-tray that is handed over: its B samples with the replacements of R61, and the
offsets of those that were replaced. -/
def State.streamChannel (s : State) (i c k : Nat) : List Int × List Nat :=
  let q := s.rxStream i
  let b := s.roundB
  let r := (List.range b).foldl (fun (acc : List Int × Int × List Nat) j =>
    match Tab.get none q.box (((k - 1) * b + j) * 64 + c) with
    | some v => (acc.1 ++ [v], v, acc.2.2)
    | none => (acc.1 ++ [if s.nat (El.rxFill i) = 1 then acc.2.1 else 0], acc.2.1, acc.2.2 ++ [j])) ([], Tab.get 0 q.lastSmp c, [])
  (r.1, r.2.2)

/-- The underruns of an in-tray (R62): whether the last position is inside one, and the offsets at which one begins. Data have
arrived again at a position that no channel lacks. -/
def underruns (b : Nat) (inside : Bool) (lost : List (List Nat)) : Bool × List Nat :=
  (List.range b).foldl (fun (a : Bool × List Nat) j =>
    if lost.any (fun l => l.contains j) then (true, if a.1 then a.2 else a.2 ++ [j]) else (false, a.2)) (inside, [])

/-- The last received sample of a channel after an in-tray. -/
def State.lastReceived (s : State) (i c k : Nat) : Int :=
  let q := s.rxStream i
  let b := s.roundB
  (List.range b).foldl (fun v j => (Tab.get none q.box (((k - 1) * b + j) * 64 + c)).getD v) (Tab.get 0 q.lastSmp c)

/-- A locked stream hands over its samples at pulse k: replaced samples count, and the first sample of each underrun posts
STREAM_UNDERRUN (R61, R62). A stream that has received nothing since it was enabled waits. -/
def State.streamTray (s : State) (i k : Nat) : State :=
  let b := s.roundB
  let n := s.nat (El.rxChannels i)
  let first := s.nat (El.rxFirst i)
  let ch := (List.range n).map (fun c => (c, s.streamChannel i c k))
  let tray := ch.foldl (fun (t : Tab (List Int)) e => Tab.put [] t (sigNet (first + e.1)) e.2.1) (Tab.get [] s.rounds.inTrays k)
  let own := (ch.filter (fun e => decide (e.2.2.length < b))).map (fun e => sigNet (first + e.1))
  let q := s.rxStream i
  let gaps := underruns b q.under (ch.map (fun e => e.2.2))
  let s1 := ({ s with rounds := { s.rounds with
    inTrays := Tab.put [] s.rounds.inTrays k tray
    live := own ++ s.rounds.live } } : State).setRxStream i { q with
      under := q.got && gaps.1
      box := q.box.filter (fun e => decide (k * b * 64 ≤ e.1))
      lastSmp := (List.range n).foldl (fun (t : Tab Int) c => Tab.put 0 t c (s.lastReceived i c k)) q.lastSmp }
  let lost := (ch.map (fun e => e.2.2.length)).sum
  if lost = 0 ∨ q.got = false then s1
  else
    let s2 := (s1.bump (El.rxReplaced i) lost 64).setN (El.rxState i) 3
    gaps.2.foldl (fun (u : State) j => u.post nStreamUnderrun (El.rxEnable i) ([i] ++ twoWords ((k - 1) * b + j))) s2

/-- The network intake at pulse k. -/
def State.netTray (s : State) (k : Nat) : State :=
  if s.domainUp 0x0D = false then s
  else (s.rxOn.filter (fun i => s.nat (El.rxDomain i) = 0)).foldl (fun q i => q.streamTray i k) s

/-! ### Transmitting (R354 to R357) -/

/-- The index of the next packet of transmit stream j. -/
def State.nextPacket (s : State) (j : Nat) : Nat := Tab.get 0 s.net.txNext j

/-- The words of packet n: P sample instants of every channel; exact zero while rounds are stopped (R345, R354, R357). -/
def State.packetSamples (s : State) (j n : Nat) : List (List Int) :=
  let w := if s.nat (El.txFormat j) = 0 then 16 else 24
  let p := s.txP j
  (List.range p).map (fun i => (List.range (s.nat (El.txChannels j))).map (fun c =>
    let key := 4 * 2 ^ 28 + s.nat (El.txFirst j) + c
    let back := Tab.get 0 s.rounds.played key - 1 - (n * p + i)
    if s.roundsRun then outSample w (s.playedBack key back) / (2 ^ (32 - w) : Nat) else 0))

/-- Packet n of stream j on a leg: every field follows from settings and the timeline (R339, R354 to R356). -/
def State.mediaPacket (s : State) (j leg n : Nat) : MediaPacket :=
  let p := s.txP j
  let x := s.packetSamples j n
  let dst := (s.val (if leg = 0 then El.txDstA j else El.txDstB j)).toBytes
  let cs := (s.val (El.txCs j)).toBytes
  let m : MediaPacket :=
    { stream := j, leg := leg, format := s.nat (El.txFormat j), dst := dst
      src := if isMapped dst then List.replicate 10 0 ++ [0xFF, 0xFF] ++ (s.val (El.portIp4 leg)).toBytes else (s.val (El.portIp6 leg)).toBytes
      sport := s.nat (if leg = 0 then El.txSportA j else El.txSportB j)
      dport := s.nat (if leg = 0 then El.txPortA j else El.txPortB j)
      ttl := s.nat (El.txTtl j), dscp := s.nat (El.txDscp j), pt := s.nat (El.txPt j), ssrc := s.nat (El.txSsrc j)
      seq := (n + s.nat (El.txSeqBase j)) % 65536
      ts := (n * p + s.nat (El.txRtpOffset j)) % 2 ^ 32
      samples := x
      subs := if s.nat (El.txFormat j) = 2 then
        x.zipIdx.map (fun e => e.1.zipIdx.map (fun c => aesSub cs (n * p + e.2) (c.2 % 2 == 0) c.1)) else []
      checksum := 0 }
  { m with checksum := m.udpSum }

/-- `tx_state` (R362). -/
def State.showTx (s : State) (j : Nat) : State :=
  s.setN (El.txState j) (if s.on (El.txEnable j) = false then 0 else if s.drives then 1 else 2)

/-- A packet leaves on a leg. -/
def State.sendLeg (s : State) (j leg : Nat) (x : TxItem) : State :=
  if bitOf (s.nat (El.txLegs j)) leg = false then s
  else
    let dst := groupMac (s.val (if leg = 0 then El.txDstA j else El.txDstB j)).toBytes
    let s1 := (s.ownPorts leg dst).foldl (fun (k : State) p => k.enqueue p (s.nat (El.txRing j)) x) s
    s1.inc (if leg = 0 then El.txPacketsA j else El.txPacketsB j)

/-- Whether a packet whose last sample has an index leaves: where the engine drives, from H on after a takeover, and before H after
it yielded (R357, R493). -/
def State.sends (s : State) (last : Nat) : Bool :=
  match s.twin.handAt with
  | none => s.drives
  | some h => if s.drives then s.mode != 6 || decide (h ≤ last) else s.mode == 7 && decide (last < h)

/-- STREAM_PACKET_SEND: packet n of stream j, once its last sample is due (R354, R355, R357). -/
def State.packetSend (s : State) (j n : Nat) : State :=
  let p := s.txP j
  if 512 ≤ j ∨ s.on (El.txEnable j) = false ∨ (s.roundsRun = false ∧ s.drives = false) ∨ s.domainUp 0x0D = false ∨
      n ≠ s.nextPacket j ∨ s.sampleNow < n * p + p - 1 then s
  else
    let s1 := ({ s with net := { s.net with txNext := Tab.put 0 s.net.txNext j (n + 1) } } : State).showTx j
    if s.sends (n * p + p - 1) = false then s1
    else
      (s1.sendLeg j 0 (.media (s.mediaPacket j 0 n))).sendLeg j 1 (.media (s.mediaPacket j 1 n))

/-! ### Writes of areas 05 and 06 -/

/-- Sum of the idle slopes of a port's shaped rings, with ring r taking a slope and a shaper bit (R338). -/
def State.slopes (s : State) (p r slope : Nat) (on : Bool) : Nat :=
  ((List.range 64).map (fun q => if q = r then (if on ∧ r ≠ 0 then slope else 0)
    else if s.shaped p q then s.nat (El.txrIdleSlope p q) else 0)).sum

/-- Line rate of a port A or B for a speed code. -/
def rateOfCode (v : Nat) : Nat := if v = 1 then 25000000 else 10000000

/-- The value of a write in areas 05 and 06. -/
def State.netValue (s : State) (a : Nat) (v : Val) : Status :=
  let o := objectOf a
  let e := elementOf a
  let x := v.toNat
  let len := v.toBytes.length
  if areaOf a = 0x05 then
    if o < 3 then
      if e = 1 ∧ o < 2 ∧ (1 < x ∨ (x = 1 ∧ s.variant.net25g = false) ∨ (x = 0 ∧ s.nat (El.portFec o) = 1) ∨
          3 * rateOfCode x < 4 * s.slopes o 64 0 false) then .outOfRange
      else if e = 2 ∧ x = 1 ∧ s.nat (El.portSpeed o) = 0 then .outOfRange
      else if e = 3 ∧ (len ≠ 6 ∨ isGroupMac (beVal v.toBytes)) then .outOfRange
      else if (e = 4 ∨ e = 6) ∧ len ≠ 4 then .outOfRange
      else if e = 7 ∧ len ≠ 16 then .outOfRange
      else .ok
    else if 0x400 ≤ o then
      let p := (o - 0x400) / 64
      let r := (o - 0x400) % 64
      let cur := s.nat (El.txrIdleSlope 0 (o - 0x400))
      if e = 1 ∧ x = 1 ∧ 3 * s.lineRate p < 4 * s.slopes p r cur true then .outOfRange
      else if e = 2 ∧ s.shaped p r ∧ 3 * s.lineRate p < 4 * s.slopes p r x true then .outOfRange
      else .ok
    else .ok
  else if o < 0x200 then
    if e = 0 ∧ x = 1 ∧ s.nat (El.rxEnable o) = 0 ∧ s.rxBad o then .outOfRange
    else if (e = 0x10 ∨ e = 0x12 ∨ e = 0x13 ∨ e = 0x15) ∧ len ≠ 16 then .outOfRange
    else .ok
  else
    if e = 0 ∧ x = 1 ∧ s.nat (El.txEnable (o - 0x200)) = 0 ∧ s.txBad (o - 0x200) then .outOfRange
    else if (e = 0x10 ∨ e = 0x13) ∧ len ≠ 16 then .outOfRange
    else if e = 0x16 ∧ len ≠ 23 then .outOfRange
    else .ok

/-- Whether BOP sessions run on a network port. -/
def State.sessionsOn (s : State) (p : Nat) : Bool :=
  s.bop.sessions.any (fun e => match e.2 with
    | none => false
    | some x => x.port == (if p = 2 then 0 else p + 1))

/-- What the state allows of a write in areas 05 and 06 (R335, R346, R358). -/
def State.netState (s : State) (a : Nat) (v : Val) : Status :=
  let o := objectOf a
  let e := elementOf a
  if areaOf a = 0x05 then
    if o < 2 ∧ (e = 1 ∨ e = 2) ∧ (s.streamOnPort o ∨ s.on (El.ptpEnable o)) then .wrongState
    else if o < 3 ∧ e = 0 ∧ v.toNat = 0 ∧ (s.streamOnPort o ∨ s.sessionsOn o) then .wrongState
    else .ok
  else if o < 0x200 then
    (if s.on (El.rxEnable o) ∧ e ≠ 0 ∧ e ≠ 7 ∧ e ≠ 8 then .wrongState else .ok)
  else if s.on (El.txEnable (o - 0x200)) ∧ e ≠ 0 then .wrongState
  else .ok

/-- `rx_enable` takes a value. -/
def State.applyRxEnable (s : State) (i v : Nat) : State :=
  if v = 0 then ((s.setN (El.rxEnable i) 0).setN (El.rxState i) 0 |>.setRxStream i RxStream.fresh).asrcStarve (0x100 + i)
  else if s.on (El.rxEnable i) then s
  else ((s.setN (El.rxEnable i) 1).setN (El.rxState i) 1).setRxStream i RxStream.fresh

/-- A quotient whose rounding the manual does not state: exact, or either neighbour (log entry 3). -/
def State.openQuot (s : State) (a b : Nat) : Nat × State :=
  if a % b = 0 then (a / b, s) else (a / b + s.fresh.1 % 2, s.fresh.2)

/-- `tx_enable` takes a value: the first packet is that of the first multiple of P at or after the effective sample
(R354), and `tx_wire_rate` shows one leg's rate. -/
def State.applyTxEnable (s : State) (j v : Nat) : State :=
  if v = 0 then ((s.setN (El.txEnable j) 0).setN (El.txWireRate j) 0).showTx j
  else if s.on (El.txEnable j) then s
  else
    let w := s.openQuot (s.wireBytes j * 8 * s.fs) (s.txP j * 1000)
    let s1 : State := { w.2 with net := { s.net with txNext := Tab.put 0 s.net.txNext j (ceilDiv s.reported (s.txP j)) } }
    ((s1.setN (El.txEnable j) 1).setN (El.txWireRate j) w.1).showTx j

/-- Counters of a port, a receive stream and a transmit stream that a clear sets to 0. -/
def portCounters (p : Nat) : List Nat :=
  [El.portRunts p, El.portFcsErr p, El.portOversize p, El.portTxUnderruns p, El.portStomped p, El.portRxDrops p, El.portTxDrops p]
def rxCounters (i : Nat) : List Nat :=
  [El.rxPacketsA i, El.rxPacketsB i, El.rxMissingA i, El.rxMissingB i, El.rxReplaced i, El.rxLate i, El.rxEarly i, El.rxOther i]

/-- A write in areas 05 and 06 applies, before group reports. -/
def State.storeNet (s : State) (a : Nat) (v : Val) : State :=
  let o := objectOf a
  let e := elementOf a
  let x := v.toNat
  if areaOf a = 0x05 then
    if o < 3 ∧ e = 0x2F then (if x = 1 then s.setAll (portCounters o) 0 else s)
    else if o < 3 ∧ e = 0 ∧ x = 0 then ((s.setV a v).setN (El.portLink o) 0).setN (El.portRateNow o) 0
    else if 0x400 ≤ o ∧ e = 4 then (if x = 1 then s.setN (El.txrThreshold 0 (o - 0x400)) 256 else s)
    else s.setV a v
  else if o < 0x200 then
    if e = 0 then s.applyRxEnable o x
    else if e = 0x2F then (if x = 1 then s.setAll (rxCounters o) 0 else s)
    else if e = 2 ∨ e = 5 then (s.setV a v).showAsrc
    else s.setV a v
  else
    let j := o - 0x200
    if e = 0 then s.applyTxEnable j x
    else if e = 0x1F then (if x = 1 then s.setAll [El.txPacketsA j, El.txPacketsB j] 0 else s)
    else s.setV a v

/-- A write in areas 05 and 06 applies; ports report the groups that it makes them join or leave (R341). -/
def State.applyNet (s : State) (a : Nat) (v : Val) : State :=
  if elementOf a = 0 ∧ objectOf a < 0x200 then s.reportGroups (s.storeNet a v) else s.storeNet a v

end Sys2Proof.Machine
end

