-- ==== Sys2Proof/Machine/Coach.lean ====
section
/-! DEFINITION. Coach links, channels and distributed buses (R363 to R394). -/

namespace Sys2Proof.Machine

/-! ### Links -/

/-- Whether a link runs: present, enabled, its island up (R17, R363). -/
def State.linkOn (s : State) (l : Nat) : Bool := linkPresent s.variant l && s.on (El.lkEnable l) && s.domainUp 0x0F
/-- Whether link l is the courier link of a twin (R392). -/
def State.isCourier (s : State) (l : Nat) : Bool := l == 3 && s.on El.twEnable
/-- Whether a link is in step. -/
def State.inStep (s : State) (l : Nat) : Bool := s.linkOn l && s.nat (El.lkState l) == 3

/-- The buses in use, of those in service (R370, R380, R394). -/
def State.buses (s : State) : List Nat := (List.range (s.cap 512)).filter (fun b => s.nat (El.dbRole b) ≠ 0)

/-- `tg_map_crc` of a set of buses (R387). -/
def mapBytes (role owner depth : Nat → Nat) : List Byte :=
  (List.range 512).flatMap (fun b => if role b = 0 then leBytes 2 0xFFFF ++ leBytes 1 0 else leBytes 2 (owner b) ++ leBytes 1 (depth b))
def State.mapCrc (s : State) : Nat :=
  crc32c (mapBytes (fun b => s.nat (El.dbRole b)) (fun b => s.nat (El.dbOwner b)) (fun b => s.nat (El.dbDepth b)))
/-- The check of a map with no bus in use. -/
def emptyMapCrc : Nat := crc32c (mapBytes (fun _ => 0) (fun _ => 0) (fun _ => 0))

/-- The reason for which a link is refused (R376). -/
def State.refusalOf (s : State) (x : TimeSection) : Nat :=
  if x.engine = s.nat El.engineNumber then 1
  else if x.tgId ≠ 0 ∧ s.nat El.tgId ≠ 0 ∧ x.tgId ≠ s.nat El.tgId then 2
  else if !s.buses.isEmpty && x.mapCrc != emptyMapCrc && x.mapCrc != s.nat El.tgMapCrc then 3
  else 0

/-- Whether a time section meets R375. -/
def State.sectionFits (s : State) (x : TimeSection) : Bool :=
  s.anchored && x.fs == s.nat El.fsInt && x.b == s.roundB && x.round == x.t1 * s.fs / 1000000000 / s.roundB

/-- Half of a difference, exact or either neighbour where it is odd (log entry 3). -/
def State.openHalf (s : State) (z : Int) : Int × State :=
  if z % 2 = 0 then (z / 2, s) else (z / 2 + (s.fresh.1 % 2 : Nat), s.fresh.2)

/-- The state of a link after a time section, and its count of matching ones (R374 to R376). -/
def State.stepLink (s : State) (l : Nat) (x : TimeSection) : State :=
  let k := s.link l
  let why := s.refusalOf x
  if why ≠ 0 then ((s.setLink l { k with matched := 0 }).setN (El.lkState l) 4).setN (El.lkRefusal l) why
  else if s.sectionFits x then
    let n := min 16 (k.matched + 1)
    ((s.setLink l { k with matched := n }).setN (El.lkState l) (if n = 16 then 3 else 2)).setN (El.lkRefusal l) 0
  else ((s.setLink l { k with matched := 0 }).setN (El.lkState l) 2).setN (El.lkRefusal l) 0

/-- TIME_SECTION: the far end's timing, delay and offset, and the state of the link (R371 to R376). -/
def State.timeSection (s : State) (l : Nat) (x : TimeSection) : State :=
  if s.linkOn l = false ∨ (s.link l).blockLock = false then s
  else
    let s1 := s.setLink l { s.link l with
      lastSection := s.time.tick
      farSent := x.t1
      arrival := x.arrival
      farDriving := x.driving
      farTwin := x.twin
      farClaim := x.claim
      farTg := x.tgId
      farCrc := x.mapCrc }
    let s2 := (s1.setN (El.lkFarEngine l) x.engine).setN (El.lkFarQuality l) (if x.quality = 0 then 15 else x.quality % 16)
    -- own departure x.t3, far arrival x.t4, far departure x.t1, own arrival x.arrival
    let there : Int := (x.t4 : Int) - x.t3
    let back : Int := (x.arrival : Int) - x.t1
    let s3 := if x.t3 = 0 then s2 else
      let d := s2.openHalf (there + back)
      let o := d.2.openHalf (there - back)
      (o.2.setN (El.lkDelay l) (wrap 32 d.1)).setI (El.lkOffset l) (signed 32 (wrap 32 o.1))
    s3.stepLink l x

/-- A link goes down (R374); what the far end sends is no longer known. -/
def State.linkDown (s : State) (l : Nat) : State :=
  (s.setLink l { s.link l with matched := 0 }).setAll [El.lkRxChannels l] 0 |>.setN (El.lkState l) 1

/-- TIME_SECTION_TIMEOUT: no valid time section for 3 rd (R374). -/
def State.sectionTimeout (s : State) (l : Nat) : State :=
  if s.linkOn l = false ∨ s.time.tick < (s.link l).lastSection + s.roundsNs 3 then s else s.linkDown l

/-- BLOCK_LOCK (R364, R374). -/
def State.setBlockLock (s : State) (l : Nat) (locked : Bool) : State :=
  if s.linkOn l = false then s
  else
    let s1 := s.setLink l { s.link l with blockLock := locked }
    if locked then s1 else s1.linkDown l

/-- Of two paired links the one from which channels and sums are taken (R386). -/
def State.chosen (s : State) (l : Nat) : Bool :=
  let m := s.nat (El.lkPair l)
  if 4 ≤ m ∨ m = l then true
  else
    let a := s.link l
    let b := s.link m
    a.farDriving && (!b.farDriving || decide (b.farClaim < a.farClaim))

/-! ### Channels (R377, R378) -/

/-- The links whose signals a section received on link l gives: both of a pair (R386). -/
def State.pairLinks (s : State) (l : Nat) : List Nat :=
  let m := s.nat (El.lkPair l)
  if 4 ≤ m ∨ m = l then [l] else [l, m]

/-- Chunks of a section that failed their check count (R367). -/
def State.countBad (s : State) (l : Nat) (bad : List Nat) : State := if bad = [] then s else s.bump (El.lkCrcErr l) bad.length 32

/-- CHANNELS_SECTION: channels of the far end's round r enter the in-tray of round r + 3, unless the section is late or the
link is not in step; a channel with bits in a bad chunk is missing (R367, R375, R378). -/
def State.channelsSection (s : State) (l r first : Nat) (bad : List Nat) (chans : List (List Int)) : State :=
  if s.linkOn l = false ∨ s.isCourier l then s
  else
    let s1 := (s.countBad l bad).raise (El.lkRxChannels l) (first + chans.length)
    if s1.inStep l = false ∨ s1.chosen l = false then s1
    else if s1.clkOf ((r + 3) * s1.roundB) < s1.smpClk + 2000 * 65536 ∨ r + 3 < s1.rounds.nextPulse then s1.inc (El.lkLate l)
    else
      let got := received bad (fun _ => 4 * s1.roundB) 0 chans
      (s1.pairLinks l).foldl (fun (k : State) m =>
        let tray := got.zipIdx.foldl (fun (t : Tab (List Int)) e => match e.1 with
          | none => t
          | some x => if s1.cap 4096 ≤ first + e.2 then t else Tab.put [] t (sigCoach (4096 * m + first + e.2)) (x.take s1.roundB))
          (Tab.get [] k.rounds.inTrays (r + 3))
        { k with rounds := { k.rounds with inTrays := Tab.put [] k.rounds.inTrays (r + 3) tray } }) s1

/-- The channels of a link at pulse k: those that did not arrive are replaced under `cl_fill` (R378). -/
def State.linkTray (s : State) (l k : Nat) : State :=
  let tray := Tab.get [] s.rounds.inTrays k
  let x := s.link l
  let r := (List.range (min (s.nat (El.lkRxChannels l)) (s.cap 4096))).foldl (fun (acc : Tab (List Int) × Tab Int) c =>
    let sig := sigCoach (4096 * l + c)
    match Tab.get [] tray sig with
    | [] =>
      let v := if s.nat (El.lkFill l) = 1 then Tab.get 0 acc.2 c else 0
      (Tab.put [] acc.1 sig (List.replicate s.roundB v), acc.2)
    | y => (acc.1, Tab.put 0 acc.2 c (y.getLastD 0))) (tray, x.lastSmp)
  ({ s with rounds := { s.rounds with inTrays := Tab.put [] s.rounds.inTrays k r.1 } } : State).setLink l { x with lastSmp := r.2 }

/-- Whether an in-step link has a channel missing from the in-tray of pulse k (R487). -/
def State.linkMisses (s : State) (l k : Nat) : Bool :=
  s.inStep l && (List.range (min (s.nat (El.lkRxChannels l)) (s.cap 4096))).any (fun c =>
    (Tab.get [] (Tab.get [] s.rounds.inTrays k) (sigCoach (4096 * l + c))).isEmpty)

/-- The coach intake at pulse k. -/
def State.coachTray (s : State) (k : Nat) : State :=
  ((List.range 4).filter (fun l => s.linkOn l && !s.isCourier l)).foldl (fun q l => q.linkTray l k) s

/-! ### Distributed buses (R380 to R384) -/

/-- A value saturated to Q13.35 (R381). -/
def satSum (z : Int) : Int := if z < -(2 ^ 47) then -(2 ^ 47) else if 2 ^ 47 - 1 < z then 2 ^ 47 - 1 else z

/-- The links from which bus b takes parts: those not in `db_uplink` (R382). -/
def State.partLinks (s : State) (b : Nat) : List Nat :=
  (List.range 4).filter (fun l => s.inStep l && !s.isCourier l && s.chosen l && !bitOf (s.nat (El.dbUplink b)) l)

/-- The part of bus b received on link l in a section of round r. -/
def State.partOf (s : State) (r l b : Nat) : List Int := Tab.get [] (Tab.get [] s.mix.inSums r) (512 * l + b)

/-- The links whose part of round r has not arrived. A leaf receives none: only links that ever delivered the bus are
waited for, so a part counts as awaited once its link sent the bus in the round before (log entry 37). -/
def State.awaited (s : State) (r b : Nat) : List Nat :=
  (s.partLinks b).filter (fun l => (s.partOf r l b).isEmpty && !(s.partOf (r - 1) l b).isEmpty)

/-- Σ in(r) of bus b for round r + 1. -/
def State.sumParts (s : State) (r b : Nat) : List Int :=
  (s.partLinks b).foldl (fun acc l => addLists acc (s.partOf r l b)) s.zeros

/-- own of a bus in a round; before the first, zeros. -/
def State.ownSum (s : State) (r b : Nat) : List Int := Tab.get s.zeros (Tab.get [] s.mix.own r) b

/-- own(r) from the destination's exact accumulator (R381). -/
def State.formOwn (s : State) (b : Nat) : List Int :=
  let d := s.nat (El.dbDst b)
  if d = 0xFFFF then s.zeros else (s.accOf d).map (fun z => satSum (roundShift z 26))

/-- Bus b at the end of pass A of round r: own(r) is kept, a contributor forms what it sends, and the owner replaces its
destination's sum by the exact total (R381, R382). -/
def State.runBus (s : State) (r b : Nat) : State :=
  let h := s.nat (El.dbHop b)
  let d := s.nat (El.dbDepth b)
  let own := Tab.put [] (Tab.get [] s.mix.own r) b (s.formOwn b)
  let s1 : State := { s with mix := { s.mix with own := Tab.put [] s.mix.own r own } }
  let parts := s1.sumParts (r - 1) b
  if s.nat (El.dbRole b) = 2 then
    let total := addLists (if r < d then s.zeros else s1.ownSum (r - d) b) parts
    let k := s.nat (El.dbDst b)
    if k = 0xFFFF then s1
    else { s1 with mix := { s1.mix with acc := Tab.put [] s1.mix.acc k (total.map (fun z => z * 2 ^ 26)) } }
  else
    let exact := addLists (if r < d - h then s.zeros else s1.ownSum (r - (d - h)) b) parts
    let sat := (exact.filter (fun z => satSum z ≠ z)).length
    ({ s1 with mix := { s1.mix with outSums := Tab.put [] s1.mix.outSums b (exact.map satSum) } } : State).bump (El.dbSat b) sat 32

/-- The buses in use at the end of pass A of round r; the parts of rounds that no delay needs any more are dropped. -/
def State.runBuses (s : State) (r : Nat) : State :=
  let s1 := s.buses.foldl (fun k b => k.runBus r b) s
  { s1 with mix := { s1.mix with
    own := s1.mix.own.filter (fun e => decide (r < e.1 + 16))
    inSums := s1.mix.inSums.filter (fun e => decide (r ≤ e.1 + 2))
    sumGone := [] } }

/-- Whether pass A of round r may complete: each part of round r - 1 has arrived, or its wait has run out (R383). -/
def State.sumsReady (s : State) (r : Nat) : Bool :=
  s.buses.all (fun b => s.mix.sumGone.contains b || (s.awaited (r - 1) b).isEmpty)

/-- SUMS_SECTION: partial sums of the far end's round r, for this engine's pass A of round r + 1; a part that arrives
after that pass, or after its wait, is discarded, and one with bits in a bad chunk is missing (R367, R382, R383). -/
def State.sumsSection (s : State) (l r : Nat) (bad : List Nat) (sums : List (Nat × List Int)) : State :=
  if s.linkOn l = false ∨ s.isCourier l then s
  else
    let s1 := s.countBad l bad
    let now := s.lineUp s.workRound
    let gone := decide (r + 1 < now) || (decide (r + 1 = now) && decide (1 ≤ s.rounds.passes))
    if s.inStep l = false ∨ s.chosen l = false ∨ gone then s1
    else
      let new := ((received bad (fun _ => 6 * s.roundB) 0 sums).filterMap id).foldl (fun (t : Tab (List Int)) e =>
        if s.mix.sumGone.contains e.1 && decide (r + 1 = now) then t
        else Tab.put [] t (512 * l + e.1) (e.2.map satSum)) (Tab.get [] s.mix.inSums r)
      { s1 with mix := { s1.mix with inSums := Tab.put [] s1.mix.inSums r new } }

/-- SUM_WAIT_EXPIRY: `cl_sum_wait` after pulse r has passed on every link whose part is missing; the parts count as zero,
and the round as missing (R383). -/
def State.sumExpiry (s : State) (b : Nat) : State :=
  match s.rounds.current with
  | none => s
  | some r =>
    let l := s.awaited (s.lineUp r - 1) b
    let expired (k : Nat) : Bool :=
      decide (Tab.get 0 s.rounds.pulseAt r + s.nat (El.lkSumWait k) * s.roundsNs 1 / 256 ≤ s.time.tick)
    if l.isEmpty ∨ s.mix.sumGone.contains b ∨ l.any (fun k => !expired k) then s
    else ({ s with mix := { s.mix with sumGone := b :: s.mix.sumGone } } : State).inc (El.dbMissing b)

/-- Whether the buses in use may run (R380, R384). -/
def State.busesOk (s : State) : Bool :=
  s.buses.all (fun b =>
    let h := s.nat (El.dbHop b)
    let d := s.nat (El.dbDst b)
    let up := (List.range 4).filter (bitOf (s.nat (El.dbUplink b)))
    let dstOk := decide (d < s.variant.dests) && s.nat (El.dstPass d) == 1
    decide (h ≤ s.nat (El.dbDepth b)) &&
      (if s.nat (El.dbRole b) = 2 then h == 0 && s.nat (El.dbOwner b) == s.nat El.engineNumber && dstOk
      else decide (1 ≤ h) && (d == 0xFFFF || dstOk) && !up.isEmpty) &&
      up.all (fun l => s.on (El.lkEnable l) && !s.isCourier l))

/-! ### The lane (R366 to R369) -/

/-- A section of a round becomes ready. -/
def State.readySection (s : State) (l kind r : Nat) : State :=
  let k := s.link l
  if s.linkOn l = false then s
  else s.setLink l { k with
    ready := if k.ready.contains kind then k.ready else kind :: k.ready
    readyAt := Tab.ins kind r k.readyAt }

/-- Whether the state of a link lets a kind of section go: a refused link carries time and tunnel alone (R375, R376, R389,
R392). -/
def State.mayCarry (s : State) (l kind : Nat) : Bool :=
  match kind with
  | 0 => true
  | 1 => s.isCourier l && s.nat (El.lkState l) != 4
  | 2 => s.inStep l && !s.isCourier l
  | 3 => s.inStep l && !s.isCourier l
  | 4 => decide (2 ≤ s.nat (El.lkState l))
  | _ => s.isCourier l && s.nat (El.lkState l) != 4

/-- Buses whose sums leave on link l. -/
def State.busesOn (s : State) (l : Nat) : List Nat :=
  s.buses.filter (fun b => s.nat (El.dbRole b) = 1 ∧ bitOf (s.nat (El.dbUplink b)) l)

/-- The messages that fit a tunnel section of 16,384 bytes, and those that wait. -/
def fitTunnel : Nat → List (List Byte) → List (List Byte) × List (List Byte)
  | _, [] => ([], [])
  | room, m :: l =>
    if tunnelBytes m ≤ room then let r := fitTunnel (room - tunnelBytes m) l; (m :: r.1, r.2) else ([], m :: l)

/-- Whether the engine drives its outputs, as its time sections say (R371). -/
def State.drivingBit (s : State) : Bool := s.mode == 5 || (s.mode == 6 && s.twin.driving)

/-- The data blocks of a time section (R371): round and settings, quality, driving and twin bits, claim and tile group, then its
departure, and departure and arrival of the last one received. -/
def State.timeBlocks (s : State) (l r : Nat) : List Block :=
  let k := s.link l
  let flag (b : Bool) (n : Nat) : Nat := if b then 2 ^ n else 0
  let w1 := s.nat El.fsInt + s.roundB * 2 ^ 8 + s.nat (El.lkQualityOut l) % 16 * 2 ^ 16 + flag s.drivingBit 20 +
    flag (s.on El.twEnable) 21 + (if s.on El.twEnable then s.claim else 0) * 2 ^ 32 + s.nat El.tgId * 2 ^ 48
  [r, w1, s.localNs, k.farSent, k.arrival, s.nat El.tgMapCrc].map (fun n => ⟨false, BitVec.ofNat 64 n⟩)

/-- The blocks of a section of a kind that belongs to round r; the items of the courier are laid out with the courier (R368,
R378, R381). -/
def State.kindBlocks (s : State) (l kind r : Nat) (msgs : List (List Byte)) : List Block :=
  let e := s.nat El.engineNumber
  match kind with
  | 0 => laneSection 0 e 0 r (s.timeBlocks l r)
  | 2 => laneSections 2 e r (3 * s.roundB / 4) ((s.busesOn l).map (fun b => sumBlocks (Tab.get s.zeros s.mix.outSums b)))
  | 3 =>
    let tray := Tab.get [] s.rounds.outTrays r
    laneSections 3 e r (s.roundB / 2) ((List.range (s.nat (El.lkTxChannels l))).map (fun c =>
      channelBlocks (Tab.get s.zeros tray (5 * 2 ^ 28 + 4096 * l + c))))
  | 4 => laneSection 4 e 0 r (dataBlocks (msgs.flatMap tunnelItem))
  | _ => []

/-- SECTION_SEND: the highest-ranked ready section starts (R369); a lane forced to idle sends none (R27). -/
def State.sectionSend (s : State) (l : Nat) : State :=
  if s.linkOn l = false ∨ s.lanesIdle then s
  else
    let k := s.link l
    let ready := if k.tunnel.isEmpty then k.ready else 4 :: k.ready
    match (List.range 6).find? (fun n => ready.contains n && s.mayCarry l n) with
    | none => s.setLink l { k with sending := none }
    | some n =>
      let t := if n = 4 then fitTunnel 16384 k.tunnel else ([], k.tunnel)
      let x := s.kindBlocks l n (if n = 4 then s.roundIssued else Tab.get 0 k.readyAt n) t.1
      s.setLink l { k with
        ready := k.ready.filter (· ≠ n)
        sending := some n
        lane := x
        sentAt := if n = 0 then s.localNs else k.sentAt
        tunnelled := if n = 4 then t.1 else k.tunnelled
        tunnel := t.2
        used := k.used + x.length }

/-- At a round pulse the time section is ready on every link, and `cl_load` shows the round before; on the courier link,
whose records' lengths the manual leaves open, the reading is open (R371, R392, log entry 3). -/
def State.linksPulse (s : State) : State :=
  ((List.range 4).filter s.linkOn).foldl (fun (k : State) l =>
    let x := k.link l
    let w := if k.isCourier l then (k.fresh.1 % 101, k.fresh.2)
      else k.openQuot (x.used * 100 * k.fs) (426136364 * k.roundB)
    ((w.2.setN (El.lkLoad l) (min w.1 255)).setLink l { x with used := 0 }).readySection l 0 k.roundIssued) s

/-! ### Writes of area 07 -/

/-- The value of a write in area 07 (R3, R392, R394, R598). -/
def State.coachValue (s : State) (a : Nat) (v : Val) : Status :=
  let o := objectOf a
  let e := elementOf a
  let x := v.toNat
  if o < 4 ∧ e = 2 ∧ s.cap 4096 < x then .wrongState
  else if o < 4 ∧ e = 5 ∧ x ≠ 0xFF ∧ linkPresent s.variant x = false then .notPresent
  else if 0x200 ≤ o ∧ e = 4 ∧ x ≠ 0xFFFF then
    firstOf [s.unitStatus x s.variant.dests, if s.nat (El.dstPass x) = 1 then .ok else .outOfRange]
  else if 0x200 ≤ o ∧ e = 5 ∧ (List.range 4).any (fun l => bitOf x l && !linkPresent s.variant l) then .notPresent
  else .ok

/-- What the state allows of a write in area 07 (R392). -/
def State.coachState (s : State) (a : Nat) : Status :=
  if objectOf a = 3 ∧ s.on El.twEnable ∧ [2, 4, 5].contains (elementOf a) then .wrongState else .ok

/-- A write in area 07 applies. -/
def State.applyCoach (s : State) (a : Nat) (v : Val) : State :=
  let l := objectOf a
  let e := elementOf a
  if l < 4 ∧ e = 0x1F then (if v.toNat = 1 then s.setAll [El.lkCrcErr l, El.lkLate l, El.lkTunnelDrops l] 0 else s)
  else if l < 4 ∧ e = 0 then
    let s1 := s.setV a v
    if v.toNat = 0 then
      ((s1.setLink l Link.fresh).setN (El.lkState l) 0).setN (El.lkRefusal l) 0
    else if s.on (El.lkEnable l) then s1
    else s1.setN (El.lkState l) 1
  else s.setV a v

/-- Whether a `db_dst` names destination d (R380). -/
def State.busNames (s : State) (d : Nat) : Bool := (List.range 512).any (fun b => s.nat (El.dbDst b) == d)

end Sys2Proof.Machine
end

