-- ==== Sys2Proof/Machine/Refs.lean ====
section
/-! DEFINITION. Time, references and clocks (R395 to R415, R424 to R437): the local clock, PTP, the qualification and
selection of references, the DPLL, the pulse outputs, and the voltage sequencer of the DSP islands. -/

namespace Sys2Proof.Machine

/-! ### Small numbers -/

/-- An integer quotient whose rounding the manual does not state: exact, or either neighbour (log entry 3). -/
def State.openDiv (s : State) (z : Int) (n : Nat) : Int × State :=
  if z % n = 0 then (z / n, s) else (z / n + (s.fresh.1 % 2 : Nat), s.fresh.2)

/-- A value held to the range of an I32 (R411, R430). -/
def satI32 (z : Int) : Int := if z < -2147483648 then -2147483648 else if 2147483647 < z then 2147483647 else z
/-- A value held to plus or minus 2,147,483,647 (R411, R67). -/
def satStep (z : Int) : Int := if z < -2147483647 then -2147483647 else if 2147483647 < z then 2147483647 else z

/-- An interval of 2^n s, in ns. -/
def logNs (n : Int) : Nat := if n < 0 then 1000000000 / 2 ^ (-n).toNat else 1000000000 * 2 ^ n.toNat

/-! ### Codes (R406) -/

/-- Whether a code is a class H reference, a PTP port or a coach link. -/
def isHref (c : Nat) : Bool := (decide (1 ≤ c) && decide (c ≤ 4)) || (decide (0x10 ≤ c) && decide (c ≤ 0x27))
def isPtpRef (c : Nat) : Bool := decide (0x30 ≤ c) && decide (c ≤ 0x32)
def isCoachRef (c : Nat) : Bool := decide (0x40 ≤ c) && decide (c ≤ 0x43)

/-- A reference code as a value: no reference has the code, or its unit is absent (R406). -/
def State.refStatus (s : State) (c : Nat) : Status :=
  if c = 0 ∨ (1 ≤ c ∧ c ≤ 4) ∨ isPtpRef c then .ok
  else if 0x10 ≤ c ∧ c ≤ 0x27 then (if c - 0x10 < s.variant.serialPorts then .ok else .notPresent)
  else if isCoachRef c then (if linkPresent s.variant (c - 0x40) then .ok else .notPresent)
  else .outOfRange

/-! ### Class H references (R407, R408) -/

/-- A class H reference that was never seen. -/
def Href.fresh : Href := ⟨[], 0, 0, none, 0⟩
def State.href (s : State) (c : Nat) : Href := Tab.get Href.fresh s.refs.href c
def State.setHref (s : State) (c : Nat) (x : Href) : State :=
  { s with refs := { s.refs with href := Tab.put Href.fresh s.refs.href c x } }

/-- The period of a class H reference as a fraction of ns: one per sample for the frame clock of a serial port (R433). -/
def State.hrefPeriod (s : State) (c : Nat) : Nat × Nat :=
  if 0x10 ≤ c then (1000000000, s.fs) else (s.nat (El.hrefNum c), s.nat (El.hrefDen c))
def State.hrefShift (s : State) (c : Nat) : Int := if 0x10 ≤ c then 0 else s.int (El.hrefOffset c)

/-- The phase error of an edge now, in units of 2^-16 ns, in (−P/2, P/2] (R407). -/
def State.edgePhase (s : State) (c : Nat) : Int :=
  let p := s.hrefPeriod c
  let x : Int := ((s.time.clk : Int) - s.hrefShift c * 65536) * p.2
  let q : Int := ((p.1 * 65536 : Nat) : Int)
  let r := x % q
  (if 2 * r ≤ q then r else r - q) / (p.2 : Int)

/-- Whether a class H reference can qualify: the frame clock of a serial port only while the port is enabled, a slave, in
the locked domain and locked (R408). -/
def State.hrefUsable (s : State) (c : Nat) : Bool :=
  decide (c < 0x10) || (s.portLocked (c - 0x10) && s.isSlave (c - 0x10) && s.nat (El.spDomain (c - 0x10)) == 0)

/-! ### PTP ports -/

/-- The network ports of a PTP port: in chain mode under profiles 0 and 1 PTP port A is both (R399). -/
def State.ptpPorts (s : State) (p : Nat) : List Nat :=
  if s.nat El.netMode = 1 ∧ s.nat El.ptpProfile ≠ 2 ∧ p = 0 then [0, 1].filter s.netUp else [p].filter s.netUp

/-- Whether a PTP port runs: enabled, and a network port of it up. -/
def State.ptpOn (s : State) (p : Nat) : Bool := decide (p < 3) && s.on (El.ptpEnable p) && !(s.ptpPorts p).isEmpty

/-- Whether a port follows a master: UNCALIBRATED or SLAVE. -/
def State.ptpFollows (s : State) (p : Nat) : Bool := s.nat (El.ptpState p) == 8 || s.nat (El.ptpState p) == 9

/-! ### Qualified references (R408 to R410) -/

/-- Whether a reference is qualified. -/
def State.qualified (s : State) (c : Nat) : Bool :=
  if isHref c then s.nat (El.hrefState c) == 2
  else if isPtpRef c then (s.ptpPort (c - 0x30)).qualified
  else if isCoachRef c then s.refs.coachOk.contains (c - 0x40)
  else false

/-- The priority table. -/
def State.prioTable (s : State) : List Nat := (List.range 8).map (fun e => s.nat (El.refPrio e))

/-- The first qualified entry. -/
def State.firstQualified (s : State) : Option Nat := s.prioTable.find? (fun c => c ≠ 0 ∧ s.qualified c)

/-- The mean offsetFromMaster of the last 8 Sync messages, ns. -/
def State.meanOffset (s : State) (p : Nat) : Int × State :=
  let l := (s.ptpPort p).offsets
  if l = [] then (0, s) else s.openDiv l.sum (l.length * 65536)

/-- Δ of a reference in ns, positive when it is ahead of the local clock (R411). -/
def State.phaseStep (s : State) (c : Nat) : Int × State :=
  if isHref c then (-(s.int (El.hrefPhase c)), s)
  else if isPtpRef c then (-(s.meanOffset (c - 0x30)).1, (s.meanOffset (c - 0x30)).2)
  else if isCoachRef c then (s.int (El.lkOffset (c - 0x40)), s)
  else (0, s)

/-- The local clock steps by Δ at one edge (R411). Anchored, a step above half a sample waits for the next round
boundary before it reaches the sample clock (R64). -/
def State.stepClock (s : State) (d : Int) : State :=
  let s1 : State := { s with time := { s.time with clk := ((s.time.clk : Int) + d * 65536).toNat } }
  if s.anchored ∧ (1000000000 : Int) < 2 * ((d.natAbs * s.fs : Nat) : Int) then
    let old : Int := match s.rounds.step with
      | none => 0
      | some w => w.deltaNs
    ({ s1 with rounds := { s1.rounds with step := some ⟨old + d⟩ } } : State).setN El.anchorState 2
  else s1

/-- The quality byte (R373). A grandmaster of clockClass 128 or more has no row in its table, and its value is open (log
entry 3). -/
def State.quality (s : State) : Nat × State :=
  let c := s.nat El.refSelected
  let p := c - 0x30
  if s.anchored = false ∨ s.nat El.timeState = 0 then (15, s)
  else if c = 0 then (14, s)
  else if isHref c then (4, s)
  else if isCoachRef c then (min (s.nat (El.lkFarQuality (c - 0x40)) + 1) 13, s)
  else
    let cls := s.nat (El.ptpGmClass p)
    if (cls = 6 ∨ cls = 7) ∧ s.nat (El.ptpGmAcc p) ≤ 0x21 then (1, s)
    else if cls < 128 then (3, s)
    else (s.fresh.1 % 16, s.fresh.2)

/-- `cl_quality_out` of every link follows the engine's timing. -/
def State.showQuality (s : State) : State :=
  let q := s.quality
  (List.range 4).foldl (fun k l => if linkPresent s.variant l then k.setN (El.lkQualityOut l) q.1 else k) q.2

/-- The selection changes to reference c, with the cause that R411 numbers. -/
def State.selectRef (s : State) (c cause : Nat) : State :=
  let old := s.nat El.refSelected
  let d := s.phaseStep c
  let s1 := (d.2.stepClock d.1).setN El.refSelected c
  let s2 := ({ s1 with refs := { s1.refs with lockSince := none, lockedAt := none, integ := s1.refs.freq, steeredAt := s1.time.tick } } : State).setN El.timeState 1
  ((s2.inc El.refSwitches).post nRefSwitch El.refSelected [old, c, wordParam (satStep d.1), cause]).showQuality

/-- The mean frequency over `hold_avg` s that end 1 s before now, weighted by time (R413). -/
def heldMean (hist : List (Nat × Int)) (t0 t1 : Nat) : Int × Nat :=
  let r := hist.foldl (fun (acc : Int × Nat × Nat) e =>
    let lo := max e.1 t0
    if lo < acc.2.2 then (acc.1 + e.2 * ((acc.2.2 - lo : Nat) : Int), acc.2.1 + (acc.2.2 - lo), lo) else acc) (0, 0, t1)
  (r.1, r.2.1)

/-- The increment of the local clock becomes f, in 1e-12 off nominal; `dpll_freq` shows it in ppb. -/
def State.showFreq (s : State) (f : Int) : State :=
  let d := s.openDiv f 1000
  ({ d.2 with refs := { d.2.refs with freq := f } } : State).setI El.dpllFreq d.1

/-- Holdover (R413): the increment is held to 1e-12. -/
def State.holdover (s : State) : State :=
  let lost := s.nat El.refSelected
  let now := s.time.tick
  let brief : Bool := match s.refs.lockedAt with
    | none => true
    | some t => decide (now < t + 1000000000)
  let m := heldMean s.refs.freqHist (now - 1000000000 - s.nat El.holdAvg * 1000000000) (now - 1000000000)
  let f := if brief ∨ m.2 = 0 then (s.refs.freq, s) else s.openDiv m.1 m.2
  let g := f.2.showFreq f.1
  let s1 := (g.setN El.refSelected 0).setN El.timeState 3
  let s2 : State := { s1 with refs := { s1.refs with lockSince := none, lockedAt := none, freqHist := [(now, f.1)] } }
  (s2.post nHoldover El.timeState [lost, wordParam (g.int El.dpllFreq)]).showQuality

/-- The engine selects again where its selected reference no longer stands (R410): the first qualified entry, or
holdover. -/
def State.reselect (s : State) (cause : Nat) : State :=
  match s.firstQualified with
  | some c => s.selectRef c cause
  | none => if s.nat El.refSelected = 0 then s else s.holdover

/-- Reference c is rejected (R408, R409). -/
def State.rejectRef (s : State) (c : Nat) : State :=
  let s1 : State := { s with refs := { s.refs with prioSince := Tab.put 0 s.refs.prioSince c 0 } }
  if s.nat El.refSelected = c then s1.reselect 0 else s1

/-- Reference c qualifies: in holdover or free-run a listed one is selected with cause 3 (R410, R413). -/
def State.qualifyRef (s : State) (c : Nat) : State :=
  let s1 : State := { s with refs := { s.refs with prioSince := Tab.put 0 s.refs.prioSince c (s.time.tick + 1) } }
  if s.nat El.refSelected = 0 ∧ s.prioTable.contains c then s1.reselect 3 else s1

/-- Place of a code in the table; 8 where it is not listed. -/
def State.prioOf (s : State) (c : Nat) : Nat := (s.prioTable.findIdx? (· = c)).getD 8

/-- The SHADOW takes coach link 3 ahead of its table: its partner is ACTIVE and the link in step (R478). -/
def State.partnerLeads (s : State) : Bool := s.mode == 7 && s.twin.partnerRole == 4 && s.inStep 3

/-- Whether entry i may take over in revertive mode: higher than the selected one, and qualified for `ref_wtr` (R410). -/
def State.mayRevert (s : State) (i : Nat) : Bool :=
  let c := s.prioTable.getD i 0
  let since := Tab.get 0 s.refs.prioSince c
  s.on El.refRevertive && !(s.partnerLeads && s.nat El.refSelected == 0x43) && decide (c ≠ 0) && decide (i < s.prioOf (s.nat El.refSelected)) && s.nat El.refSelected != 0 &&
    s.qualified c && decide (0 < since) && decide (since - 1 + s.nat El.refWtr * 1000000000 ≤ s.time.tick)

/-- REF_REVERT (R410). -/
def State.refRevert (s : State) (i : Nat) : State :=
  if i < 8 ∧ s.mayRevert i then s.selectRef (s.prioTable.getD i 0) 1 else s

/-- The priority table was written (R410): a selected reference that it no longer lists gives way; with none selected,
and in revertive mode, a qualified entry takes over at once. -/
def State.tableWritten (s : State) : State :=
  let c := s.nat El.refSelected
  if s.partnerLeads ∧ c = 0x43 then s
  else if c = 0 ∨ s.prioTable.contains c = false then s.reselect 2
  else match (List.range 8).find? s.mayRevert with
    | none => s
    | some i => s.selectRef (s.prioTable.getD i 0) 2

/-! ### Class Q references (R409) -/

/-- Whether the conditions of R409 hold for a PTP port. -/
def State.ptpMeets (s : State) (p : Nat) : Bool :=
  s.ptpOn p && s.nat (El.ptpState p) == 9 && decide (s.nat (El.ptpGmClass p) ≤ s.nat El.ptpQClass) &&
    decide (s.nat (El.ptpGmAcc p) ≤ s.nat El.ptpQAcc) && decide (s.nat (El.ptpGmVar p) ≤ s.nat El.ptpQVar)
def State.coachMeets (s : State) (l : Nat) : Bool :=
  s.inStep l && decide (s.nat (El.lkFarQuality l) ≤ s.nat El.refQCoach)

/-- A class Q PTP port is judged now. -/
def State.judgePtp (s : State) (p : Nat) : State :=
  let x := s.ptpPort p
  if s.ptpMeets p then (if x.goodSince.isSome then s else s.setPtpPort p { x with goodSince := some s.time.tick })
  else
    let s1 := s.setPtpPort p { x with goodSince := none, qualified := false }
    if x.qualified then s1.rejectRef (0x30 + p) else s1
def State.coachSince (s : State) (l : Nat) : Option Nat := Tab.get none s.refs.coachSince l
def State.judgeCoach (s : State) (l : Nat) : State :=
  let put (v : Option Nat) (ok : List Nat) : State :=
    { s with refs := { s.refs with coachSince := Tab.put none s.refs.coachSince l v, coachOk := ok } }
  if s.coachMeets l then (if (s.coachSince l).isSome then s else put (some s.time.tick) s.refs.coachOk)
  else
    let s1 := put none (s.refs.coachOk.filter (· ≠ l))
    if s.refs.coachOk.contains l then s1.rejectRef (0x40 + l) else s1

/-- Every class Q reference is judged: at any moment a condition may fail. -/
def State.judgeQ (s : State) : State :=
  (List.range 4).foldl (fun k l => k.judgeCoach l) ((List.range 3).foldl (fun k p => k.judgePtp p) s)

/-- CLASS_Q_QUALIFY: after 2 s of good conditions a class Q reference is accepted (R409). -/
def State.classQQualify (s : State) (c : Nat) : State :=
  let long (t : Option Nat) : Bool := match t with
    | none => false
    | some x => decide (x + 2000000000 ≤ s.time.tick)
  if isPtpRef c then
    let x := s.ptpPort (c - 0x30)
    if x.qualified = false ∧ s.ptpMeets (c - 0x30) ∧ long x.goodSince then
      (s.setPtpPort (c - 0x30) { x with qualified := true }).qualifyRef c
    else s
  else if isCoachRef c then
    if s.refs.coachOk.contains (c - 0x40) = false ∧ s.coachMeets (c - 0x40) ∧ long (s.coachSince (c - 0x40)) then
      ({ s with refs := { s.refs with coachOk := (c - 0x40) :: s.refs.coachOk } } : State).qualifyRef c
    else s
  else s

/-! ### The DPLL (R412) -/

/-- The bandwidth of the loop in 0.01 Hz: that of a class H reference is at most one tenth of its edge rate (R412). -/
def State.dpllBandwidth (s : State) : Nat :=
  let c := s.nat El.refSelected
  let p := s.hrefPeriod c
  if isHref c then min (s.nat El.dpllBwH) (10000000000 * p.2 / p.1) else s.nat El.dpllBwQ

/-- A measured phase error of the selected reference, in units of 2^-16 ns, positive where the local clock is ahead, steers the
DPLL: a second-order loop with a damping factor of 1.0, whose integral part grows by the square of its natural frequency and
whose proportional part is twice that frequency, within the pull range of 100 ppm (log entry 110). -/
def State.steer (s : State) (err : Int) : State :=
  let now := s.time.tick
  let w : Int := (Config.dpllNatural s.dpllBandwidth : Nat)
  let dt : Int := ((now - s.refs.steeredAt : Nat) : Int)
  let integ := s.refs.integ - w * w * err * dt / (65536 * 10 ^ 18)
  let f := max (-100000000) (min 100000000 (integ - 2 * w * err / (65536 * 1000)))
  let e := s.openDiv err 65536
  let keep := e.2.refs.freqHist.filter (fun h => decide (now < h.1 + 3700000000000))
  let big := (10000 * 65536 : Nat) < err.natAbs
  let since := if err.natAbs ≤ 1000 * 65536 then (s.refs.lockSince.orElse (fun _ => some now)) else none
  let s1 : State := { e.2 with refs := { e.2.refs with freqHist := (now, f) :: keep, lockSince := since, integ := integ, steeredAt := now } }
  let s2 := (s1.showFreq f).setI El.dpllPhaseErr (satI32 e.1)
  if s2.nat El.timeState = 2 ∧ big then
    ({ s2 with refs := { s2.refs with lockedAt := none } } : State).setN El.timeState 1
  else s2

/-- DPLL_LOCK: within 1,000 ns for 10 s (R412). -/
def State.dpllLock (s : State) : State :=
  match s.refs.lockSince with
  | none => s
  | some t =>
    if s.nat El.timeState = 1 ∧ t + 10000000000 ≤ s.time.tick then
      ({ s with refs := { s.refs with lockedAt := some s.time.tick } } : State).setN El.timeState 2
    else s

/-! ### Pulse outputs (R414, R415) -/

/-- A pulse output that is low. -/
def PulseOut.fresh : PulseOut := ⟨false, false, 0, none, 0, 0, 0⟩
def State.pulse (s : State) (o : Nat) : PulseOut := Tab.get PulseOut.fresh s.refs.pulses o
def State.setPulse (s : State) (o : Nat) (x : PulseOut) : State :=
  { s with refs := { s.refs with pulses := Tab.put PulseOut.fresh s.refs.pulses o x } }

/-- φ of an output in ns: it follows the measured grid of its input while that is qualified. -/
def State.pulsePhi (s : State) (o : Nat) : Int :=
  let c := s.nat (El.poAlign o)
  if c = 0 then 0
  else if s.nat (El.hrefState c) = 2 then s.hrefShift c + s.int (El.hrefPhase c)
  else (s.pulse o).phi

/-- Outputs aligned to an input keep its grid. -/
def State.keepPhi (s : State) (c : Nat) : State :=
  (List.range 5).foldl (fun k o =>
    if s.nat (El.poAlign o) = c then k.setPulse o { k.pulse o with phi := s.pulsePhi o } else k) s

/-- Whether an output may run: enabled, and the engine drives (R415). -/
def State.pulseMay (s : State) (o : Nat) : Bool := s.on (El.poEnable o) && s.drives

/-- The pulse outputs follow the mode (R415, R493): one that may not run is released, after its pulse in progress; while clocks have
failed each stays as it is. `po_state` shows it. -/
def State.showPulses (s : State) : State :=
  if s.mode = 3 then s
  else (List.range 5).foldl (fun k o =>
    let x := k.pulse o
    let on : Bool := s.pulseMay o || (x.driven && x.high)
    (k.setPulse o (if on then x else { x with driven := false, high := false })).setN (El.poState o)
      (if on then 1 else if s.on (El.poEnable o) then 2 else 0)) s

/-- Grid times of output o at or before a local clock value. -/
def State.gridCount (s : State) (o clk : Nat) : Int :=
  let x : Int := (clk : Int) - (s.pulsePhi o + s.int (El.poOffset o)) * 65536
  x * s.nat (El.poDen o) / ((s.nat (El.poNum o) * 65536 : Nat) : Int)

/-- The high time of an output, ns. -/
def State.highNs (s : State) (o : Nat) : Nat :=
  if s.nat (El.poWidth o) = 0 then s.nat (El.poNum o) / (2 * s.nat (El.poDen o)) else s.nat (El.poWidth o)

/-- Whether an edge of output o is due (R414, R493): it rises where it may run, from `notBefore` on, once its grid has passed a
point since its last rise; it falls at the end of the pulse in progress, whatever was written since; no high or low time is below
20 ns. -/
def State.pulseDue (s : State) (o : Nat) (high : Bool) : Bool :=
  let x := s.pulse o
  let quiet : Bool := decide (x.edgeAt + 20 * 65536 ≤ s.time.clk)
  if high then
    s.pulseMay o && decide (x.notBefore ≤ s.time.clk) && (match x.riseAt with
      | none => true
      | some r => quiet && decide (s.gridCount o r < s.gridCount o s.time.clk))
  else x.driven && quiet && decide (x.fallAt ≤ s.time.clk)

/-- PULSE_OUTPUT_EDGE (R414): without clocks there is none (R415). -/
def State.pulseEdge (s : State) (o : Nat) (high : Bool) : State :=
  let x := s.pulse o
  if 5 ≤ o ∨ s.mode = 3 ∨ x.high = high ∨ s.pulseDue o high = false then s
  else if high then
    s.setPulse o { x with
      high := true
      driven := true
      edgeAt := s.time.clk
      riseAt := some s.time.clk
      fallAt := s.time.clk + s.highNs o * 65536 }
  else (s.setPulse o { x with high := false, edgeAt := s.time.clk }).showPulses

/-- An engine that takes over starts each output at the first rising edge at least t_gap after the other engine released it: at H
where it was low, else at the end of the pulse in progress (R493). -/
def State.armPulses (s : State) (h gap : Nat) : State :=
  (List.range 5).foldl (fun (k : State) o =>
    let x : Int := (h : Int) - (s.pulsePhi o + s.int (El.poOffset o)) * 65536
    let phase := (x * s.nat (El.poDen o) % ((s.nat (El.poNum o) * 65536 : Nat) : Int)).toNat / s.nat (El.poDen o)
    let wide := s.highNs o * 65536
    k.setPulse o { k.pulse o with notBefore := (if phase < wide then h + (wide - phase) else h) + gap }) s

/-! ### Events of class H references (R407, R408) -/

/-- REF_EDGE: an edge that `href_edge` names enters the mean of the last 16, and steers the DPLL where its reference is selected. -/
def State.refEdge (s : State) (c : Nat) (falling : Bool) : State :=
  if isHref c = false ∨ s.refStatus c ≠ .ok ∨ s.hrefUsable c = false ∨ falling ≠ (s.nat (El.hrefEdge c) == 1) then s
  else
    let x := s.href c
    let e := s.edgePhase c
    let fresh := s.nat (El.hrefState c) = 0
    let l := (e :: (if fresh then [] else x.edges)).take 16
    let m := s.openDiv l.sum (l.length * 65536)
    let s1 := (m.2.setHref c { x with edges := l, missing := 0, lastEdge := s.time.tick }).setI (El.hrefPhase c) (satI32 m.1)
    let s2 := if fresh then s1.setN (El.hrefState c) 1 else s1
    let s3 := if s.nat El.refSelected = c then s2.steer e else s2
    if s3.nat (El.hrefState c) = 2 then s3.keepPhi c else s3

/-- A class H reference is rejected. -/
def State.rejectHref (s : State) (c : Nat) : State :=
  let was := s.nat (El.hrefState c)
  let s1 := (s.setHref c { s.href c with goodSince := none }).setN (El.hrefState c) 3
  if was = 2 then s1.rejectRef c else s1

/-- The frame clock of a serial port qualifies only while the port carries it (R408). -/
def State.judgePorts (s : State) : State :=
  (List.range s.variant.serialPorts).foldl (fun (k : State) p =>
    if k.nat (El.hrefState (0x10 + p)) = 2 ∧ k.hrefUsable (0x10 + p) = false then k.rejectHref (0x10 + p) else k) s

/-- REF_MISSING_PERIOD: no edge within 1.5 P of the last one, and one more for each further P (R408). -/
def State.refMissing (s : State) (c : Nat) : State :=
  let x := s.href c
  let p := s.hrefPeriod c
  let st := s.nat (El.hrefState c)
  if isHref c = false ∨ (st ≠ 1 ∧ st ≠ 2) ∨ 2 * (s.time.tick - x.lastEdge) * p.2 < (2 * x.missing + 3) * p.1 then s
  else
    let s1 := s.setHref c { x with missing := x.missing + 1, missedAt := s.time.tick, goodSince := none }
    if s.nat (El.hrefMissing c) ≤ x.missing + 1 then s1.rejectHref c else s1

/-- The length of a measuring window: 1 s, or two periods where that is longer. -/
def State.windowNs (s : State) (c : Nat) : Nat :=
  let p := s.hrefPeriod c
  max 1000000000 (ceilDiv (2 * p.1) p.2)

/-- REF_MEASURE_WINDOW: a window ends with a frequency error in ppb (R408). A rejected reference whose error is back
within its limit qualifies anew, and its edges count from there. -/
def State.refWindow (s : State) (c : Nat) (err : Int) : State :=
  let st := s.nat (El.hrefState c)
  if isHref c = false ∨ s.refStatus c ≠ .ok ∨ st = 0 then s
  else
    let s1 := s.setI (El.hrefFreqErr c) (satI32 err)
    let x := s1.href c
    if s.nat (El.hrefReject c) * 1000 < err.natAbs then s1.rejectHref c
    else if s.nat (El.hrefAccept c) * 1000 < err.natAbs ∨ s.hrefUsable c = false then s1.setHref c { x with goodSince := none }
    else
      let since := x.goodSince.getD (max (s.time.tick - s.windowNs c) x.missedAt)
      let s2 := s1.setHref c { x with goodSince := some since, edges := if st = 3 then [] else x.edges }
      let s3 := if st = 3 then s2.setN (El.hrefState c) 1 else s2
      if st ≠ 2 ∧ since + s.nat (El.hrefAcceptTime c) * 1000000000 ≤ s.time.tick then
        (s3.setN (El.hrefState c) 2).qualifyRef c
      else s3

/-! ### PTP (R398 to R405) -/

/-- Own data as a master (R400): port identities are the engine's clockIdentity with the port. -/
def State.clockId (s : State) : Nat :=
  let m := (s.val (El.portMac 0)).toBytes
  beVal (m.take 3 ++ [0xFF, 0xFE] ++ m.drop 3)
def State.ownClock (s : State) (p : Nat) : PtpMaster where
  portId := s.clockId * 65536 + p + 1
  gmId := s.clockId
  gmClass := s.nat El.ptpClockClass
  gmAcc := 0xFE
  gmVar := 0xFFFF
  priority1 := s.nat El.ptpPriority1
  priority2 := s.nat El.ptpPriority2
  steps := 0

/-- Rank of a master in the best master clock algorithm of IEEE 1588-2019, lower is better. -/
def clockRank (m : PtpMaster) : List Nat := [m.priority1, m.gmClass, m.gmAcc, m.gmVar, m.priority2, m.gmId, m.steps, m.portId]
def lexLess : List Nat → List Nat → Bool
  | a :: l, b :: r => decide (a < b) || (decide (a = b) && lexLess l r)
  | _, _ => false
def betterClock (a b : PtpMaster) : Bool := lexLess (clockRank a) (clockRank b)
def bestClock (l : List PtpMaster) : Option PtpMaster :=
  l.foldl (fun b m => match b with
    | none => some m
    | some x => if betterClock m x then some m else some x) none

/-- The announce intervals after which a master that is not heard is lost (R405), ns. -/
def State.announceNs (s : State) (p : Nat) : Nat := s.nat (El.ptpAnnounceTo p) * logNs (s.int (El.ptpLogAnnounce p))

/-- The masters that a port may follow (R400): those heard within the announce timeout (log entry 111). -/
def State.heard (s : State) (p : Nat) : List PtpMaster :=
  if s.nat (El.ptpRole p) = 2 ∨ s.ptpOn p = false then []
  else ((s.ptpPort p).foreign.filter (fun (e : PtpMaster × Nat) => decide (s.time.tick < e.2 + s.announceNs p))).map (·.1)

/-- The state that the best master clock algorithm gives a port. -/
def State.decidePort (s : State) (p : Nat) : Nat :=
  let own := s.ownClock p
  let all := bestClock ((List.range 3).flatMap s.heard)
  match bestClock (s.heard p) with
  | none =>
    if s.nat (El.ptpRole p) = 2 then 6
    else if s.nat (El.ptpRole p) = 1 ∨ s.nat (El.ptpState p) = 4 then 4
    else 6
  | some m =>
    if s.nat (El.ptpRole p) = 1 then (if all = some m then 9 else 7)
    else if own.gmClass < 128 then (if betterClock own m then 6 else 7)
    else if (match all with
      | none => true
      | some b => betterClock own b) then 6
    else if all = some m then 9
    else 6

/-- The grandmaster objects of a port (R431). -/
def State.showMaster (s : State) (p : Nat) (m : PtpMaster) : State :=
  (((s.setN (El.ptpGmId p) m.gmId).setN (El.ptpGmClass p) m.gmClass).setN (El.ptpGmAcc p) m.gmAcc).setN (El.ptpGmVar p) m.gmVar

/-- A port takes the state that the algorithm gives it: a new master is followed through UNCALIBRATED. -/
def State.settlePort (s : State) (p : Nat) : State :=
  if s.ptpOn p = false then s
  else
    let st := s.decidePort p
    let x := s.ptpPort p
    if st = 9 then
      match bestClock (s.heard p) with
      | none => s
      | some m =>
        if x.master.map (·.portId) = some m.portId ∧ s.ptpFollows p then s.showMaster p m
        else ((s.setPtpPort p { x with
          master := some m
          offsets := []
          pending := none
          lastAnnounce := s.time.tick
          lastSync := s.time.tick }).setN (El.ptpState p) 8).showMaster p m
    else (s.setPtpPort p { x with master := none }).setN (El.ptpState p) st

/-- The algorithm runs over the enabled ports, and the references are judged. -/
def State.runBmca (s : State) : State := ((List.range 3).foldl (fun k p => k.settlePort p) s).judgeQ

/-- A port loses its master (R405): counted, reported where it is the selected reference, and back to UNCALIBRATED. -/
def State.loseMaster (s : State) (p case_ : Nat) (prev : Nat) : State :=
  let s1 := (s.inc (El.ptpLosses p)).setN (El.ptpState p) 8
  if s.nat El.refSelected = 0x30 + p then s1.post nPtpLost (El.ptpState p) ([p, case_] ++ twoWords prev) else s1

/-- The identity of a port of the engine (R400). -/
def State.ptpId (s : State) (p : Nat) : Nat := s.clockId * 65536 + p + 1

/-- Whether a PTP port takes a message: it runs, the message is of its domain, and not the engine's own. -/
def State.ptpHears (s : State) (p : Nat) (h : PtpHead) : Bool :=
  s.ptpOn p && h.domain == s.nat El.ptpDomain && h.src / 65536 != s.clockId

/-- ANNOUNCE (R405): a master's data; a change of grandmasterIdentity loses the master. -/
def State.announce (s : State) (p : Nat) (h : PtpHead) (data : PtpMaster) : State :=
  if s.ptpHears p h = false then s
  else
    let m := { data with portId := h.src }
    let x := s.ptpPort p
    let mine : Bool := x.master.map (·.portId) == some m.portId && s.ptpFollows p
    let changed : Bool := mine && x.master.map (·.gmId) != some m.gmId
    let s1 := s.setPtpPort p { x with
      foreign := (m, s.time.tick) :: x.foreign.filter (fun f => f.1.portId ≠ m.portId)
      master := if mine then some m else x.master
      lastAnnounce := if mine then s.time.tick else x.lastAnnounce }
    let s2 := if changed ∧ s.nat (El.ptpState p) = 9 then s1.loseMaster p 3 ((x.master.map (·.gmId)).getD 0) else s1
    (if mine then s2.showMaster p m else s2).judgeQ.runBmca

/-- A Sync that is complete: `forth` is its ingress timestamp less its origin and corrections, in units of 2^-16 ns. The path
delay and the asymmetry leave offsetFromMaster (R401). -/
def State.takeSync (s : State) (p : Nat) (forth : Int) : State :=
  let x := s.ptpPort p
  let w := forth - psTime (s.int (El.ptpAsym p))
  let off := w - x.delay
  let o := s.openDiv off 65536
  let s1 := (o.2.setPtpPort p { x with
    offsets := (off :: x.offsets).take 8
    forth := w
    lastSync := s.time.tick
    pending := none }).setI (El.ptpOffset p) (satI32 o.1)
  let s2 := s1.setN (El.ptpState p) 9
  (if s2.nat El.refSelected = 0x30 + p then s2.steer off else s2).judgeQ

/-- Whether a message comes from the master that a port follows. -/
def State.fromMaster (s : State) (p : Nat) (h : PtpHead) : Bool :=
  s.ptpHears p h && s.ptpFollows p && (s.ptpPort p).master.map (·.portId) == some h.src

/-- SYNC (R402, R405): a two-step one waits for its Follow_Up. -/
def State.sync (s : State) (p : Nat) (h : PtpHead) (origin : Nat) (twoStep : Bool) : State :=
  if s.fromMaster p h = false then s
  else if twoStep then s.setPtpPort p { s.ptpPort p with pending := some (h.seq, s.ingress p - h.corr) }
  else s.takeSync p (s.ingress p - h.corr - (origin : Int) * 65536)

/-- FOLLOW_UP completes a two-step Sync (R402, R405). -/
def State.followUp (s : State) (p : Nat) (h : PtpHead) (origin : Nat) : State :=
  match (s.ptpPort p).pending with
  | none => s
  | some w => if s.fromMaster p h ∧ w.1 = h.seq then s.takeSync p (w.2 - h.corr - (origin : Int) * 65536) else s

/-- The mean path delay, half of a sum in units of 2^-16 ns; `ptp_mean_delay` shows it in ns (R401). -/
def State.takeDelay (s : State) (p : Nat) (sum : Int) : State :=
  let d := s.openDiv (sum / 2) 65536
  (d.2.setPtpPort p { d.2.ptpPort p with delay := sum / 2, reqAt := none, answer := none }).setN (El.ptpMeanDelay p)
    (min d.1.toNat (2 ^ 32 - 1))

/-- Whether a message answers the last request of a port. -/
def State.answersReq (s : State) (p : Nat) (h : PtpHead) (req : Nat) : Bool :=
  s.ptpHears p h && req == s.ptpId p && h.seq == (s.ptpPort p).reqSeq

/-- DELAY_RESP (R398, R401): the way there and back under the end-to-end mechanism. -/
def State.delayResp (s : State) (p : Nat) (h : PtpHead) (req stamp : Nat) : State :=
  let x := s.ptpPort p
  match x.reqAt with
  | none => s
  | some t => if s.answersReq p h req ∧ s.fromMaster p h ∧ s.nat El.ptpProfile ≠ 2 then
      s.takeDelay p (x.forth + ((stamp : Int) * 65536 - t - h.corr)) else s

/-- PDELAY_RESP and its follow-up (R398, R401, R402): a one-step answer carries the turnaround in correctionField; of a two-step one
the answer gives the time at which the request arrived, and its follow-up that at which it left. -/
def State.pdelayResp (s : State) (p : Nat) (m : PtpPdelay) : State :=
  let x := s.ptpPort p
  match x.reqAt with
  | none => s
  | some t =>
    if s.answersReq p m.head m.req = false ∨ s.nat El.ptpProfile ≠ 2 then s
    else if m.final then
      match x.answer with
      | none => s
      | some w => s.takeDelay p (w.1 - ((m.stamp : Int) * 65536 - w.2) - m.head.corr)
    else if m.twoStep then s.setPtpPort p { x with answer := some (s.ingress p - t - m.head.corr, (m.stamp : Int) * 65536) }
    else s.takeDelay p (s.ingress p - t - m.head.corr)

/-- Send a PTP message on transmit ring 0 of the network ports of its PTP port (R404). -/
def State.ptpEnqueue (s : State) (p : Nat) (x : PtpFrame) : State := (s.ptpPorts p).foldl (fun k q => k.enqueue q 0 (.ptp x)) s

/-- The transport of a PTP port: Ethernet under profile 2 (R398, R431). -/
def State.ptpTransport (s : State) (p : Nat) : Nat := if s.nat El.ptpProfile = 2 then 2 else s.nat (El.ptpTransport p)

/-- A message of port p before it leaves (R400, R402, R404). -/
def State.ptpFrame (s : State) (p : Nat) (kind : PtpKind) (seq : Nat) (interval : Int) : PtpFrame where
  kind := kind
  transport := s.ptpTransport p
  dscp := s.nat El.ptpDscp
  domain := s.nat El.ptpDomain
  src := s.ptpId p
  seq := seq
  interval := interval
  corr := 0
  origin := 0
  clock := s.ownClock p
  req := 0
  got := 0

/-- DELAY_REQ: a master answers with its ingress timestamp (R402). -/
def State.delayReq (s : State) (p : Nat) (h : PtpHead) : State :=
  if s.ptpHears p h ∧ s.nat El.ptpProfile ≠ 2 ∧ s.nat (El.ptpState p) = 6 then
    let got := s.ingress p
    s.ptpEnqueue p { s.ptpFrame p .delayResp h.seq (s.int (El.ptpLogDelay p)) with corr := h.corr - got % 65536, req := h.src, got := got }
  else s

/-- PDELAY_REQ: answered one-step under the peer-to-peer mechanism (R402). -/
def State.pdelayReq (s : State) (p : Nat) (h : PtpHead) : State :=
  if s.ptpHears p h ∧ s.nat El.ptpProfile = 2 then
    s.ptpEnqueue p { s.ptpFrame p .pdelayResp h.seq 127 with corr := h.corr, req := h.src, got := s.ingress p }
  else s

/-- The clock data that an Announce carries: the grandmaster's passed on, or its own (R400). -/
def State.announced (s : State) (p : Nat) : PtpMaster :=
  match (List.range 3).findSome? (fun q => if s.ptpFollows q then (s.ptpPort q).master else none) with
  | none => s.ownClock p
  | some m => { m with portId := (s.ownClock p).portId, steps := m.steps + 1 }

/-- The kind, the place of its sequence number and the interval of a message that the engine sends of itself. -/
def sendKind : PtpSend → PtpKind
  | .sync => .sync | .announce => .announce | .delayReq => .delayReq | .pdelayReq => .pdelayReq
def sendPlace : PtpSend → Nat
  | .sync => 0 | .announce => 1 | .delayReq => 2 | .pdelayReq => 3
def State.sendInterval (s : State) (p : Nat) : PtpSend → Int
  | .sync => s.int (El.ptpLogSync p)
  | .announce => s.int (El.ptpLogAnnounce p)
  | .delayReq => 127
  | .pdelayReq => s.int (El.ptpLogDelay p)

/-- Whether a port sends a message: Sync and Announce as a master, Delay_Req as a follower, Pdelay_Req under profile 2. -/
def State.ptpMay (s : State) (p : Nat) : PtpSend → Bool
  | .sync => s.nat (El.ptpState p) == 6
  | .announce => s.nat (El.ptpState p) == 6
  | .delayReq => s.nat El.ptpProfile != 2 && s.ptpFollows p
  | .pdelayReq => s.nat El.ptpProfile == 2

/-- The message that PTP_MESSAGE_SEND forms. -/
def State.ptpMessage (s : State) (p : Nat) (m : PtpSend) : PtpFrame :=
  { s.ptpFrame p (sendKind m) (Tab.get 0 (s.ptpPort p).seqs (sendPlace m)) (s.sendInterval p m) with clock := s.announced p }

/-- PTP_MESSAGE_SEND (R402): its timestamp is written while the frame leaves. -/
def State.ptpSend (s : State) (p : Nat) (m : PtpSend) : State :=
  let x := s.ptpPort p
  if s.ptpOn p ∧ s.ptpMay p m then
    (s.setPtpPort p { x with seqs := Tab.put 0 x.seqs (sendPlace m) ((Tab.get 0 x.seqs (sendPlace m) + 1) % 65536) }).ptpEnqueue p (s.ptpMessage p m)
  else s

/-- ANNOUNCE_TIMEOUT (R405). -/
def State.announceTimeout (s : State) (p : Nat) : State :=
  let x := s.ptpPort p
  let st := s.nat (El.ptpState p)
  if s.ptpOn p = false ∨ (s.ptpFollows p = false ∧ st ≠ 4) ∨
      s.time.tick < x.lastAnnounce + s.announceNs p then s
  else
    let gone := x.master.map (·.portId)
    let s1 := s.setPtpPort p { x with master := none, foreign := x.foreign.filter (fun f => some f.1.portId ≠ gone) }
    let s2 := if st = 9 then s1.loseMaster p 1 ((x.master.map (·.gmId)).getD 0) else s1
    ((s2.setN (El.ptpState p) (if s.nat (El.ptpRole p) = 1 then 4 else 6)).judgeQ).runBmca

/-- SYNC_TIMEOUT (R405). -/
def State.syncTimeout (s : State) (p : Nat) : State :=
  let x := s.ptpPort p
  if s.ptpOn p = false ∨ s.nat (El.ptpState p) ≠ 9 ∨
      s.time.tick < x.lastSync + 3 * logNs (s.int (El.ptpLogSync p)) then s
  else (s.loseMaster p 2 ((x.master.map (·.gmId)).getD 0)).judgeQ

/-! ### Coach links as references (R372, R409, R411) -/

/-- The references are judged once a link has changed. -/
def State.linkJudged (s : State) : State := s.judgeQ.showQuality

/-- TIME_SECTION, as the TIME island takes it: a selected link steers the DPLL, and the link is judged (R372, R409, R412). -/
def State.hearTime (s : State) (l : Nat) (x : TimeSection) : State :=
  let s1 := s.timeSection l x
  let fresh : Bool := (s1.link l).lastSection == s.time.tick && s.linkOn l && (s.link l).blockLock && x.t3 != 0
  (if fresh ∧ s1.nat El.refSelected = 0x40 + l then s1.steer (-(s1.int (El.lkOffset l)) * 65536) else s1).linkJudged

/-! ### Voltage and frequency (R424 to R428) -/

/-- DSP clusters in service. -/
def State.clustersUp (s : State) : Nat := ((List.range s.variant.clusters).filter (fun c => s.domainUp (2 + c))).length

/-- Whether a request to power up a DSP domain waits for point 3 (R428). -/
def State.needsPoint3 (s : State) : Bool :=
  s.variant == .ivm7424 && decide (s.clustersUp = 4) && s.sys.pdWait.any (fun e => e.2 && decide (2 ≤ e.1) && decide (e.1 < 10))

/-- The tick of the last round pulse. -/
def State.lastPulse (s : State) : Nat := Tab.get 0 s.rounds.pulseAt s.roundIssued

/-- A command to the regulator failed (R427). -/
def State.dvfsFault (s : State) : State := (s.setN El.dvfsState 2).inc El.dvfsErrors

/-- DVFS_RAISE: the new voltage is commanded, and the point follows after `dvfs_settle` (R425 to R427). -/
def State.dvfsRaise (s : State) (ack : Bool) : State :=
  let pt := s.nat El.dvfsPoint
  let want : Bool := decide (0 < s.nat El.lagNow) || decide (218 ≤ s.nat (El.phaseEnd 3)) || decide (pt < s.nat El.dvfsMin) ||
    s.needsPoint3
  if s.nat El.dvfsState ≠ 0 ∨ s.refs.raise.isSome ∨ s.clustersUp = 0 ∨ want = false ∨ 3 ≤ pt ∨
      (s.nat El.dvfsMax ≤ pt ∧ s.needsPoint3 = false) ∨ (s.roundsRun = false ∧ s.needsPoint3 = false) then s
  else if s.nat El.dvfsIf = 1 ∧ ack = false then s.dvfsFault
  else
    let next := s.fitFrom (pt + 1)
    let s1 := s.commandVolt next
    { s1 with refs := { s1.refs with raise := some (next, s.time.tick + s.nat El.dvfsSettle * 1000) } }

/-- DVFS_SETTLE: at the first round boundary after `dvfs_settle` the dividers switch (R426). -/
def State.dvfsSettle (s : State) : State :=
  match s.refs.raise with
  | none => s
  | some (pt, t) =>
    if s.time.tick < t ∨ (s.roundsRun ∧ s.lastPulse < t) then s
    else
      let s1 : State := { s with refs := { s.refs with raise := none, lowSince := s.time.tick } }
      (s1.setN El.dvfsPoint pt).inc El.dvfsChanges

/-- A round leaves too little headroom for a lower point (R425). -/
def State.noteHeadroom (s : State) : State :=
  let pt := s.nat El.dvfsPoint
  if 0 < pt ∧ s.nat El.lagNow = 0 ∧ s.nat (El.phaseEnd 3) * pointMHz pt ≤ 179 * pointMHz (pt - 1) then s
  else { s with refs := { s.refs with lowSince := s.time.tick } }

/-- DVFS_LOWER: after 1 s of headroom the dividers switch to the lower point, and the voltage follows (R425 to R427). -/
def State.dvfsLower (s : State) (ack : Bool) : State :=
  let pt := s.nat El.dvfsPoint
  let calm : Bool := decide (s.refs.lowSince + 1000000000 ≤ s.time.tick) || decide (s.nat El.dvfsMax < pt)
  if s.nat El.dvfsState ≠ 0 ∨ s.refs.raise.isSome ∨ s.roundsRun = false ∨ calm = false ∨ pt ≤ s.nat El.dvfsMin ∨
      s.pathsFit (pt - 1) = false ∨ s.needsPoint3 then s
  else if s.nat El.dvfsIf = 1 ∧ ack = false then s.dvfsFault
  else
    let s0 := s.commandVolt (pt - 1)
    let s1 : State := { s0 with refs := { s0.refs with lowSince := s.time.tick } }
    (s1.setN El.dvfsPoint (pt - 1)).inc El.dvfsChanges

/-- Above four clusters in service an IVM-7424 runs at point 3 (R424, R428). -/
def State.fixPoint (s : State) : State :=
  if s.nat El.dvfsState = 2 then s
  else if s.variant = .ivm7424 ∧ 4 < s.clustersUp then
    let s1 := s.commandVolt 3
    (({ s1 with refs := { s1.refs with raise := none } } : State).setN El.dvfsState 1).setN El.dvfsPoint 3
  else s.setN El.dvfsState 0

/-- The first DSP domain powers up: the point is 3 (R426), and over PMBus VOUT_MODE is read; a regulator of another format
holds the sequencer there (R427). -/
def State.firstDsp (s : State) (i : Nat) : State :=
  if i < 2 ∨ 10 ≤ i ∨ s.clustersUp ≠ 0 then s
  else
    let s1 := (({ s.commandVolt 3 with refs := { (s.commandVolt 3).refs with raise := none } } : State).setN El.dvfsPoint 3)
    if s.nat El.dvfsIf = 1 ∧ Config.voutLinear = false ∧ s.nat El.dvfsState ≠ 2 then s1.dvfsFault else s1

/-! ### Writes of areas 03 and 04 -/

/-- P of a pulse output times a number of ns: whether a width lies in 20 ns to P − 20 ns, or P is at least 40 ns (R434). -/
def widthFits (num den w : Nat) : Bool := w == 0 || (decide (20 ≤ w) && decide ((w + 20) * den ≤ num))

/-- The defaults of a PTP profile (R398): domain, logSync, logAnnounce, logMinDelayReq, Announce timeout. -/
def profileDefaults : Nat → Nat × Int × Int × Int × Nat
  | 0 => (0, -3, 1, 0, 3)
  | 1 => (127, -3, -2, -3, 3)
  | _ => (0, -3, 0, 0, 3)

/-- The value of a write in areas 03 and 04. -/
def State.timeValue (s : State) (a : Nat) (v : Val) : Status :=
  let o := objectOf a
  let e := elementOf a
  let x := v.toNat
  if areaOf a = 0x03 then
    (if a = El.roundSize ∧ isRoundSize x = false then .outOfRange
    else if a = El.timeSet ∧ 1000000000 ≤ x / 2 ^ 48 then .outOfRange
    else if 0x10 ≤ o ∧ o < 0x13 ∧ e = 6 ∧ s.nat El.ptpProfile = 2 ∧ x ≠ 2 then .outOfRange
    else .ok)
  else if o = 0 ∧ e < 8 then
    let dup := x ≠ 0 ∧ (List.range 8).any (fun i => i ≠ e ∧ s.nat (El.refPrio i) = x)
    firstOf [s.refStatus x, if dup then .outOfRange else .ok]
  else if 0x100 ≤ o ∧ o < 0x200 ∧ e = 4 ∧ s.nat (El.hrefReject (o - 0x100)) < x then .outOfRange
  else if 0x100 ≤ o ∧ o < 0x200 ∧ e = 6 ∧ x < s.nat (El.hrefAccept (o - 0x100)) then .outOfRange
  else if 0x200 ≤ o ∧ o < 0x205 then
    let p := o - 0x200
    let num := if e = 1 then x else s.nat (El.poNum p)
    let den := if e = 2 then x else s.nat (El.poDen p)
    let w := if e = 5 then x else s.nat (El.poWidth p)
    (if (e = 1 ∨ e = 2) ∧ num < 40 * den then .outOfRange
    else if (e = 1 ∨ e = 2 ∨ e = 5) ∧ widthFits num den w = false then .outOfRange
    else .ok)
  else if a = El.dvfsMin ∧ s.nat El.dvfsMax < x then .outOfRange
  else if a = El.dvfsMax ∧ x < s.nat El.dvfsMin then .outOfRange
  else .ok

/-- What the state allows of a write in areas 03 and 04 (R397, R399). -/
def State.timeStateOk (s : State) (a : Nat) (v : Val) : Status :=
  if a = El.timeSet ∧ s.nat El.refSelected ≠ 0 then .wrongState
  else if a = El.ptpEnable 1 ∧ v.toNat = 1 ∧ s.nat El.netMode = 1 ∧ s.nat El.ptpProfile ≠ 2 then .wrongState
  else .ok

/-- `ptp_profile` sets the domain and the intervals of every port (R398). -/
def State.applyProfile (s : State) (v : Nat) : State :=
  let d := profileDefaults v
  (List.range 3).foldl (fun (k : State) p =>
    (((k.setI (El.ptpLogSync p) d.2.1).setI (El.ptpLogAnnounce p) d.2.2.1).setI (El.ptpLogDelay p) d.2.2.2.1).setN
      (El.ptpAnnounceTo p) d.2.2.2.2) ((s.setN El.ptpProfile v).setN El.ptpDomain d.1)

/-- `ptp_enable` takes a value: an enabled port listens, a disabled one is DISABLED. -/
def State.applyPtpEnable (s : State) (p v : Nat) : State :=
  if s.nat (El.ptpEnable p) = v then s
  else
    let s1 := ((s.setN (El.ptpEnable p) v).setN (El.ptpState p) (if v = 1 then 4 else 3)).setPtpPort p
      { PtpPort.fresh with qualified := (s.ptpPort p).qualified, lastAnnounce := s.time.tick }
    s1.runBmca

/-- A write in areas 03 and 04 applies. -/
def State.applyTime (s : State) (a : Nat) (v : Val) : State :=
  let o := objectOf a
  let e := elementOf a
  if a = El.timeSet then { s with time := { s.time with clk := nsOfTime80 v.toNat * 65536 } }
  else if a = El.ptpProfile then s.applyProfile v.toNat
  else if areaOf a = 0x03 ∧ 0x10 ≤ o ∧ o < 0x13 ∧ e = 0 then s.applyPtpEnable (o - 0x10) v.toNat
  else if areaOf a = 0x03 ∧ o < 0x13 then (s.setV a v).runBmca
  else if areaOf a = 0x04 ∧ o = 0 ∧ e < 8 then (s.setV a v).tableWritten
  else if a = El.refQCoach then (s.setV a v).judgeQ
  else if areaOf a = 0x04 ∧ 0x200 ≤ o ∧ o < 0x205 ∧ e = 0 then (s.setV a v).showPulses
  else s.setV a v

end Sys2Proof.Machine
end

