-- ==== Sys2Proof/Machine/Check.lean ====
section
/-! DEFINITION. The checks of R275 that every operation on an element shares: the address, the unit's state, role, type,
range and mode; the values of the audio areas; and scenes as stored (R1, R33, R83, R151, R152, R240 to R245, R598,
R600). -/

namespace Sys2Proof.Machine

/-! ### Addresses (R1, R240) -/

/-- Whether an address belongs to a unit that the variant lacks. -/
def absentUnit (v : Variant) (a : Nat) : Bool :=
  let o := objectOf a
  let e := elementOf a
  match areaOf a with
  | 0x04 => decide (0x110 ≤ o) && decide (o < 0x128) && decide (v.serialPorts ≤ o - 0x110)
  | 0x05 => decide (o < 2) && e == 2 && !v.net25g
  | 0x07 => decide (o < 4) && !linkPresent v o
  | 0x08 => decide (o < 0x18) && decide (v.serialPorts ≤ o)
  | 0x09 => decide (o < 0x100) && decide (v.asrcChannels ≤ o)
  | 0x0B => decide (0x10 ≤ o) && decide (o < 0x14) && decide (v.dramChannels ≤ o - 0x10)
  | 0x0C => decide (o < 20) && !domainPresent v o
  | 0x10 => decide (o < 1024) && decide (v.strips ≤ o)
  | 0x11 => decide (o < 512) && decide (v.buses ≤ o)
  | 0x1A => (decide (o < 0x800) && decide (v.sources ≤ o)) || (decide (0x800 ≤ o) && decide (o < 0xA00) && decide (v.dests ≤ o - 0x800))
  | 0x1B => (decide (o < 0x800) && decide (v.sources ≤ o)) || (decide (0x800 ≤ o) && decide (o < 0xA00) && decide (v.dests ≤ o - 0x800))
  | 0x1D =>
    (decide (0x10 ≤ o) && decide (o < 0x18) && decide (v.clusters ≤ o - 0x10)) ||
      (decide (0x100 ≤ o) && decide (o < 0x108) && decide (v.clusters ≤ o - 0x100)) ||
      (decide (0x200 ≤ o) && decide (o < 0x280) && decide (v.clusters ≤ (o - 0x200) / 16)) ||
      (decide (0x1000 ≤ o) && decide (o < 0x2000) && decide (v.clusters ≤ (o - 0x1000) / 512))
  | 0x1E =>
    (decide (o < 32) && decide (v.pscChannels ≤ o)) ||
      (decide (0x100 ≤ o) && decide (o < 0x104) && decide (v.pscChannels ≤ 8 * (o - 0x100))) ||
      (o == 0x200 && v.pscChannels == 0)
  | 0x1F => decide (o < 64) && v.pscChannels == 0
  | _ => if isXp a then decide (o < 512) && (decide (v.sources ≤ xpSource a) || decide (v.dests ≤ o)) else false

/-- An element that a table lists for other ports than this one (R358). -/
def notOnPort (a : Nat) : Bool :=
  areaOf a == 0x05 && ((objectOf a == 2 && elementOf a == 2) ||
    (decide (objectOf a < 2) && (elementOf a == 0x0B || elementOf a == 0x0C)))

/-- An element that the relief core does not have (R201). -/
def notOnRelief (a : Nat) : Bool :=
  areaOf a == 0x1D && decide (0x200 ≤ objectOf a) && decide (objectOf a < 0x280) && objectOf a % 16 == 8 &&
    (elementOf a == 0x0E || elementOf a == 0x0F)

/-- Checks 1 and 2 of R275. -/
def State.addrStatus (s : State) (a : Nat) : Status :=
  if absentUnit s.variant a then .notPresent
  else if (elemOf a).isNone ∨ notOnPort a ∨ notOnRelief a then .noObject
  else .ok

/-! ### The unit's state (R33, R83, R598, R600) -/

/-- The power domain that governs an object, and whether the element is its status element. Dictionary objects of CTL
and AO are governed by none. -/
def domainOf (a : Nat) : Option (Nat × Bool) :=
  let o := objectOf a
  let e := elementOf a
  match areaOf a with
  | 0x03 => some (0x13, decide (0x10 ≤ o) && decide (o < 0x13) && e == 0x10)
  | 0x04 => if o < 0x300 then some (0x13, e == 0x10) else none
  | 0x05 =>
    if o = 2 ∨ 0x480 ≤ o then some (0x0E, e == 0x10 && o == 2) else some (0x0D, e == 0x10 && decide (o < 2))
  | 0x06 => some (0x0D, (a == El.rxState o) || (a == El.txState (o - 0x200)))
  | 0x07 => if o < 4 then some (0x0F, e == 8) else if o < 0x200 then none else some (0x0A, false)
  | 0x08 => some (0x10, (decide (o < 0x18) && e == 0x18) || (decide (0x200 ≤ o) && e == 0x0A))
  | 0x09 => some (0x11, e == 2)
  | 0x0B =>
    if 0x10 ≤ o ∧ o < 0x14 then some (if o < 0x12 then 0x0B else 0x0C, false)
    else if o = 0x200 then some (0x0B, false) else none
  | 0x0E => if 0x100 ≤ o then some (0x0A, false) else none
  | 0x1A => some (0x0A, decide (0xC00 ≤ o) && decide (o < 0xC40) && e == 0)
  | 0x1B => some (0x0A, false)
  | 0x1D =>
    if 0x100 ≤ o ∧ o < 0x108 then some (2 + (o - 0x100), e == 0)
    else if 0x200 ≤ o ∧ o < 0x280 then some (2 + (o - 0x200) / 16, false)
    else if 0x1000 ≤ o then some (2 + (o - 0x1000) / 512, false)
    else none
  | 0x1E => some (0x12, (decide (o < 32) && e == 0x18))
  | 0x1F => some (0x12, false)
  | _ => if isXp a then some (0x0A, false) else none

/-- Whether an object is a unit's that R598 takes out of service. -/
def State.outOfService (s : State) (a : Nat) : Bool :=
  let o := objectOf a
  match areaOf a with
  | 0x07 => decide (0x200 ≤ o) && decide (s.cap 512 ≤ o - 0x200)
  | 0x10 => decide (s.cap s.variant.strips ≤ o)
  | 0x11 => decide (s.cap s.variant.buses ≤ o)
  | 0x1A => (decide (o < 0x800) && decide (s.cap s.variant.sources ≤ o)) ||
      (decide (0x800 ≤ o) && decide (o < 0xA00) && decide (s.cap s.variant.dests ≤ o - 0x800))
  | 0x1B => (decide (o < 0x800) && decide (s.cap s.variant.sources ≤ o)) ||
      (decide (0x800 ≤ o) && decide (o < 0xA00) && decide (s.cap s.variant.dests ≤ o - 0x800))
  | _ => isXp a && (decide (s.cap s.variant.sources ≤ xpSource a) || decide (s.cap s.variant.dests ≤ o))

/-- Check 3 of R275: a READ of the status element, and of a unit out of service, goes through. -/
def State.unitState (s : State) (a : Nat) (read : Bool) : Status :=
  let down : Bool := match domainOf a with
    | none => false
    | some (d, status) => !s.domainUp d && !(read && status)
  if down ∨ (read = false ∧ s.outOfService a) then .wrongState else .ok

/-- An element of a follower that the follower does not keep: it answers WRONG_STATE to every operation but READ
(R124). -/
def State.followerHides (s : State) (a : Nat) : Bool :=
  isStrip a && s.follower (stripBus a) (objectOf a) &&
    !(followerKeeps (s.nat (El.stProgram (stripBus a) (objectOf a - 1))) (elementOf a))

/-! ### Roles, types, ranges, modes -/

/-- The least role that may write an element (R245). -/
def minRole (a : Nat) : Nat :=
  let r := areaOf a
  if a = El.sessionOpen ∨ a = El.sessionClose then 1
  else if r = 0x02 ∨ r = 0x0B ∨ r = 0x0D then 4
  else if r = 0x1D ∧ 0x200 ≤ objectOf a ∧ objectOf a < 0x300 ∧ 0x0E ≤ elementOf a then 4
  else if (0x10 ≤ r ∧ r ≤ 0x1B) ∨ (r = 0x1C ∧ 0x100 ≤ objectOf a ∧ objectOf a < 0x200 ∧ elementOf a = 6) then 2
  else 3

/-- The type code of an element; 0 where there is none. -/
def typeOf (a : Nat) : Nat := match elemOf a with
  | none => 0
  | some e => e.ty

/-- The access of an element. For the frame clocks of serial ports the period and offset are RO (R433); ring 0 takes no
priority, shaper or slope (R360); `pd_on` of AO and CTL is RO (R563). -/
def accessOf (a : Nat) : Access :=
  let o := objectOf a
  match elemOf a with
  | none => .ro
  | some e =>
    if areaOf a = 0x04 ∧ 0x110 ≤ o ∧ o < 0x128 ∧ elementOf a < 3 then .ro
    else if areaOf a = 0x05 ∧ 0x400 ≤ o ∧ (o - 0x400) % 64 = 0 ∧ elementOf a < 3 then .ro
    else if areaOf a = 0x0C ∧ o < 2 then .ro
    else e.acc

/-- Whether an element takes a direct change (R71, R242): the RW-RAW elements, and the pass of a destination (R76). -/
def isDirect (a : Nat) : Bool :=
  accessOf a == .raw || (areaOf a == 0x1A && decide (0x800 ≤ objectOf a) && decide (objectOf a < 0xC00) && elementOf a == 1)

/-- Check 4 for a write: the role, then the access kind. -/
def writeDenied (role a : Nat) : Bool := decide (role < minRole a) || accessOf a == .ro

/-- UTF-8 text (R241): every byte belongs to a well-formed sequence. -/
def utf8 : List Byte → Bool
  | [] => true
  | a :: b :: c :: d :: l =>
    if a.toNat < 0x80 then utf8 (b :: c :: d :: l)
    else if 0xC2 ≤ a.toNat ∧ a.toNat < 0xE0 ∧ b.toNat / 64 = 2 then utf8 (c :: d :: l)
    else if 0xE0 ≤ a.toNat ∧ a.toNat < 0xF0 ∧ b.toNat / 64 = 2 ∧ c.toNat / 64 = 2 ∧ (a.toNat ≠ 0xE0 ∨ 0xA0 ≤ b.toNat) ∧
        (a.toNat ≠ 0xED ∨ b.toNat < 0xA0) then utf8 (d :: l)
    else decide (0xF0 ≤ a.toNat ∧ a.toNat < 0xF5 ∧ b.toNat / 64 = 2 ∧ c.toNat / 64 = 2 ∧ d.toNat / 64 = 2 ∧
        (a.toNat ≠ 0xF0 ∨ 0x90 ≤ b.toNat) ∧ (a.toNat ≠ 0xF4 ∨ b.toNat < 0x90)) && utf8 l
  | [a] => decide (a.toNat < 0x80)
  | [a, b] => (decide (a.toNat < 0x80) && decide (b.toNat < 0x80)) || decide (0xC2 ≤ a.toNat ∧ a.toNat < 0xE0 ∧ b.toNat / 64 = 2)
  | [a, b, c] =>
    (decide (a.toNat < 0x80) && ((decide (b.toNat < 0x80) && decide (c.toNat < 0x80)) ||
        decide (0xC2 ≤ b.toNat ∧ b.toNat < 0xE0 ∧ c.toNat / 64 = 2))) ||
      (decide (0xC2 ≤ a.toNat ∧ a.toNat < 0xE0 ∧ b.toNat / 64 = 2) && decide (c.toNat < 0x80)) ||
      decide (0xE0 ≤ a.toNat ∧ a.toNat < 0xF0 ∧ b.toNat / 64 = 2 ∧ c.toNat / 64 = 2 ∧ (a.toNat ≠ 0xE0 ∨ 0xA0 ≤ b.toNat) ∧
        (a.toNat ≠ 0xED ∨ b.toNat < 0xA0))

/-- A STRING32 value: 32 bytes of UTF-8 text, padded with zero bytes. -/
def stringOk (b : List Byte) : Bool :=
  decide (b.length = 32) && utf8 (b.takeWhile (· ≠ 0)) && (b.dropWhile (· ≠ 0)).all (· == 0)

/-- Encoding and range of a value by its element's table (R241). -/
def inRange (a : Nat) (v : Val) : Bool :=
  match elemOf a with
  | none => false
  | some e =>
    if e.ty = 13 then stringOk v.toBytes
    else if e.ty = 14 then decide (v.toBytes.length ≤ 4194304)
    else match v with
      | .bytes _ => false
      | .int z =>
        if e.rng = [] then
          (if tySigned e.ty then decide (-(2 ^ (8 * tyBytes e.ty - 1) : Nat) ≤ z) && decide (z < (2 ^ (8 * tyBytes e.ty - 1) : Nat))
          else decide (0 ≤ z) && decide (z < (2 ^ (8 * tyBytes e.ty) : Nat)))
        else e.rng.any (fun r => decide (r.1 ≤ z) && decide (z ≤ r.2))

/-- Whether the present mode accepts a write of an element (R243). -/
def State.modeOk (s : State) (a : Nat) : Bool :=
  match elemOf a with
  | none => false
  | some e => inModes e.modes s.mode

/-! ### Values of the audio areas -/

/-- What a value of areas 10 to 1B must name. -/
def State.audioValue (s : State) (a : Nat) (v : Val) : Status :=
  if inRange a v = false then .outOfRange
  else if isStrip a then s.stripValue a v
  else if areaOf a = 0x1A then s.holeValue a v
  else if areaOf a = 0x1B then s.meterValue a v
  else .ok

/-- What the state allows of a write to areas 10 to 1B, other than the checks that an envelope makes on the whole. -/
def State.audioState (s : State) (a : Nat) (v : Val) : Status :=
  if isStrip a then s.stripState a v
  else if areaOf a = 0x1A then
    (if s.holeState a v ≠ .ok then .wrongState
    else if 0x800 ≤ objectOf a ∧ objectOf a < 0xC00 ∧ elementOf a = 1 ∧ s.busNames (objectOf a - 0x800) then .wrongState
    else .ok)
  else if areaOf a = 0x1B then s.meterState a
  else .ok

/-- Whether an address lies in the areas that scenes and envelopes may write (R152). -/
def inSceneAreas (a : Nat) : Bool := decide (0x10 ≤ areaOf a) && decide (areaOf a ≤ 0x1B)

/-! ### Scenes (R151, R152) -/

/-- A scene record: its first address and its values, one for each element from there on. -/
structure SceneRec where
  addr : Nat
  vals : List Nat
deriving DecidableEq, Repr

/-- The records of a scene, or none where a kind is reserved or a count breaks R151. -/
def sceneRecs : Nat → List Nat → Option (List SceneRec)
  | _, [] => some []
  | 0, _ :: _ => none
  | n + 1, h :: l =>
    let a := h % 2 ^ 30
    let kind := h / 2 ^ 30
    match l with
    | [] => none
    | c :: r =>
      if kind = 0 then (sceneRecs n r).map (⟨a, [c]⟩ :: ·)
      else if kind = 1 ∨ c = 0 ∨ 256 < c ∨ 256 < elementOf a + c then none
      else if kind = 2 then (if r.length < c then none else (sceneRecs n (r.drop c)).map (⟨a, r.take c⟩ :: ·))
      else match r with
        | [] => none
        | v :: q => (sceneRecs n q).map (⟨a, List.replicate c v⟩ :: ·)

/-- Header, length and check of a scene (R151). -/
def sceneHead (b : List Byte) : Bool :=
  let l := words32 b
  decide (16 ≤ b.length) && decide (b.length ≤ 4194304) && b.length % 4 == 0 && l.getD 0 0 == 0x314E4353 && l.getD 1 0 == 1 &&
    l.getD 2 0 == b.length && l.getD 3 0 == crc32c (b.take 12 ++ List.replicate 4 0 ++ b.drop 16)

/-- The records of a scene value; an empty value holds none. -/
def sceneOf (b : List Byte) : Option (List SceneRec) :=
  if b = [] then some []
  else if sceneHead b = false then none
  else
    let l := (words32 b).drop 4
    match sceneRecs l.length l with
    | none => none
    | some r => if r.all (fun x => inSceneAreas x.addr) then some r else none

/-- A word of a scene as a value of an element: two's complement for a signed type (R151). -/
def sceneVal (a w : Nat) : Val := if tySigned (typeOf a) then .int (signed 32 w) else .int w

/-- The writes of a record. -/
def SceneRec.writes (r : SceneRec) : List (Nat × Val) := r.vals.zipIdx.map (fun e => (r.addr + e.2, sceneVal (r.addr + e.2) e.1))

/-- Whether a value's type is one that scenes cannot carry. -/
def wideType (a : Nat) : Bool := [5, 10, 11, 13, 14].contains (typeOf a)

/-- The status of a value in a scene that is stored, or in an envelope (R152, R154): its range, and that what it names is
present. What depends on the state of the engine is left to the recall or the seal, and to the commit point: a unit out
of service, the pass of a destination, a job that may be shed, the program of a strip. -/
def State.storeValue (s : State) (a : Nat) (v : Val) : Status :=
  let o := objectOf a
  let st : Status :=
    if inRange a v = false then .outOfRange
    else if isStrip a then (if elementOf a = 0x52 then s.sigStatus v.toNat else s.stripValue a v)
    else if areaOf a = 0x1A then
      (if elementOf a ≠ 0 then .ok
      else if o < 0x800 then s.sigStatus v.toNat
      else if o < 0xC00 then (if 6 < tgtKind v.toNat then .outOfRange else s.tgtStatus v.toNat)
      else .ok)
    else if areaOf a = 0x1B then s.meterValue a v
    else .ok
  if st = .wrongState then .ok else st

/-- The first failing row of R152 for a record; a unit that the value alone names is judged with the value (R275). -/
def State.recordStatus (s : State) (r : SceneRec) : Status :=
  let w := r.writes
  if w.any (fun e => absentUnit s.variant e.1) then .notPresent
  else if w.any (fun e => decide (s.addrStatus e.1 = .noObject)) then .noObject
  else if w.any (fun e => accessOf e.1 == .ro || accessOf e.1 == .wo) then .denied
  else if w.any (fun e => wideType e.1) then .badType
  else firstOf (w.map (fun e => s.storeValue e.1 e.2))

/-- The status of a value stored in a scene slot (R152). -/
def State.sceneStatus (s : State) (b : List Byte) : Status :=
  match sceneOf b with
  | none => .outOfRange
  | some r => firstOf (r.map s.recordStatus)

/-- The writes of a scene, in order. -/
def sceneWrites (b : List Byte) : List (Nat × Val) := ((sceneOf b).getD []).flatMap SceneRec.writes

/-- V, the number of distinct elements written (R140). -/
def distinctCount (w : List (Nat × Val)) : Nat := ((w.map (·.1)).eraseDups).length

end Sys2Proof.Machine
end

