-- ==== Sys2Proof/Machine/Disp.lean ====
section
/-! DEFINITION. The Dispatcher (R47, R70 to R72, R85, R90, R133 to R160, R262, R263): changes from acceptance to effect,
pending slots, scenes, recalls and envelopes. -/

namespace Sys2Proof.Machine

/-! ### The writes of a change -/

/-- A number that earlier writes of the same change give an element, else its present one. -/
def State.over_ (s : State) (w : List CWrite) (a : Nat) : Nat :=
  match w.reverse.find? (fun x => x.addr = a) with
  | none => s.nat a
  | some x => x.val.toNat

/-- The ramp or morph length and the shape that a write takes at acceptance (R85, R134, R135, R153): those of the elements
as they stand, with earlier writes of the change counted; a time override replaces the length. -/
def State.shapeOf (s : State) (before : List CWrite) (ovr : Option Nat) (a : Nat) (v : Val) : CWrite :=
  let o := objectOf a
  let e := elementOf a
  let bus := stripBus a
  if isXp a then ⟨a, v, ovr.getD (s.over_ before (El.xpRampTime o)), s.over_ before (El.xpRampShape o)⟩
  else if isStrip a ∧ isRamped e then ⟨a, v, ovr.getD (s.over_ before (El.rampTime bus o)), s.over_ before (El.rampShape bus o)⟩
  else if isStrip a ∧ (stageOf e).isSome then ⟨a, v, ovr.getD (s.over_ before (El.morphTime bus o)), 0⟩
  else ⟨a, v, 0, 0⟩

/-- The writes of a change with their lengths and shapes. -/
def State.shapeAll (s : State) (ovr : Option Nat) (w : List (Nat × Val)) : List CWrite :=
  w.foldl (fun acc e => acc ++ [s.shapeOf acc ovr e.1 e.2]) []

/-! ### Taking effect -/

/-- A crosspoint takes a gain as a value, with no ramp (R139, R603). -/
def State.setXp (s : State) (a : Nat) (g : Int) : State :=
  let s1 := s.leaveRamp a
  ({ s1 with mix := { s1.mix with
    inEffect := Tab.put 0 s1.mix.inEffect a g
    incoming := Tab.put 0 s1.mix.incoming a g } } : State).setI a g

/-- Scenes read `scene_state` 2 while a pending change names them (R160). -/
def State.showScene (s : State) (n : Nat) : State :=
  let named := s.disp.changes.any (fun c => c.scene = some n)
  s.setN (El.sceneState n) (if named then 2 else if (s.val (El.sceneData n)).toBytes = [] then 0 else 1)

/-- A scene is stored, or its slot emptied. -/
def State.storeScene (s : State) (n : Nat) (b : List Byte) : State :=
  (((((s.noteEngine .bulk n b.length).setB (El.sceneData n) b).setN (El.sceneLength n) b.length).setN (El.sceneValues n) (distinctCount (sceneWrites b))).setN
    (El.sceneCrc n) (field b 12 4)).showScene n

/-- The counters that `disp_clear` clears. -/
def dispCounters : List Nat :=
  [El.dispPendingMax, El.dispLate, El.dispRefusedPast, El.dispWithdrawn, El.dispMoved, El.envDiscarded]

/-- A write in area 1C other than a cancel takes effect (R152, R158, R160). -/
def State.applyStore (s : State) (a : Nat) (v : Val) : State :=
  if a = El.dispClear then (if v.toNat = 1 then s.setAll dispCounters 0 else s)
  else if 0x1000 ≤ objectOf a ∧ elementOf a = 0 then s.storeScene (objectOf a - 0x1000) v.toBytes
  else s.setV a v

/-- One write takes effect on sample n; where no rounds run, as a value (R133, R139). -/
def State.takeWrite (s : State) (w : CWrite) (n : Nat) : State :=
  let r := areaOf w.addr
  if isXp w.addr then (if s.roundsRun then s.startXp w.addr w.val.toInt n w.len w.shape else s.setXp w.addr w.val.toInt)
  else if isStrip w.addr then s.applyStrip w n
  else if r = 0x1A then s.applyHole w.addr w.val
  else if r = 0x1B then s.applyMeter w.addr w.val n
  else if r = 0x1E then s.applyPsc w.addr w.val
  else if r = 0x1F then s.setV w.addr w.val
  else if r = 0x1C then s.applyStore w.addr w.val
  else if r = 0x1D then s.takeImageNow (objectOf w.addr - 0x10)
  else s

/-! ### Pending slots and summary (R158, R159) -/

/-- Changes with a pending slot. -/
def Disp.slotted (d : Disp) : List Change := d.changes.filter (fun c => c.slot.isSome)

/-- The slot objects of a change (R159). -/
def State.showSlot (s : State) (c : Change) : State :=
  match c.slot with
  | none => s
  | some i =>
    let st := if c.committed then 3 else if c.armed then 2 else 1
    let kind := if c.kind = .recall then 1 else 2
    (((((s.setN (El.pendState i) st).setN (El.pendKind i) kind).setN (El.pendScene i) (c.scene.getD 0xFFFF)).setN
      (El.pendSample i) c.eff).setN (El.pendValues i) c.values).setN (El.pendFlags i) c.flags

/-- The counts of the Dispatcher. -/
def State.showDisp (s : State) : State :=
  let l := s.disp.slotted
  let openEnvs := (s.disp.envs.filter (fun e => match e.2 with
    | none => false
    | some x => !x.sealed)).length
  (((s.setN El.dispPending l.length).raise El.dispPendingMax l.length).setN El.dispArmed (l.filter (·.armed)).length).setN
    El.envOpen openEnvs


/-- The objects of a slot that is free. -/
def State.freeSlot (s : State) (i : Nat) : State :=
  ((((s.setN (El.pendState i) 0).setN (El.pendKind i) 0).setN (El.pendScene i) 0xFFFF).setN (El.pendSample i) 0).setAll
    [El.pendValues i, El.pendFlags i] 0

/-- At a round boundary, slots whose change took effect or was removed are free again (R159). -/
def State.freeSlots (s : State) : State :=
  let s1 := s.disp.freed.foldl (fun k i => k.freeSlot i) s
  { s1 with disp := { s1.disp with freed := [] } }

/-- The lowest free pending slot. -/
def State.slotFor (s : State) : Option Nat := (List.range 256).find? (fun i => s.nat (El.pendState i) = 0)

/-- A change leaves the list: its slot frees at the next boundary, and its envelope number is no longer held. -/
def State.dropChange (s : State) (c : Change) : State :=
  let d := s.disp
  let s1 : State := { s with disp := { d with
    changes := d.changes.filter (fun x => x.id ≠ c.id)
    freed := match c.slot with
      | none => d.freed
      | some i => i :: d.freed
    envs := match c.envelope with
      | none => d.envs
      | some e => Tab.put none d.envs e none } }
  let s2 := match c.scene with
    | none => s1
    | some n => s1.showScene n
  s2.showDisp

/-! ### What is pre-staged for a change (R95, R145, R149) -/

/-- The stages that a change's writes morph: strip key and stage. -/
def CWrite.stage (w : CWrite) : Option (Nat × Nat) :=
  if isStrip w.addr then (stageOf (elementOf w.addr)).map (fun g => (stripKey (stripBus w.addr) (objectOf w.addr), g)) else none

/-- A stage copy of a strip is prepared for a change. -/
def State.prepare (s : State) (id key stage : Nat) : State :=
  let x := Tab.get StripRun.fresh s.strips key
  if x.prepared.contains (id, stage) then s
  else { s with strips := Tab.put StripRun.fresh s.strips key { x with prepared := x.prepared ++ [(id, stage)] } }

/-- What is pre-staged for a change: its crosspoint targets for the incoming bank (R95), and a copy of each stage that it
morphs (R145). -/
def State.prestage (s : State) (c : Change) : State :=
  c.writes.foldl (fun (k : State) w =>
    if isXp w.addr then k.stageXp c.id w.addr w.val.toInt
    else match w.stage with
      | none => k
      | some g => k.prepare c.id g.1 g.2) s

/-- The strips give up the copies prepared for a change. -/
def StripRun.unprepare (x : StripRun) (id : Nat) : StripRun := { x with prepared := x.prepared.filter (fun p => p.1 ≠ id) }

/-- What was pre-staged for a change is discarded, or taken into use. -/
def State.discardStaged (s : State) (id : Nat) : State :=
  let s1 := s.unstage id
  { s1 with strips := (s1.strips.map (fun e => (e.1, e.2.unprepare id))).filter (fun e => e.2 ≠ StripRun.fresh) }

/-! ### Withdrawal (R149, R278) -/

/-- The NOTIFY of a dropped change goes to the session that issued it. -/
def State.notifyDropped (s : State) (c : Change) (status : Status) (reason : Nat) : State :=
  match c.who.src with
  | .session n => s.notify n (notifyRec 0 0 (leBytes 1 3 ++ leBytes 4 c.who.seq ++ leBytes 2 c.who.opId ++
      leBytes 1 (c.slot.getD 0xFF) ++ leBytes 1 status.code ++ leBytes 1 reason))
  | _ => s

/-- A change is removed before it takes effect, for a reason of R149. -/
def State.withdraw (s : State) (c : Change) (reason : Nat) (status : Status) : State :=
  let s1 := (s.dropChange c).discardStaged c.id
  let s2 : State := { s1 with mix := { s1.mix with resv := withdrawRamps s1.mix.resv c.id } }
  let s3 := match c.slot with
    | none => s2
    | some i => (s2.inc El.dispWithdrawn).post nSceneWithdrawn (El.pendState i) [i, if c.armed then 1 else 0, reason]
  s3.notifyDropped c status reason

/-- A change is pending until its commit point (R146): a recall, an envelope or a WRITE_AT. -/
def Change.pending (c : Change) : Bool := !c.committed && (c.kind == .recall || c.kind == .envelope || c.kind == .writeAt)

/-- Pending changes whose commit point has not passed are discarded with reason 3 (R150, R285). -/
def State.discardPending (s : State) : State :=
  (s.disp.changes.filter (·.pending)).foldl (fun k c => k.withdraw c 3 .ok) s

/-- Whether two changes write one element. -/
def sharesWrite (a b : List CWrite) : Bool := a.any (fun x => b.any (fun y => x.addr == y.addr))

/-- A postmarked change overtakes the pending recalls and envelopes at or after its sample that write one of its elements
(R147). -/
def State.overtake (s : State) (eff : Nat) (w : List CWrite) : State :=
  (s.disp.changes.filter (fun c => c.pending && c.slot.isSome && decide (eff ≤ c.eff) && sharesWrite w c.writes)).foldl
    (fun k c => k.withdraw c 1 .ok) s

/-! ### Descriptors and morph windows (R90, R136) -/

/-- Reserve the descriptors of a change; the index of the first write that finds none (R90, R155). -/
def reserveAll (l : List Resv) (b eff id : Nat) (w : List CWrite) : Except Nat (List Resv) :=
  w.zipIdx.foldl (fun acc e => match acc with
    | .error i => .error i
    | .ok r =>
      if isXp e.1.addr then
        (match reserveRamp r b eff e.1.len e.1.shape id with
          | none => .error e.2
          | some q => .ok q)
      else .ok r) (.ok l)

/-- A morph window: strip, stage, first sample and length. -/
structure Win where
  strip : Nat
  stage : Nat
  start : Nat
  len : Nat
deriving DecidableEq, Repr

/-- The windows that a change's writes would open on sample n. -/
def windowsOf (w : List CWrite) (n : Nat) : List Win :=
  w.filterMap (fun x =>
    if isStrip x.addr then (stageOf (elementOf x.addr)).map (fun g => ⟨stripKey (stripBus x.addr) (objectOf x.addr), g, n, x.len⟩)
    else none)

/-- The windows of morphs in progress and of changes accepted earlier. -/
def State.windows (s : State) : List Win :=
  s.strips.flatMap (fun e => e.2.morphs.flatMap (fun q => (q.2.filter (fun m => !m.ended)).map (fun m => ⟨e.1, q.1, m.start, m.len⟩))) ++
    s.disp.changes.flatMap (fun c => windowsOf c.writes c.eff)

/-- Two windows of one stage that may not stand together (R136). -/
def Win.clash (a b : Win) : Bool :=
  a.strip == b.strip && a.stage == b.stage && a.start != b.start && !(decide (b.start + b.len ≤ a.start)) &&
    !(decide (a.start + a.len ≤ b.start))

/-- Index of the first write whose window clashes on sample n. -/
def firstWinClash (old : List Win) (w : List CWrite) (n : Nat) : Option Nat :=
  (w.zipIdx.find? (fun e => (windowsOf [e.1] n).any (fun x => old.any x.clash))).map (·.2)

/-- The earliest sample from n on, on a boundary where `onB`, on which every window is clear. -/
def State.clearSample (s : State) (w : List CWrite) (n : Nat) (onB : Bool) : Nat :=
  let old := s.windows
  let ends := old.map (fun x => if onB then s.roundUp (x.start + x.len) else x.start + x.len)
  ((n :: ends).filter (fun m => decide (n ≤ m) && (firstWinClash old w m).isNone)).foldl
    (fun (b : Option Nat) m => some (match b with
      | none => m
      | some x => min x m)) none |>.getD n

/-! ### Acceptance -/

/-- A refused change: its status and the index of the write that caused it, 0xFFFF for none (R155). -/
abbrev Refused := Status × Nat

/-- Whether a postmark lies too far ahead (R142, R263). -/
def State.tooFar (s : State) (n : Nat) : Bool := decide (s.sampleNow + 3600 * s.fs < n)

/-- The effective sample of a recall or envelope, and its flags (R140 to R143, R136). -/
def State.planSlot (s : State) (w : List CWrite) (v : Nat) (mark : Option Nat) (exact : Bool) : Except Refused (Nat × Nat) :=
  let b := s.roundB
  let e := (s.roundIssued + 4 + ceilDiv v 65536) * b
  let dir := w.findIdx? (fun x => isDirect x.addr)
  let x0 := if exact then 1 else 0
  let move (n flags : Nat) : Except Refused (Nat × Nat) :=
    let m := s.clearSample w n dir.isSome
    if m = n then .ok (n, flags)
    else if exact ∧ mark.isSome then .error (.busy, (firstWinClash s.windows w n).getD 0xFFFF)
    else .ok (m, flags + 4)
  match mark with
  | none => move e x0
  | some n =>
    if exact ∧ dir.isSome ∧ n % b ≠ 0 then .error (.outOfRange, dir.getD 0xFFFF)
    else if s.tooFar n then .error (.far, 0xFFFF)
    else if n < e then (if exact then .error (.past, 0xFFFF) else move e (x0 + 2))
    else if dir.isSome ∧ n % b ≠ 0 then move (s.roundUp n) (x0 + 8)
    else move n x0

/-- A change enters the list. -/
def State.addChange (s : State) (c : Change) (resv : List Resv) : State :=
  let s1 : State := { s with
    disp := { s.disp with changes := s.disp.changes ++ [c], nextId := s.disp.nextId + 1 }
    mix := { s.mix with resv := resv } }
  let s2 := match c.scene with
    | none => s1
    | some n => s1.showScene n
  (s2.showSlot c).showDisp

/-- Whether a change qualifies to be armed (R145). -/
def State.mayArm (s : State) (c : Change) : Bool :=
  c.slot.isSome && !c.armed && decide (c.eff ≤ s.firstSample s.roundIssued + 2 * s.fs)

/-- A change is armed: its values are pre-staged, and SCENE_ARMED is posted (R145). A twin had the change at its acceptance
(R150); no courier item carries an arming (log entry 87). -/
def State.arm (s : State) (c : Change) : State :=
  let a := { c with armed := true }
  let s0 := (s.prestage c).noteEngine .bulk 0 (8 * c.values)
  let s1 : State := { s0 with disp := { s0.disp with changes := s0.disp.changes.map (fun x => if x.id = c.id then a else x) } }
  let i := c.slot.getD 0
  ((s1.showSlot a).showDisp).post nSceneArmed (El.pendState i)
    ([i, if c.kind = .recall then 1 else 2, c.scene.getD 0xFFFF] ++ twoWords c.eff ++ [c.values])

/-- The reservations that live changes hold, once those that an accepted change overtook are gone. -/
def State.liveResv (s : State) (id : Nat) (l : List Resv) : List Resv :=
  (l.map (fun r => { r with changes := r.changes.filter (fun i => i == id || s.disp.changes.any (fun x => x.id == i)) })).filter
    (fun r => r.changes ≠ [] || r.begun)

/-- A recall or envelope becomes a pending change (R140 to R147, R155): its slot and effective sample, or the refusal. -/
def State.acceptSlot (s : State) (kind : ChangeKind) (who : Who) (w : List CWrite) (mark : Option Nat) (exact : Bool)
    (scene env : Option Nat) : Except Refused (Nat × Nat) × State :=
  let v := distinctCount (w.map (fun x => (x.addr, x.val)))
  match s.planSlot w v mark exact with
  | .error r => (.error r, if r.1 = .past then s.inc El.dispRefusedPast else s)
  | .ok (eff, flags) => match s.slotFor with
    | none => (.error (.busy, 0xFFFF), s)
    | some i =>
      match reserveAll s.mix.resv s.roundB eff s.disp.nextId w with
      | .error j => (.error (.busy, j), s.inc El.rdRefusals)
      | .ok resv =>
        let s1 := if mark.isSome then s.overtake eff w else s
        let c : Change :=
          { id := s.disp.nextId
            order := s.disp.nextId
            kind := kind
            eff := eff
            writes := w
            slot := some i
            envelope := env
            scene := scene
            mark := mark
            flags := flags
            values := v
            armed := false
            committed := false
            told := false
            who := who
            fid := 0 }
        let s2 := s1.addChange c (s1.liveResv c.id resv)
        let s3 := if bitOf flags 1 then s2.inc El.dispLate else s2
        let s4 := if bitOf flags 2 then s3.inc El.dispMoved else s3
        (.ok (i, eff), if s4.mayArm c then s4.arm c else s4)

/-- A change of one write: an unpostmarked write, a WRITE_AT or an activation. -/
def oneWrite (id : Nat) (kind : ChangeKind) (eff : Nat) (w : CWrite) (mark : Option Nat) (flags : Nat) (who : Who) : Change where
  id := id
  order := id
  kind := kind
  eff := eff
  writes := [w]
  slot := none
  envelope := none
  scene := none
  mark := mark
  flags := flags
  values := 1
  armed := false
  committed := kind == .write || kind == .activate
  told := false
  who := who
  fid := 0

/-- A write that takes effect at a sample is accepted (R47, R90, R136): its effective sample, or BUSY. -/
def State.acceptOne (s : State) (kind : ChangeKind) (who : Who) (a : Nat) (v : Val) (n : Nat) (mark : Option Nat) (exact : Bool) :
    Except Status Nat × State :=
  let w := s.shapeOf [] none a v
  let eff := s.clearSample [w] n (isDirect a)
  if eff ≠ n ∧ exact then (.error .busy, s)
  else match reserveAll s.mix.resv s.roundB eff s.disp.nextId [w] with
    | .error _ => (.error .busy, s.inc El.rdRefusals)
    | .ok resv =>
      let s1 := if mark.isSome then s.overtake eff [w] else s
      let c := oneWrite s.disp.nextId kind eff w mark (if exact then 1 else 0) who
      let s2 := s1.addChange c (s1.liveResv c.id resv)
      (.ok eff, if eff ≠ n then s2.inc El.dispMoved else s2)

/-- An unpostmarked write of a delayed element (R47, R262); an activation takes the image that is staged now (R237). -/
def State.acceptWrite (s : State) (who : Who) (a : Nat) (v : Val) : Except Status Nat × State :=
  if areaOf a = 0x1D then (s.captureImage (objectOf a - 0x10)).acceptOne .activate who a v s.effective none false
  else s.acceptOne .write who a v s.effective none false

/-- Pending WRITE_ATs. -/
def State.pendingAts (s : State) : Nat := (s.disp.changes.filter (fun c => c.kind == .writeAt)).length

/-- A WRITE_AT is accepted (R71, R72, R263): its effective sample. -/
def State.acceptAt (s : State) (who : Who) (a : Nat) (v : Val) (n : Nat) (exact : Bool) : Except Status Nat × State :=
  let e := s.effective
  if s.tooFar n then (.error .far, s)
  else if n < e ∧ exact then (.error .past, s.inc El.dispRefusedPast)
  else if 4096 ≤ s.pendingAts then (.error .busy, s)
  else
    let m := if n < e then e else if isDirect a then s.roundUp n else n
    s.acceptOne .writeAt who a v m (some n) exact

/-! ### State checks over a whole change (R78 to R80, R148, R155) -/

/-- Whether another destination than d is bound to a consumer. -/
def State.boundElsewhere (s : State) (d v : Nat) : Bool :=
  decide (v ≠ 0) && (List.range s.variant.dests).any (fun k => k != d && s.nat (El.dstTarget k) == v)

/-- Whether a change comes before another (R144). -/
def Change.before (a b : Change) : Bool := decide (a.eff < b.eff) || (decide (a.eff = b.eff) && decide (a.order < b.order))

/-- Insert a change in the order in which changes take effect. -/
def insChange (c : Change) : List Change → List Change
  | [] => [c]
  | x :: l => if c.before x then c :: x :: l else x :: insChange c l
/-- The committed changes that have not taken effect, in order. -/
def Disp.inOrder (d : Disp) : List Change :=
  (d.changes.filter (fun c => c.committed && c.kind != .activate)).foldl (fun l c => insChange c l) []

/-- The bindings and passes that the changes already committed leave: the checks of R78 and R80 are made on these, since
an accepted write can no longer be stopped. -/
def State.ahead (s : State) : State :=
  s.disp.inOrder.foldl (fun k c => c.writes.foldl (fun (q : State) w =>
    if areaOf w.addr = 0x1A ∧ 0x800 ≤ objectOf w.addr ∧ objectOf w.addr < 0xC00 ∧ elementOf w.addr < 2 then q.setV w.addr w.val
    else q) k) s

/-- The checks of one write of a change in the order of R275: the unit, the value, then the mode and the state; `mid` is the
dictionary that the writes before it leave, `fin` the one that the whole change leaves. -/
def State.partChecks (s mid fin : State) (a : Nat) (v : Val) : Status × Status × Status :=
  let d := objectOf a - 0x800
  let isHole : Bool := areaOf a == 0x1A && decide (0x800 ≤ objectOf a) && decide (objectOf a < 0xC00)
  let value := if isHole ∧ elementOf a = 0 then (if inRange a v then fin.holeValue a v else .outOfRange) else mid.audioValue a v
  let bound := if isHole ∧ elementOf a = 0 then (if fin.boundElsewhere d v.toNat then .wrongState else .ok) else mid.audioState a v
  (s.unitState a false, value, firstOf [if s.modeOk a then .ok else .wrongState, bound])

/-- The first status of a list that is not OK, with its index. -/
def firstRefused (l : List Status) : Option Refused := (l.zipIdx.find? (fun e => e.1 ≠ .ok)).map (fun e => (e.1, e.2))

/-- The first direct write of a change, where its postmark may not be rounded up and is no multiple of B (R143). -/
def State.offBoundary (s : State) (w : List (Nat × Val)) (mark : Option Nat) (exact : Bool) : Option Refused :=
  match mark with
  | none => none
  | some n => if s.roundsRun ∧ exact ∧ n % s.roundB ≠ 0 then (w.findIdx? (fun x => isDirect x.1)).map (fun i => (.outOfRange, i)) else none

/-- The first check of a change that fails, in the order of R275 over the whole change, with the write that fails it. -/
def State.wholeStatus (s : State) (w : List (Nat × Val)) (mark : Option Nat) (exact : Bool) : Option Refused :=
  let base := s.ahead
  let fin := w.foldl (fun k e => k.setV e.1 e.2) base
  let l := (w.foldl (fun (acc : State × List (Status × Status × Status)) e =>
    (acc.1.setV e.1 e.2, acc.2 ++ [s.partChecks acc.1 fin e.1 e.2])) (base, [])).2
  (((firstRefused (l.map (·.1))).orElse (fun _ => firstRefused (l.map (·.2.1)))).orElse (fun _ => s.offBoundary w mark exact)).orElse
    (fun _ => firstRefused (l.map (·.2.2)))

/-- The status of a change at its commit point (R148). -/
def State.commitStatus (s : State) (c : Change) : Status :=
  let audio := c.writes.filter (fun w => inSceneAreas w.addr)
  let other := c.writes.filter (fun w => !inSceneAreas w.addr)
  match s.wholeStatus (audio.map (fun w => (w.addr, w.val))) none false with
  | some r => r.1
  | none => firstOf (other.map (fun w => firstOf [s.unitState w.addr false, if s.modeOk w.addr then .ok else .wrongState,
      s.pscStateOk w.addr w.val]))

/-! ### Events of a change (R144 to R148) -/

def State.change (s : State) (id : Nat) : Option Change := s.disp.changes.find? (fun c => c.id = id)

/-- PENDING_ARM: at the first round boundary at which it qualifies a change is armed (R145). -/
def State.pendingArm (s : State) (id : Nat) : State :=
  match s.change id with
  | none => s
  | some c => if s.roundsRun ∧ s.mayArm c then s.arm c else s

/-- COMMIT_POINT: at pulse k_e − 1 the checks that depend on state are repeated (R146, R148). A change that is not armed
yet is armed first (R145). -/
def State.commitPoint (s : State) (id : Nat) : State :=
  match s.change id with
  | none => s
  | some c =>
    if c.pending = false ∨ s.roundsRun = false ∨ s.roundIssued + 1 < c.eff / s.roundB then s
    else
      let st := s.commitStatus c
      if st ≠ .ok then s.withdraw c 2 st
      else
        let s1 := if c.slot.isSome ∧ c.armed = false then s.arm c else s
        let d := { c with armed := c.slot.isSome, committed := true }
        let s2 : State := { s1 with disp := { s1.disp with changes := s1.disp.changes.map (fun x => if x.id = c.id then d else x) } }
        (s2.showSlot d).showDisp

/-- The values that a READ still delivers once a change applies ahead of its sample (R86, R129). -/
def State.keepEarly (s : State) (c : Change) : State :=
  if s.roundsRun = false ∨ c.eff ≤ s.sampleNow then s
  else { s with disp := { s.disp with
    early := s.disp.early ++ (c.writes.filter (fun w => isXp w.addr || isStrip w.addr)).map (fun w => (w.addr, c.eff, s.val w.addr)) } }

/-- The value of a crosspoint or strip element that a READ delivers: the target of the latest change whose effective
sample has passed (R86, R129). -/
def State.passedVal (s : State) (a : Nat) : Val :=
  match s.disp.early.find? (fun e => e.1 = a ∧ s.sampleNow < e.2.1) with
  | some e => e.2.2
  | none =>
    (((s.disp.inOrder.filter (fun c => decide (c.eff ≤ s.sampleNow))).flatMap (·.writes)).filter (fun w => w.addr = a)).getLast?.elim
      (s.val a) (·.val)

/-- Whether a write goes to a strip whose job is shed in the round being computed (R55). -/
def State.shedWrite (s : State) (w : CWrite) : Bool :=
  s.rounds.shedding && isStrip w.addr && (match s.stripJob (stripBus w.addr) (objectOf w.addr) with
    | none => false
    | some e => e.2.2.2.deferrable && s.clusterRuns e.1 s.workRound)

/-- The writes of a change to shed jobs wait, in their order, for the first sample of the next round (R55). -/
def State.laterWrites (s : State) (c : Change) : State :=
  let w := c.writes.filter s.shedWrite
  if w = [] then s
  else
    let d : Change := { c with
      kind := .write, eff := s.firstSample (s.workRound + 1), writes := w, slot := none, envelope := none, scene := none, committed := true }
    { s with disp := { s.disp with changes := s.disp.changes ++ [d] } }

/-- A change takes effect on its sample: its writes apply in order, those to shed jobs later. -/
def State.takeChange (s : State) (c : Change) : State :=
  let s1 := (((s.keepEarly c).dropChange c).discardStaged c.id).laterWrites c
  let s2 := if c.told then s1 else s1.touchAll (c.writes.map (·.addr)) c.eff
  (c.writes.filter (fun w => !s.shedWrite w)).foldl (fun k w => k.takeWrite w (s.onLine s.workRound c.eff)) s2

/-- CHANGE_APPLY: a change whose sample lies in the round being computed takes effect, the earliest accepted first
(R144). Activations take effect under IMAGE_TAKE_EFFECT. -/
def State.changeApply (s : State) (id : Nat) : State :=
  match s.change id, s.rounds.current with
  | some c, some k =>
    if c.kind = .activate ∨ c.committed = false ∨ s.changeDue k c = false ∨ s.rounds.phase ≠ 0 ∨
        s.disp.changes.any (fun x => x.kind != .activate && x.committed && s.changeDue k x && x.before c) then s
    else s.takeChange c
  | _, _ => s

/-- Every accepted change that is not work in flight takes effect at once, as a value, in order (R603). -/
def State.takeAccepted (s : State) : State :=
  let s1 := ((s.disp.changes.filter (·.committed)).foldl (fun l c => insChange c l) []).foldl (fun k c => k.takeChange c) s
  { s1 with disp := { s1.disp with early := [] } }

/-- Insert a change by its postmark; equal postmarks keep the order of acceptance. -/
def insByMark (c : Change) : List Change → List Change
  | [] => [c]
  | x :: l => if c.mark.getD c.eff < x.mark.getD x.eff then c :: x :: l else x :: insByMark c l

/-- Changes whose range the timeline jumps over (R68): with the exact flag dropped with reason 4, else moved to the first
sample of the first round after the boundary, where they apply in the order of their postmarks, with the ramp descriptors
reserved for them. A write without a postmark moves likewise (log entry 88). -/
def State.jumpChanges (s : State) (lo hi first : Nat) : State :=
  let jumped := s.disp.changes.filter (fun c => decide (lo ≤ c.eff) && decide (c.eff < hi))
  let s1 := (jumped.filter (fun c => bitOf c.flags 0)).foldl (fun k c => k.withdraw c 4 .past) s
  let moved := jumped.filter (fun c => !bitOf c.flags 0)
  let orders := moved.map (·.order)
  (moved.foldl (fun l c => insByMark c l) []).zipIdx.foldl (fun (k : State) e =>
    let d : Change := { e.1 with eff := first, order := orders.getD e.2 e.1.order }
    ({ k with disp := { k.disp with changes := k.disp.changes.map (fun x => if x.id = d.id then d else x) } } : State).showSlot d)
    { s1 with mix := { s1.mix with resv := s1.mix.resv.map (fun r => if !r.begun && decide (lo ≤ r.start) && decide (r.start < hi) then { r with start := first } else r) } }

/-! ### Cancelling (R146) -/

/-- The pending change in a slot. -/
def State.inSlot (s : State) (i : Nat) : Option Change := s.disp.changes.find? (fun c => c.slot = some i)

/-- What the state allows of a write of 1 to `pend_cancel`: a slot without a pending change, or past its commit point, is
refused. -/
def State.cancelStatus (s : State) (i : Nat) : Status := match s.inSlot i with
  | none => .wrongState
  | some c => if c.committed then .wrongState else .ok
def State.cancelSlot (s : State) (i : Nat) : State := match s.inSlot i with
  | none => s
  | some c => if c.committed then s else s.withdraw c 0 .ok

/-! ### Recalls (R139, R153) -/

/-- A time override: 0xFFFF for none, 0, or 32 to 4,096 samples. -/
def overrideOk (n : Nat) : Bool := n == 0xFFFF || n == 0 || (decide (32 ≤ n) && decide (n ≤ 4096))

/-- Writes that apply at once, in CONFIGURE and SERVICE (R139, R262). -/
def State.takeNow (s : State) (w : List CWrite) : State := w.foldl (fun k x => (k.touch x.addr 0).takeWrite x k.reported) s

/-- RECALL of a scene: slot and effective sample, or the refusal (R153). -/
def State.recallScene (s : State) (who : Who) (n ovr : Nat) (mark : Option Nat) (exact : Bool) : Except Status (Nat × Nat) × State :=
  let b := (s.val (El.sceneData n)).toBytes
  if 4096 ≤ n then (.error .outOfRange, s)
  else if b = [] then (.error .noObject, s)
  else if overrideOk ovr = false then (.error .outOfRange, s)
  else
    let ws := sceneWrites b
    match s.wholeStatus ws mark exact with
    | some r => (.error r.1, s)
    | none =>
      let w := s.shapeAll (if ovr = 0xFFFF then none else some ovr) ws
      if s.roundsRun = false then
        (if mark.isSome then (.error .wrongState, s) else (.ok (0xFF, s.reported), s.takeNow w))
      else
        let r := s.acceptSlot .recall who w mark exact (some n) none
        (match r.1 with
          | .error e => .error e.1
          | .ok x => .ok x, r.2)

/-! ### Envelopes (R154 to R156) -/

/-- An envelope by its number, if it is held. -/
def State.env (s : State) (e : Nat) : Option Env := Tab.get none s.disp.envs e
def State.setEnv (s : State) (e : Nat) (x : Option Env) : State :=
  ({ s with disp := { s.disp with envs := Tab.put none s.disp.envs e x } } : State).showDisp

/-- Open envelopes, of a source and in all. -/
def State.openEnvs (s : State) : List (Nat × Env) :=
  s.disp.envs.filterMap (fun e => match e.2 with
    | none => none
    | some x => if x.sealed then none else some (e.1, x))

/-- `sess_envelopes` of a session. -/
def State.showEnvs (s : State) (src : Src) : State :=
  match src with
  | .session n => s.setN (El.sessEnvelopes (n - 1)) (s.openEnvs.filter (fun e => e.2.owner = src)).length
  | _ => s

/-- The next envelope number: rising modulo 256, held numbers skipped. -/
def State.nextEnvNum (s : State) : Option Nat :=
  ((List.range 256).map (fun i => (s.disp.nextEnv + i) % 256)).find? (fun n => (s.env n).isNone)

/-- ENVELOPE_OPEN. -/
def State.openEnvelope (s : State) (src : Src) : Except Status Nat × State :=
  match s.nextEnvNum with
  | none => (.error .busy, s)
  | some n =>
    if 16 ≤ s.openEnvs.length ∨ 4 ≤ (s.openEnvs.filter (fun e => e.2.owner = src)).length then (.error .busy, s)
    else
      let s1 : State := { s with disp := { s.disp with nextEnv := (n + 1) % 256 } }
      (.ok n, (s1.setEnv n (some ⟨false, src, [], s.time.tick⟩)).showEnvs src)

/-- Whether an operation of a source may touch an envelope: it is held, and the source's own. -/
def State.envStatus (s : State) (src : Src) (e : Nat) : Status := match s.env e with
  | none => .discarded
  | some x => if x.owner = src then .ok else .denied

/-- A WRITE that names an open envelope adds one write (R154). -/
def State.addToEnvelope (s : State) (e : Nat) (a : Nat) (v : Val) : Status × State :=
  match s.env e with
  | none => (.discarded, s)
  | some x =>
    if x.sealed then (.wrongState, s)
    else if 65536 ≤ x.writes.length then (.full, s)
    else (.ok, s.setEnv e (some { x with writes := x.writes ++ [⟨a, v, 0, 0⟩], last := s.time.tick }))

/-- ENVELOPE_SEAL: slot and effective sample; on a refusal the envelope is discarded, and the status carries the index of
the write that caused it (R155). -/
def State.sealEnvelope (s : State) (who : Who) (e : Nat) (mark : Option Nat) (exact : Bool) : Except Refused (Nat × Nat) × State :=
  match s.env e with
  | none => (.error (.discarded, 0xFFFF), s)
  | some x =>
    let ws := x.writes.map (fun w => (w.addr, w.val))
    let gone (k : State) : State := (k.setEnv e none).showEnvs x.owner
    match s.wholeStatus ws mark exact with
    | some r => (.error r, gone s)
    | none =>
      let w := s.shapeAll none ws
      if s.roundsRun = false then
        (if mark.isSome then (.error (.wrongState, 0xFFFF), gone s) else (.ok (0xFF, s.reported), gone (s.takeNow w)))
      else
        let r := s.acceptSlot .envelope who w mark exact none (some e)
        match r.1 with
        | .error z => (.error z, gone r.2)
        | .ok z => (.ok z, (r.2.setEnv e (some { x with sealed := true })).showEnvs x.owner)

/-- ENVELOPE_DROP: an open envelope is removed; a sealed one is cancelled under R146. -/
def State.dropEnvelope (s : State) (e : Nat) : Status × State :=
  match s.env e with
  | none => (.discarded, s)
  | some x =>
    if x.sealed = false then (.ok, (s.setEnv e none).showEnvs x.owner)
    else match s.disp.changes.find? (fun c => c.envelope = some e) with
      | none => (.discarded, s)
      | some c => if c.committed then (.wrongState, s) else (.ok, s.withdraw c 0 .ok)

/-- An open envelope is discarded with a cause of R156. -/
def State.discardEnvelope (s : State) (e cause : Nat) : State :=
  match s.env e with
  | none => s
  | some x =>
    if x.sealed then s
    else
      let owner := match x.owner with
        | .session n => n
        | _ => 0
      let s1 := (((s.setEnv e none).showEnvs x.owner).inc El.envDiscarded).post nEnvelopeDiscarded El.envOpen [e, owner, cause]
      if s.subList.any (fun q => q.2.owner == owner && q.2.kind == 2 && bitOf q.2.areas 0x1C) then s1
      else match s1.bop.log.getLast? with
        | none => s1
        | some n => s1.notify owner (notifyRec 0 0 ([1] ++ encodeNotice n))
def State.discardEnvelopes (s : State) (cause : Nat) : State := s.openEnvs.foldl (fun k e => k.discardEnvelope e.1 cause) s

/-- ENVELOPE_TIMEOUT: 10 s without a write (R156). -/
def State.envelopeTimeout (s : State) (e : Nat) : State :=
  match s.env e with
  | none => s
  | some x => if x.sealed = false ∧ x.last + 10000000000 ≤ s.time.tick then s.discardEnvelope e 5 else s

/-! ### Scenes stored (R152, R160) -/

/-- What the state allows of a store to a scene. -/
def State.sceneStateOk (s : State) (n : Nat) : Status := if s.nat (El.sceneState n) = 2 then .wrongState else .ok

/-- A write in area 1C applies (R146, R152, R158 to R160). -/
def State.applyDisp (s : State) (a : Nat) (v : Val) : State :=
  let o := objectOf a
  if 0x100 ≤ o ∧ o < 0x200 then (if v.toNat = 1 then s.cancelSlot (o - 0x100) else s) else s.applyStore a v

end Sys2Proof.Machine
end

