-- ==== Sys2Proof/Machine/Reply.lean ====
section
/-! DEFINITION. Answers of the protocol engine, the end of sessions, and what the engine does whenever rounds stop: the
mode as it shows, work in flight discarded, accepted changes taken as values, entry to FAULT and resets (R150, R156,
R266 to R271, R285, R532 to R540, R603). -/

namespace Sys2Proof.Machine

/-! ### Answers (R266 to R271) -/

/-- A message-level status (R270). -/
def statusRec (st : Status) : Rec := ⟨0, 0, 0, 0, st.code, 0, []⟩

/-- A response record: the request's head with the status, the type of the value carried, and a body (R259, R260). -/
def answerRec (r : Rec) (typ : Nat) (st : Status) (body : List Byte) : Rec := { r with typ := typ, status := st.code, body := body }

/-- Bytes of a message that carries records (R257, R259). -/
def messageBytes (recs : List Rec) : Nat := 32 + (recs.map (fun r => 12 + r.body.length)).sum

/-- The engine never sends a message longer than `bop_max_msg` (R253): an answer that would be is a message-level
OUT_OF_RANGE (log entry 41). -/
def State.fitAnswer (s : State) (recs : List Rec) : List Rec :=
  if s.nat El.bopMaxMsg < messageBytes recs then [statusRec .outOfRange] else recs

/-- An answer in the numbering of its source: a session, or a group (R269, R271). Answers to requests executed are
kept for repeats; `keep` is the `seq` they answer. -/
def State.answer (s : State) (src : Src) (port host : Nat) (keep : Option Nat) (recs : List Rec) : State :=
  let en := s.nat El.engineNumber
  match src with
  | .session n =>
    match s.session n with
    | none => s
    | some x =>
      let out := nextSeq x.outSeq
      let msg := tagged (s.key x.slot) x.salt (messageBody 1 n en out (s.fitAnswer recs))
      let cache := match keep with
        | none => x.cache
        | some q => ((q, msg) :: x.cache).take 16
      (s.setSession n (some { x with outSeq := out, cache := cache })).sendBop port host 1 msg
  | .group g =>
    let x := s.groupSeq g
    let out := nextSeq x.outSeq
    let msg := tagged (s.key (s.nat (El.grpSlot g))) zeroSalt (messageBody 3 g en out (s.fitAnswer recs))
    let cache := match keep with
      | none => x.cache
      | some q => ((q, msg) :: x.cache).take 16
    (s.setGroupSeq g { x with outSeq := out, cache := cache }).sendBop port host 1 msg
  | _ => s

/-- The answer to a request that was executed. -/
def State.respond (s : State) (q : Request) : State := s.answer q.src q.port q.host (some q.seq) q.done

/-! ### The end of a session (R267) -/

/-- The subscriptions of a session that remain. -/
def State.dropSubs (s : State) (n : Nat) : State :=
  { s with bop := { s.bop with subs := s.bop.subs.filter (fun e => match e.2 with
    | none => false
    | some x => x.owner ≠ n) } }

/-- `key_sessions` of a slot. -/
def State.showSlotSessions (s : State) (slot : Nat) : State :=
  s.setN (El.keySessions slot) ((s.bop.sessions.filter (fun e => match e.2 with
    | none => false
    | some x => x.slot == slot)).length)

/-- The session objects of a session, as they stand (R287). -/
def State.showSession (s : State) (n : Nat) : State :=
  match s.session n with
  | none => s.setAll [El.sessState (n - 1), El.sessSlot (n - 1), El.sessPort (n - 1), El.sessSeq (n - 1), El.sessSubs (n - 1),
      El.sessEnvelopes (n - 1)] 0
  | some x =>
    ((((s.setN (El.sessState (n - 1)) 1).setN (El.sessSlot (n - 1)) x.slot).setN (El.sessPort (n - 1)) x.port).setN
      (El.sessSeq (n - 1)) x.hi).setN (El.sessSubs (n - 1)) (s.subList.filter (fun e => e.2.owner = n)).length

/-- A session ends: its envelopes are discarded, its subscriptions, assembly and cached answers go, and requests of
its own that wait are not executed (R156, R267). -/
def State.endSession (s : State) (n : Nat) : State :=
  match s.session n with
  | none => s
  | some x =>
    let s1 := (s.openEnvs.filter (fun e => e.2.owner = .session n)).foldl (fun k e => k.discardEnvelope e.1 4) s
    let s2 := (s1.dropSubs n).setSession n none
    let s3 : State := { s2 with bop := { s2.bop with
      asms := s2.bop.asms.filter (fun a => a.owner ≠ .session n)
      queue := s2.bop.queue.filter (fun q => q.src ≠ .session n)
      tagFailAt := Tab.put 0 s2.bop.tagFailAt n 0 } }
    (s3.showSession n).showSlotSessions x.slot

/-- The sessions that are open. -/
def State.sessionNums (s : State) : List Nat := s.bop.sessions.filterMap (fun e => e.2.map (fun _ => e.1))

/-- Every session ends. -/
def State.endSessions (s : State) : State := s.sessionNums.foldl (fun k n => k.endSession n) s

/-- A write to its slot ends every session of the slot (R265). -/
def State.endSlot (s : State) (slot : Nat) : State :=
  (s.sessionNums.filter (fun n => (s.session n).map (·.slot) = some slot)).foldl (fun k n => k.endSession n) s

/-! ### The mode (R532, R562) -/

/-- `tx_state` of every stream that is enabled (R362). -/
def State.showAllTx (s : State) : State := s.txOn.foldl (fun k j => k.showTx j) s

/-- What follows the mode: streams, pulse outputs, and the quality byte (R362, R373, R415). -/
def State.showMode (s : State) : State := (s.showAllTx.showPulses).showQuality

/-- The mode becomes m (R562). -/
def State.setMode (s : State) (m : Nat) : State :=
  if s.mode = m then s
  else
    let s1 := (s.setN El.modePrev s.mode).setN El.mode m
    ({ s1 with time := { s1.time with modeSince := s1.time.tick } } : State).showMode.followPins

/-- Serial ports and power stage channels after a change of what the engine drives or follows (R300, R526, R527): channels
newly followed start, those no longer followed are held, the others show their state. -/
def State.followPsc (old s : State) (recovery : Bool) : State :=
  let s := s.followPins
  if s.drives ∧ old.drives = false ∧ old.followsPsc = false then s.startAllPsc recovery
  else if s.followsPsc ∧ old.followsPsc = false then s.startAllPsc recovery
  else if s.followsPsc = false ∧ old.followsPsc then s.holdPsc
  else s.showAllPsc

/-! ### Rounds stop (R539, R553, R603) -/

/-- Running state of the round that is dropped: trays, passes, playout. -/
def Rounds.stopped (r : Rounds) : Rounds :=
  { r with
    waiting := [], current := none, phase := 0, doneAt := [], late := false, shedding := false, episode := 0, episodeMax := 0
    passes := 0, repeats := [], inTrays := [], outTrays := [], live := [], liveAt := [], liveNow := none, liveBefore := none, pulseAt := []
    step := none, spans := [], fill := 0, fillWith := []
    xfade := ⟨0, []⟩, last := none, playing := none, prev := none }

/-- Signals, accumulators and received sums of a round that is dropped. -/
def Mix.stopped (m : Mix) : Mix :=
  { m with sig := [], sigPrev := [], acc := [], addedA := [], addedB := [], out := [], outPrev := [], clipped := [], reduced := [], own := [], inSums := [], outSums := [], sumGone := [] }

/-- A core whose round is dropped. -/
def Core.dropRound (k : Core) : Core := { k with run := none, ended := [], ready := [], handed := [], overflowed := [], used := [] }

/-- Clusters and cores whose round is dropped; audits end. -/
def Dsp.stopped (d : Dsp) : Dsp :=
  { clusters := d.clusters.map (fun e => (e.1, { e.2.auditOver with dma := [] }))
    cores := d.cores.map (fun e => (e.1, e.2.dropRound)) }

/-- The clusters whose loader runs take up their images now (R237, R603). -/
def State.finishLoads (s : State) : State :=
  (List.range s.variant.clusters).foldl (fun k c => if (k.cluster c).loading then k.finishLoad c else k) s

/-- `running` of every strip reads 0 (R128). -/
def State.restStrips (s : State) : State :=
  let s : State := { s with strips := (s.strips.map (fun e => (e.1, { e.2 with ran := false }))).filter (fun e => e.2 ≠ StripRun.fresh) }
  (List.range s.variant.buses).foldl (fun (k : State) n => k.setN (El.stStatus true n) (k.nat (El.stStatus true n) / 2 * 2))
    ((List.range s.variant.strips).foldl (fun (k : State) n => k.setN (El.stStatus false n) (k.nat (El.stStatus false n) / 2 * 2)) s)

/-- Pending changes past their commit point and unpostmarked writes are taken as values, and every ramp and morph ends at
its target (R603); slots that this frees are free at once. -/
def State.settleChanges (s : State) : State := (((s.takeAccepted).endAllXp).endStripMoves).freeSlots

/-- The engine stops computing rounds. With `keepTime` the timeline stays (R553, R554). -/
def State.stopRounds (s : State) (keepTime : Bool) : State :=
  if s.anchored = false then s
  else
    let s1 := if keepTime then s else s.setN El.anchorState 0
    let s2 : State := { s1 with
      rounds := { s1.rounds.stopped with pulseAt := if keepTime then s1.rounds.pulseAt else [], step := if keepTime then s1.rounds.step else none }
      mix := s1.mix.stopped
      dsp := s1.dsp.stopped
      sys := if keepTime then { s1.sys with actStep := 2 } else s1.sys }
    (s2.finishLoads.settleChanges).restStrips

/-! ### Work in flight (R150, R156, R285) -/

/-- Whether answers can leave on the port that `sess_port` codes. -/
def State.portRuns (s : State) (port : Nat) : Bool :=
  if 4 ≤ port then s.linkOn (port - 4) else s.netUp (if port = 0 then 2 else port - 1)

/-- The mark of a record whose answer is still to come from the ACTIVE. -/
def waiting (r : Rec) : Rec := { r with status := 0xFF, body := [] }
def isWaiting (r : Rec) : Bool := r.status == 0xFF

/-- A record that was not executed is answered with WRONG_STATE. -/
def refused (r : Rec) : Rec := answerRec r r.typ .wrongState []

/-- A forwarded record that no queued request holds is answered with WRONG_STATE, on the SPI too. -/
def State.refuseForwarded (s : State) (e : Nat × Who × Rec) : State :=
  if s.bop.queue.any (fun q => q.done.any (fun x => x == waiting e.2.2)) then s
  else match e.2.1.src with
    | .session n => match s.session n with
      | none => s
      | some x => if s.portRuns x.port then s.answer e.2.1.src x.port x.host none [refused e.2.2] else s
    | .group g => s.answer (.group g) 0 0 none [refused e.2.2]
    | .spi => { s with bop := { s.bop with spi := (Status.wrongState.code, []) } }
    | .peer _ _ => s

/-- Requests received and not yet executed are answered with WRONG_STATE, if their port still runs; so are records that wait
for an ACTIVE (R285). -/
def State.refuseQueue (s : State) : State :=
  let s0 := s.bop.forwarded.foldl (fun k e => k.refuseForwarded e) s
  let s1 := s0.bop.queue.foldl (fun (k : State) q =>
    if k.portRuns q.port then
      k.respond { q with todo := [], done := q.done.map (fun r => if isWaiting r then refused r else r) ++ q.todo.map refused }
    else k) s0
  { s1 with bop := { s1.bop with queue := [], forwarded := [] } }

/-- A change of mode that is no takeover discards open envelopes and pending changes (R150, R156). -/
def State.discardShow (s : State) (cause : Nat) : State := ((s.discardEnvelopes cause).discardPending).freeSlots

/-- Every item of work in flight is discarded whole (R285). -/
def State.discardWork (s : State) (cause : Nat) : State :=
  let s1 := s.discardShow cause
  ({ s1 with bop := { s1.bop with asms := [] } } : State).refuseQueue

/-! ### Measured readings (R563) -/

/-- Die temperature and power as they are measured now: open readings (log entry 3), whose largest values are kept. -/
def State.measure (s : State) : State :=
  let w1 := s.fresh
  let w2 := w1.2.fresh
  let t := signed 32 w1.1
  let s1 := (w2.2.setI El.dieTemp t).setN El.pwrEst (w2.1 % 2 ^ 32)
  let s2 := if s1.int El.dieTempMax < t then s1.setI El.dieTempMax t else s1
  s2.raise El.pwrEstMax (w2.1 % 2 ^ 32)

/-! ### FAULT (R537, R538) -/

/-- `fault_record` (R537). -/
def faultBytes (cause mode round : Nat) (temp : Int) (words : List Nat) : List Byte :=
  leBytes 1 cause ++ leBytes 1 mode ++ leBytes 2 0 ++ leBytes 8 round ++ leBytes 4 (wrap 32 temp) ++
    ((words ++ List.replicate 11 0).take 11).flatMap (leBytes 4) ++ leBytes 4 0

/-- The engine enters FAULT with a cause and parameter words: rounds stop, outputs, power stages and the claim are
released, and work in flight is discarded (R537, R538). -/
def State.enterFault (s : State) (cause : Nat) (words : List Nat) : State :=
  if s.mode < 5 ∨ 10 < s.mode then s
  else
    let was := s.mode
    let round := if s.anchored then roundIdx s.workRound else 0
    let s1 := s.stopRounds false
    let s2 : State := { s1 with
      twin := { s1.twin with driving := false, resyncStep := 0 }
      sys := { s1.sys with faultSince := s.time.tick, actStep := 0 } }
    let s3 := (s2.setMode 11).setN El.twRole 0
    let s4 := s.followPsc s3 false
    let s5 := s4.measure
    ((s5.setN El.faultCause cause).setB El.faultRecord (faultBytes cause was round (s5.int El.dieTemp) words)).discardWork 0

/-! ### Resets (R536, R546) -/

/-- The elements of the key slots, which survive a reset (R265). -/
def isKeyElem (a : Nat) : Bool :=
  areaOf a == 0x02 && decide (0x100 ≤ objectOf a) && decide (objectOf a < 0x120) && (elementOf a == 0 || elementOf a == 2)

/-- What a reset leaves: every domain but AO powers down and BOOT runs; what the flash, the key unit and the OTP hold stays
(R265, R536, R546). -/
def State.afterReset (s : State) (cause : Nat) : State :=
  let r := State.reset
  let keep : Tab Val := s.regs.filter (fun e => isKeyElem e.1)
  let s1 : State := { r with
    variant := s.variant
    regs := keep
    bop := { r.bop with keys := s.bop.keys }
    mem := { r.mem with devices := s.mem.devices }
    flash := s.flash
    sys := { r.sys with rails := s.sys.rails, flashReset := r.time.tick + 10000 }
    free := s.free
    pending := s.pending }
  ((s1.setN El.resetCause cause).setN El.modePrev s.mode)

/-- A reset takes the flash with it (R585): a save of the settings that may not have ended leaves its copy valid or not (R544, R556;
log entry 3). -/
def State.cutSave (s : State) : State :=
  match s.sys.saveAt, s.flash.settings with
  | some t, c :: l =>
    if s.time.tick < t + 200000000 then
      let w := s.fresh
      { w.2 with flash := { s.flash with settings := { c with valid := decide (w.1 % 2 = 1) } :: l } }
    else s
  | _, _ => s

/-- The engine is reset with a cause: open envelopes and pending changes are discarded with their notices (R150, R156, R285),
and the event log is cleared with the rest (R546). -/
def State.resetEngine (s : State) (cause : Nat) : State := ((s.discardShow 1).cutSave).afterReset cause

end Sys2Proof.Machine
end

