-- ==== Sys2Proof/Machine/Penalty.lean ====
section
/-! DEFINITION. The claim number of a twin engine: rank, health under its penalties, and tie (R486, R487). -/

namespace Sys2Proof.Machine

/-- The conditions of R487 that the objects show. -/
def State.penaltyNow (s : State) (b : Nat) : Bool :=
  if b = 2 then decide (s.nat El.timeState ≠ 2)
  else if b = 3 then s.pscList.any (fun n => decide ((s.pscCh n).shut ≠ 0))
  else if b = 4 then (List.range s.variant.clusters).any (fun c => decide (2 ≤ s.nat (El.clReliefState c)))
  else false

/-- The conditions that last are noted again. -/
def State.notePenalties (s : State) : State := ([2, 3, 4].filter s.penaltyNow).foldl (fun k b => k.notePenalty b) s

/-- PENALTY_EXPIRY: a penalty goes 10 s after its condition last held (R487). -/
def State.penaltyExpiry (s : State) (b : Nat) : State :=
  let at_ := Tab.get 0 s.twin.penaltyAt b
  if 5 ≤ b ∨ at_ = 0 ∨ s.time.tick + 1 < at_ + 10000000000 then s
  else if s.penaltyNow b then s.notePenalty b
  else ({ s with twin := { s.twin with penaltyAt := Tab.put 0 s.twin.penaltyAt b 0 } } : State).showHealth

end Sys2Proof.Machine
end

