-- ==== Sys2Proof/Machine/Fabric.lean ====
section
/-! DEFINITION. What the DRAM controllers, the memory tests and the control crossbar do on their own (R445 to R468). -/

namespace Sys2Proof.Machine

/-! ### Requests and their order (R445 to R447) -/

/-- The age at which a class is promoted, ns; Express never is. -/
def classLimit : DramClass → Option Nat
  | .express => none | .first => some 2000 | .second => some 8000 | .bulk => some 50000

/-- Bytes that a request touches. -/
def reqBytes (q : DramReq) : Nat := match q.write with
  | none => q.len
  | some b => b.length

/-- The rank of a held request: promoted ones count as Express. -/
def HeldReq.rank (h : HeldReq) : Nat := if h.promoted then 0 else classRank h.req.cls

/-- Whether two requests touch a common byte. -/
def HeldReq.meets (a b : HeldReq) : Bool := overlap a.req.addr (reqBytes a.req) b.req.addr (reqBytes b.req)

/-- The rank that each of a list of requests, oldest first, has with what younger ones that wait behind it lend (R447). -/
def lentRanks : List HeldReq → List (HeldReq × Nat)
  | [] => []
  | h :: l =>
    let t := lentRanks l
    (h, (t.filter (fun e => h.meets e.1)).foldl (fun m e => min m e.2) h.rank) :: t

/-- The requests that wait behind no older one to the same bytes. -/
def readyReqs : List HeldReq → List (HeldReq × Nat) → List (HeldReq × Nat)
  | _, [] => []
  | older, e :: l => if older.any (fun o => o.meets e.1) then readyReqs (e.1 :: older) l else e :: readyReqs (e.1 :: older) l

/-- The request that a controller serves next (R446): rank, open row, age. -/
def nextReq (l : List HeldReq) : Option HeldReq :=
  let r := readyReqs [] (lentRanks l)
  let best := r.foldl (fun m e => min m e.2) 4
  let top := r.filter (fun e => e.2 = best)
  ((top.find? (fun e => e.1.req.hit)).orElse (fun _ => top.head?)).map (·.1)

/-! ### Answers (R453 to R455) -/

/-- The last answer of a controller. -/
def State.setDramOut (s : State) (b : List Byte) (failed : Bool) : State := { s with mem := { s.mem with dramOut := (b, failed) } }

/-- A Second or Bulk read failed: an armed change whose arming it served is withdrawn with reason 2 (R454). -/
def State.failArming (s : State) (id : Option Nat) : State :=
  match id with
  | none => s
  | some i => match s.change i with
    | none => s
    | some c => if c.pending then s.withdraw c 2 .ok else s

/-- A request is served at a channel (R453, R454). -/
def State.serveReq (s : State) (ch off : Nat) (q : DramReq) : State :=
  let row := Config.rowOf ch off
  let s := if q.write.isNone then s.noteFlow ch q.cls q.len else s
  let x := s.chan ch
  match q.write with
  | some b =>
    let s1 := if q.ecc = 1 then s.correctedError ch row else if q.ecc = 2 then s.lostBlock ch row (some q.addr) else s
    let y := s1.chan ch
    let whole (e : Nat × Nat) : Bool := decide (q.addr ≤ e.1) && decide (e.1 + 64 ≤ q.addr + b.length)
    (((s1.setChan ch { y with bad := y.bad.filter (fun e => !whole e) }).noteFlow ch q.cls b.length).dramWrite q.addr b).setDramOut [] false
  | none =>
    if q.ecc = 2 ∨ x.lost q.addr q.len then
      let s1 := s.lostBlock ch row (some q.addr)
      if classRank q.cls ≤ 1 then s1.setDramOut (s1.dramReadZeroed (s1.chan ch) q.addr q.len) false
      else (s1.setDramOut [] true).failArming q.arms
    else
      let s1 := if q.ecc = 1 then s.correctedError ch row else s
      s1.setDramOut (s1.dramRead q.addr q.len) false

/-- The requests that a controller holds are served in the order of R446 and R447. -/
def State.serveHeld : Nat → State → Nat → State
  | 0, s, _ => s
  | n + 1, s, ch => match nextReq (s.chan ch).held with
    | none => s
    | some h =>
      let s1 := s.setChan ch { s.chan ch with held := (s.chan ch).held.filter (fun e => e.num ≠ h.num) }
      let off := match s.placeOf h.req.addr with
        | none => 0
        | some p => p.2
      (s1.serveReq ch off h.req).serveHeld n ch

/-- DRAM_REQUEST: the controller of the channel that holds the first byte takes a request; unless it must hold it, it
serves all that it holds. A byte that belongs to no channel reads 0 and takes no write (R441). -/
def State.dramRequest (s : State) (q : DramReq) : State :=
  match s.placeOf q.addr with
  | none => s.setDramOut (if q.write.isNone then List.replicate q.len 0 else []) false
  | some p =>
    if s.chanRuns p.1 = false then s
    else
      let x := s.chan p.1
      let s1 := ({ s with mem := { s.mem with nextReq := s.mem.nextReq + 1 } } : State).setChan p.1
        { x with held := x.held ++ [⟨s.mem.nextReq, s.time.tick, q, false⟩] }
      if q.wait then s1 else s1.serveHeld (x.held.length + 1) p.1

/-- PROMOTION: a held request older than its class's limit ranks with Express (R446). -/
def State.promote (s : State) (ch n : Nat) : State :=
  let x := s.chan ch
  let due (h : HeldReq) : Bool := h.num == n && !h.promoted && (match classLimit h.req.cls with
    | none => false
    | some t => decide (h.at_ + t < s.time.tick))
  if x.held.any due then
    (s.setChan ch { x with held := x.held.map (fun h => if due h then { h with promoted := true } else h) }).inc (El.dcPromoted ch)
  else s

/-- REFRESH of a bank (R449). -/
def State.refresh (s : State) (ch bank : Nat) : State :=
  if s.chanRuns ch = false then s
  else s.setChan ch { s.chan ch with refreshed := Tab.put 0 (s.chan ch).refreshed bank (Tab.get 0 (s.chan ch).refreshed bank + 1) }

/-- Whether the oscillators of a channel are to be read: `dram_retrain_ms` has passed, or the die temperature moved 5 °C (R450). -/
def State.readsDue (s : State) (ch : Nat) : Bool :=
  let x := s.chan ch
  decide (x.readAt + s.nat El.dramRetrainMs * 1000000 ≤ s.time.tick) || decide (50 ≤ (s.int El.dieTemp - x.readTemp).natAbs)

/-- RETRAIN: the oscillators are read where that is due, and a correction is applied in a moment at which the channel holds no Express
request (R450). -/
def State.retrain (s : State) (ch : Nat) : State :=
  let x := s.chan ch
  if s.chanRuns ch = false ∨ (x.toCorrect = false ∧ s.readsDue ch = false) then s
  else
    let y : Chan := if s.readsDue ch then { x with readAt := s.time.tick, readTemp := s.int El.dieTemp } else x
    if x.held.any (fun h => h.rank = 0) then s.setChan ch { y with toCorrect := true }
    else (s.setChan ch { y with toCorrect := false }).inc (El.dcRetrains ch)

/-- DRAM_ROW_RETIRED: channel, half, bank, row, stage (R455). -/
def State.postRow (s : State) (ch row stage : Nat) : State :=
  s.post nDramRowRetired (El.dcRedirects ch) [ch, row / 2 ^ 28 % 2, row / 2 ^ 20 % 2 ^ 8, row % 2 ^ 20, stage]

/-- A copied row is served from its entry, uncorrectable blocks as zero (R455). -/
def State.serveEntry (s : State) (ch row : Nat) : State :=
  let x := s.chan ch
  let gone := x.bad.filter (fun e => e.2 = row)
  let s1 := gone.foldl (fun (k : State) e => k.dramWrite e.1 (List.replicate 64 0)) s
  let s2 := s1.setChan ch { x with
    copied := x.copied.filter (· ≠ row)
    entries := x.entries ++ [row]
    bad := x.bad.filter (fun e => e.2 ≠ row) }
  let s3 : State := { s2 with flash := { s2.flash with repair := .row ch row :: s2.flash.repair.filter (· ≠ .row ch row) } }
  (s3.showChan ch).postRow ch row 1

/-- ROW_REDIRECT: the copy of a queued row into a free entry is complete. From the next round boundary, or at once where no rounds run,
the entry serves the row (R455). -/
def State.redirectRow (s : State) (ch row : Nat) : State :=
  let x := s.chan ch
  if s.chanRuns ch = false ∨ x.waiting.contains row = false ∨ 8 ≤ x.copied.length + x.entries.length + x.forGood.length then s
  else
    let s1 := (s.setChan ch { x with waiting := x.waiting.filter (· ≠ row), copied := x.copied ++ [row] }).showChan ch
    if s.anchored then s1 else s1.serveEntry ch row

/-- At a round boundary the entries of copied rows begin to serve (R455). -/
def State.serveEntries (s : State) : State :=
  (List.range s.variant.dramChannels).foldl (fun (k : State) ch => (k.chan ch).copied.foldl (fun q row => q.serveEntry ch row) k) s

/-- The repair of a redirected row: done, or without a resource left it stays redirected for good (R455). -/
def State.repairRow (s : State) (ch row : Nat) (resource : Bool) : State :=
  let x := s.chan ch
  if x.entries.contains row = false then s
  else
    let s1 := s.setChan ch { x with
      entries := x.entries.filter (· ≠ row)
      forGood := if resource then x.forGood else x.forGood ++ [row] }
    let s2 : State := if resource then { s1 with flash := { s1.flash with repair := s1.flash.repair.filter (· ≠ .row ch row) } } else s1
    let s3 := if resource then s2.inc (El.dcRepaired ch) else s2
    (s3.showChan ch).postRow ch row (if resource then 2 else 3)

/-- POST_PACKAGE_REPAIR in the idle window of SERVICE (R455). Those of boot and of DORMANT run with them. -/
def State.packageRepair (s : State) (ch row : Nat) (resource : Bool) : State :=
  if s.chanRuns ch = false ∨ s.mode ≠ 10 then s else s.repairRow ch row resource

/-- The repairs that an idle window finds pending, each with an open outcome (log entry 3). -/
def State.repairPending (s : State) : State :=
  (List.range s.variant.dramChannels).foldl (fun (k : State) ch =>
    (k.chan ch).entries.foldl (fun q r => let w := q.fresh; w.2.repairRow ch r (decide (w.1 % 2 = 0))) k) s

/-- PATROL_SCRUB of the block of a byte of channel ch, named by its user area address where it has one: once per `dram_scrub_hours`, in
Bulk class (R454, R456). -/
def State.scrub (s : State) (ch addr ecc : Nat) : State :=
  let x := s.chan ch
  let last := Tab.get 0 x.scrubbed (addr / 64)
  if s.chanRuns ch = false ∨ (last ≠ 0 ∧ s.time.tick < last - 1 + s.nat El.dramScrubHours * 3600000000000) then s
  else
    let s1 := (s.setChan ch { x with scrubbed := Tab.put 0 x.scrubbed (addr / 64) (s.time.tick + 1) }).noteFlow ch .bulk 64
    let user : Option Nat := match s.placeOf addr with
      | none => none
      | some p => if p.1 = ch then some p.2 else none
    let row := Config.rowOf ch (user.getD addr)
    if ecc = 2 ∨ (user.isSome ∧ x.lost addr 1) then s1.lostBlock ch row (user.map (fun _ => addr))
    else if ecc = 1 then s1.correctedError ch row
    else s1

/-! ### Tests of the on-chip memories (R458 to R461) -/

/-- The core whose memories an SRAM block of a DSP island belongs to: blocks 4 j to 4 j + 3 are core j's (log entry 42). -/
def macroCore (island mem : Nat) : Option (Nat × Nat) :=
  if 2 ≤ island ∧ island < 10 ∧ mem < 36 then some (island - 2, mem / 4) else none

/-- Whether a core's memories are skipped: the relief core mirrors or audits that core (R199). -/
def State.testSkips (s : State) (island mem : Nat) : Bool :=
  match macroCore island mem with
  | none => false
  | some (c, j) => (s.cluster c).auditing && (j == 8 || (s.cluster c).auditCore == j)

/-- A fault that a test found: 1 in a row, 2 in a column (R460, R461). -/
def State.sramFault (s : State) (island mem region kind : Nat) : State :=
  let key := 65536 * island + mem
  let used := Tab.get (0, 0) s.mem.spares key
  let spare : Bool := if kind = 1 then decide (used.1 < 4) else decide (used.2 < 2)
  if spare then
    let now := if kind = 1 then (used.1 + 1, used.2) else (used.1, used.2 + 1)
    let s1 : State := { s with
      mem := { s.mem with spares := Tab.put (0, 0) s.mem.spares key now }
      flash := { s.flash with repair := .sram island mem region kind :: s.flash.repair } }
    (s1.inc El.bistRepairs).post nSramRepair El.bistRepairs [island, mem, region, kind]
  else
    let s1 := ((s.inc El.bistUnrepaired).post nSramRepair El.bistRepairs [island, mem, region, 3]).notePenalty 1
    match macroCore island mem with
    | none => s1
    | some (c, j) =>
      if j < 8 ∧ s1.nat (El.clReliefState c) = 0 then s1.setCluster c { s1.cluster c with forced := some j } else s1

/-- BIST_REGION: an island tests a region, one every `bist_period`. `fault` is what it finds: 0 nothing, 1 a faulty row, 2 a faulty column, 3 a
single-bit error that a read corrects, 4 an uncorrectable error (R458 to R461). -/
def State.bistRegion (s : State) (island mem region fault : Nat) : State :=
  let last := Tab.get 0 s.mem.bistAt island
  if s.on El.bistEnable = false ∨ s.domainUp island = false ∨ 20 ≤ island ∨ s.testSkips island mem ∨
      (last ≠ 0 ∧ s.time.tick < last - 1 + s.nat El.bistPeriod * 1000) then s
  else if fault = 4 then s.enterFault (if island = 1 then 4 else 3) [island, mem, region]
  else
    let s1 := ({ s with mem := { s.mem with bistAt := Tab.put 0 s.mem.bistAt island (s.time.tick + 1) } } : State).bump El.bistRegions 1 64
    if fault = 1 ∨ fault = 2 then s1.sramFault island mem region fault
    else if fault = 3 then s1.inc El.sramCe
    else s1

/-! ### The control crossbar (R462 to R468) -/

/-- What an address decodes to. -/
inductive Target where
  | rom (a : Nat) | sram (a : Nat) | xbarReg (a : Nat) | bridge | store (c a : Nat) | user (a : Nat) | none
deriving DecidableEq, Repr

/-- A byte of the boot ROM window: 256 KB, then the default target. -/
def romByte (a : Nat) : Target := if a < 0x40000 then .rom a else .none

/-- Bytes of the engine area (R440). -/
def State.engineSize (s : State) : Nat := s.variant.dramChannels * (s.chanBytes - s.userPart)

/-- The address map (R462). An absent or powered-down memory is no target, nor is a byte past the last map region (R441). -/
def State.target (s : State) (a : Nat) : Target :=
  if a < 0x800000 then (if s.mem.remap then .sram a else romByte a)
  else if 0x10000000 ≤ a ∧ a < 0x10800000 then (if s.mem.remap then romByte (a - 0x10000000) else .sram (a - 0x10000000))
  else if 0x20000000 ≤ a ∧ a < 0x20080000 then .sram a
  else if 0x40000000 ≤ a ∧ a < 0x40002000 then .xbarReg (a - 0x40000000)
  else if 0x40002000 ≤ a ∧ a < 0x50000000 then .bridge
  else if 0x80000000 ≤ a ∧ a < 0x82000000 then
    let c := (a - 0x80000000) / 0x400000
    if s.clusterUp c then .store c ((a - 0x80000000) % 0x400000) else .none
  else if 0x1000000000 ≤ a ∧ a < 0x1000000000 + s.userSize then
    (match s.placeOf (a - 0x1000000000) with
      | none => .none
      | some p => if s.domainUp (dramDomain p.1) then .user (a - 0x1000000000) else .none)
  else if 0x2000000000 ≤ a ∧ a < 0x2000000000 + s.engineSize then (if s.domainUp 0x0B then .sram a else .none)
  else .none

/-- Whether an address lies in window 0 or 1. -/
def inWindow (a : Nat) : Bool := decide (a < 0x800000) || (decide (0x10000000 ≤ a) && decide (a < 0x10800000))

/-- A region register of a master. -/
def State.rgn (s : State) (m i reg : Nat) : Nat := (Tab.get 0 s.mem.rgn ((m * 16 + i) * 4 + reg)).toNat

/-- The rights of a master over the page of an address: read, write and fetch bits of `RGN_CTL` (R467). -/
def State.rights (s : State) (m a : Nat) : Nat :=
  let page := a / 4096
  match (List.range 16).find? (fun i => bitOf (s.rgn m i 2) 0 && decide (s.rgn m i 0 ≤ page) && decide (page ≤ s.rgn m i 1)) with
  | none => 0
  | some i => s.rgn m i 2

/-- The bytes that a burst touches. -/
def burstRange (b : Burst) : List Nat := (List.range (16 * b.len)).map (b.addr + ·)
/-- The pages that a burst touches. -/
def burstPages (b : Burst) : List Nat :=
  if b.len = 0 then [] else (List.range ((b.addr + 16 * b.len - 1) / 4096 + 1 - b.addr / 4096)).map (fun i => (b.addr / 4096 + i) * 4096)

/-- Whether a burst lies within its master's rights. -/
def State.burstAllowed (s : State) (b : Burst) : Bool :=
  (burstPages b).all (fun a =>
    let r := s.rights b.master a
    if b.fetch then decide (b.master < 4) && bitOf r 3 else if b.write.isSome then bitOf r 2 else bitOf r 1)

/-- The last answer of the crossbar. -/
def State.setXbar (s : State) (code : Nat) (b : List Byte) : State := { s with mem := { s.mem with xbarOut := (code, b) } }

/-- `CTL_REMAP` as it reads (R466). -/
def State.remapReg (s : State) : Nat := (if s.mem.remap then 1 else 0) + (if s.mem.remapBusy then 2 else 0)

/-- A crossbar register as it reads, by its offset: reserved ones 0. -/
def State.xbarRead (s : State) (a : Nat) : Nat :=
  if a / 4 = 0 then s.remapReg
  else if 0x1000 ≤ a ∧ a < 0x1F00 then s.rgn ((a - 0x1000) / 0x100) (a % 0x100 / 0x10) (a % 0x10 / 4)
  else 0

/-- A write of `CTL_REMAP`: `remap` asks for the swap once, and stays 1 (R466). -/
def State.writeRemap (s : State) (v : Word) : State :=
  if v.getLsbD 0 ∧ s.mem.remap = false then { s with mem := { s.mem with remapBusy := true } } else s

/-- The bits of a region register that a write changes (R467). -/
def rgnMask (reg : Nat) : Word := if reg = 2 then 0x1F else 0x0FFFFFFF

/-- A write of a region register, which a locked region ignores (R467). -/
def State.writeRgn (s : State) (m i reg : Nat) (v : Word) : State :=
  if 15 ≤ m ∨ 16 ≤ i ∨ 3 ≤ reg ∨ bitOf (s.rgn m i 2) 4 then s
  else { s with mem := { s.mem with rgn := Tab.put 0 s.mem.rgn ((m * 16 + i) * 4 + reg) (v &&& rgnMask reg) } }

/-- A word written to a crossbar register by its offset. -/
def State.xbarWrite (s : State) (a : Nat) (v : Word) : State :=
  if a = 0 then s.writeRemap v
  else if 0x1000 ≤ a ∧ a < 0x1F00 then s.writeRgn ((a - 0x1000) / 0x100) (a % 0x100 / 0x10) (a % 0x10 / 4) v
  else s

/-- The byte that an address reads; bytes of island registers that the manual does not give are open (log entry 3). -/
def State.busByte (s : State) (a : Nat) : Byte :=
  match s.target a with
  | .rom o => Config.bootRom o
  | .sram o => Tab.get 0 s.mem.sram o
  | .xbarReg o => BitVec.ofNat 8 (s.xbarRead o / 256 ^ (o % 4))
  | .bridge => BitVec.ofNat 8 (Config.freeNat (s.free + a))
  | .store c o => s.storeByte c o
  | .user o => (s.dramRead o 1).headD 0
  | .none => 0

/-- A byte written to an address; registers take whole words, and the boot ROM takes none. -/
def State.busWrite (s : State) (a : Nat) (v : Byte) : State :=
  match s.target a with
  | .sram o => { s with mem := { s.mem with sram := Tab.put 0 s.mem.sram o v } }
  | .store c o => s.setCluster c { s.cluster c with store := Tab.put 0 (s.cluster c).store o v }
  | .user o => s.dramWrite o [v]
  | _ => s

/-- The words of a burst that reach crossbar registers. -/
def State.busRegs (s : State) (a : Nat) (b : List Byte) : State :=
  (List.range (b.length / 4)).foldl (fun (k : State) i =>
    match s.target (a + 4 * i) with
    | .xbarReg o => if o % 4 = 0 then k.xbarWrite o (BitVec.ofNat 32 (field b (4 * i) 4)) else k
    | _ => k) s

/-- An access outside a master's rights (R468). -/
def State.denyBurst (s : State) (b : Burst) : State :=
  let n := if b.write.isSome then 0 else 16 * b.len
  let s1 := (s.inc El.fabDenied).setXbar (if b.master = 13 then 2 else 1) (List.replicate n 0)
  if b.master < 12 then s1.enterFault 5 [b.master, b.addr % 2 ^ 32, b.addr / 2 ^ 32] else s1

/-- A burst that may pass is performed; one that reaches DRAM does so in Second class, and a read that meets a block that cannot be
corrected receives an error response (R445, R454, R464). -/
def State.doBurst (s : State) (b : Burst) : State :=
  let n := 16 * b.len
  let area : Bool := decide (0x2000000000 ≤ b.addr)
  match b.write, s.target b.addr with
  | some x, .user o => (s.dramStore .second o ((x ++ List.replicate n 0).take n)).setXbar 0 []
  | some x, _ =>
    let y := (x ++ List.replicate n 0).take n
    let s1 := if area then s.noteEngine .second b.addr n else s
    ((y.zipIdx.foldl (fun (k : State) e => k.busWrite (b.addr + e.2) e.1) s1).busRegs b.addr y).setXbar 0 []
  | none, .user o =>
    let q := s.dramFetch .second o n
    (match q.2 with
      | none => q.1.setXbar 1 (List.replicate n 0)
      | some d => q.1.setXbar 0 d)
  | none, _ =>
    let s1 := if area then s.noteEngine .second b.addr n else s
    ({ s1 with free := s1.free + 1 } : State).setXbar 0 ((burstRange b).map s1.busByte)

/-- A burst is checked whole, then performed, or refused whole (R464, R465, R468). -/
def State.checkBurst (s : State) (b : Burst) : State :=
  match (burstRange b).find? (fun a => s.target a == .none) with
  | some a =>
    ((s.inc El.fabDecodeErr).setN El.fabDecodeAddr a).setXbar 1 (if b.write.isSome then [] else List.replicate (16 * b.len) 0)
  | none => if s.burstAllowed b = false then s.denyBurst b else s.doBurst b

/-- CROSSBAR_ACCESS: while `busy` is 1 a transaction to either window is held (R466). Debug is a master within an unlocked scope alone
(R462, R560). -/
def State.crossbar (s : State) (b : Burst) : State :=
  let unlocked : Bool := s.nat El.dbgState == 1 && (match s.sys.scope with
    | none => false
    | some x => x.getLsbD 1)
  if s.domainUp 1 = false ∨ 15 ≤ b.master ∨ b.len = 0 ∨ (b.master = 14 ∧ unlocked = false) then s
  else if s.mem.remapBusy ∧ (burstRange b).any inWindow then { s with mem := { s.mem with heldBursts := s.mem.heldBursts ++ [b] } }
  else s.checkBurst b

/-- Whether a master may write a crossbar register: within its rights, or a control core while boot runs, which sets
the rights (R467). -/
def State.mayWriteReg (s : State) (m a : Nat) : Bool := (s.mode == 2 && decide (m < 4)) || bitOf (s.rights m (0x40000000 + a)) 2

/-- A register write by a master: refused outside its rights. -/
def State.regWrite (s : State) (m a : Nat) (v : Word) : State :=
  if s.domainUp 1 = false ∨ 15 ≤ m then s
  else if s.mayWriteReg m a then (s.xbarWrite a v).setXbar 0 []
  else s.denyBurst ⟨m, 0x40000000 + a, 1, some (leBytes 4 v.toNat), false⟩

/-- A write of register `reg` of region i of master m, by master `via`; a place without a register takes none. -/
def State.rgnWrite (s : State) (via m i reg : Nat) (v : Word) : State :=
  if 15 ≤ m ∨ 16 ≤ i ∨ 3 ≤ reg then s else s.regWrite via (0x1000 + 0x100 * m + 0x10 * i + 4 * reg) v

/-- REMAP_SWAP: the windows are swapped, and the bursts that were held go on in their order (R466). -/
def State.remapSwap (s : State) : State :=
  if s.mem.remapBusy then
    s.mem.heldBursts.foldl (fun (k : State) b => k.checkBurst b)
      { s with mem := { s.mem with remap := true, remapBusy := false, heldBursts := [] } }
  else s

/-! ### The commands -/

/-- DRAM_REQUEST (R446). -/
def execDramRequest (t : Nat) (q : DramReq) (s : State) : Host.Outcome State Fault Refusal := .next ((s.advance t).dramRequest q)
/-- PROMOTION (R446). -/
def execPromotion (t ch seq : Nat) (s : State) : Host.Outcome State Fault Refusal := .next ((s.advance t).promote ch seq)
/-- REFRESH (R449). -/
def execRefresh (t ch bank : Nat) (s : State) : Host.Outcome State Fault Refusal := .next ((s.advance t).refresh ch bank)
/-- RETRAIN (R450). -/
def execRetrain (t ch : Nat) (s : State) : Host.Outcome State Fault Refusal := .next ((s.advance t).retrain ch)
/-- ROW_REDIRECT (R455). -/
def execRowRedirect (t ch row : Nat) (s : State) : Host.Outcome State Fault Refusal := .next ((s.advance t).redirectRow ch row)
/-- POST_PACKAGE_REPAIR (R455). -/
def execPostPackageRepair (t ch row : Nat) (resource : Bool) (s : State) : Host.Outcome State Fault Refusal :=
  .next ((s.advance t).packageRepair ch row resource)
/-- PATROL_SCRUB (R456). -/
def execPatrolScrub (t ch addr ecc : Nat) (s : State) : Host.Outcome State Fault Refusal := .next ((s.advance t).scrub ch addr ecc)
/-- BIST_REGION (R459). -/
def execBistRegion (t island mem region fault : Nat) (s : State) : Host.Outcome State Fault Refusal :=
  .next ((s.advance t).bistRegion island mem region fault)
/-- CROSSBAR_ACCESS (R464). -/
def execCrossbarAccess (t : Nat) (b : Burst) (s : State) : Host.Outcome State Fault Refusal := .next ((s.advance t).crossbar b)
/-- REMAP_SWAP (R466). -/
def execRemapSwap (t : Nat) (s : State) : Host.Outcome State Fault Refusal := .next ((s.advance t).remapSwap)
/-- CTL_REMAP (R466). -/
def execCtlRemap (t master : Nat) (v : Word) (s : State) : Host.Outcome State Fault Refusal := .next ((s.advance t).regWrite master 0 v)
/-- RGN_WRITE (R467). -/
def execRgnWrite (t via m i reg : Nat) (v : Word) (s : State) : Host.Outcome State Fault Refusal :=
  .next ((s.advance t).rgnWrite via m i reg v)

end Sys2Proof.Machine
end

