-- ==== Sys2Proof/Machine/Modes.lean ====
section
/-! DEFINITION. Power domains, the start of rounds and the requested modes (R31 to R35, R39, R41, R428, R451, R452, R474,
R475, R532 to R535, R539, R540, R600, R601). -/

namespace Sys2Proof.Machine

/-! ### Power domains (R31, R32, R535) -/

/-- The domains that a domain depends on. -/
def domainNeeds (i : Nat) : List Nat :=
  if i = 0 then []
  else if i = 1 then [0]
  else if i < 10 then [1, 0x13, 0x0A, 0x0B]
  else if i = 0x0C then [1, 0x0B]
  else if i = 0x0B ∨ i = 0x0E ∨ i = 0x13 then [1]
  else if i = 0x11 then [1, 0x13, 0x10]
  else if i = 0x12 then [1, 0x13, 0x0A]
  else [1, 0x13]

/-- Whether every domain that domain i depends on is up. -/
def State.needsUp (s : State) (i : Nat) : Bool := (domainNeeds i).all s.domainUp
/-- Whether no domain that depends on domain i is up or powering. -/
def State.needersDown (s : State) (i : Nat) : Bool :=
  (List.range 20).all (fun j => !(domainNeeds j).contains i || !domainPresent s.variant j || s.nat (El.pdState j) == 0)

/-- Whether domain i is up, or down, once the requests accepted so far have taken effect. -/
def State.willBeUp (s : State) (i : Nat) : Bool :=
  match s.sys.pdWait.find? (fun e => e.1 % 32 == i) with
  | some e => e.2
  | none => s.nat (El.pdState i) != 0

/-- What the state allows of a write of `pd_on` (R32, R535): a request is judged on what the requests before it leave. -/
def State.pdStatus (s : State) (i v : Nat) : Status :=
  if v = 1 then (if (domainNeeds i).all s.willBeUp then .ok else .wrongState)
  else if (List.range 20).all (fun j => !(domainNeeds j).contains i || !domainPresent s.variant j || !s.willBeUp j) then .ok
  else .wrongState

/-! ### Units afresh (R35, R601) -/

/-- The readings of meters and loudness meters restart (R539, R601). -/
def isMeterReading (a : Nat) : Bool :=
  areaOf a == 0x1B && ((decide (objectOf a < 0xA00) && decide (elementOf a < 6)) ||
    (decide (0xC00 ≤ objectOf a) && decide (objectOf a < 0xE00) && decide (0x20 ≤ elementOf a)))
def State.clearMeters (s : State) : State :=
  { s with
    regs := s.regs.filter (fun e => !isMeterReading e.1)
    mix := { s.mix with lims := [], meters := [], louds := [] } }

/-- The gains that the dictionary holds (R86). -/
def State.xpBank (s : State) : Tab Int := (s.regs.filter (fun e => isXp e.1)).map (fun e => (e.1, e.2.toInt))

/-- MIX afresh (R601): dictionary gains, no ramp, limiters at 1, meters from zero; what is armed is pre-staged again (R95). -/
def State.freshMix (s : State) : State :=
  let r := s.mix.resv.filter (fun x => !x.begun && x.num.isNone)
  let s1 := ({ s with mix := { State.reset.mix with inEffect := s.xpBank, incoming := s.xpBank, resv := r, pubs := s.mix.pubs } } : State).clearMeters
  (s.disp.changes.filter (·.armed)).foldl (fun k c => k.prestage c) s1

/-- A cluster afresh: its image stays in effect (R601). -/
def State.freshCluster (s : State) (c : Nat) : State :=
  let s1 := (List.range 9).foldl (fun (k : State) j => k.setCore c j Core.cleared) s
  s1.setCluster c { Cluster.cleared with image := (s.cluster c).image }

/-- A serial port afresh: masks and gates as the dictionary holds them. -/
def State.freshPort (s : State) (p : Nat) : State :=
  let on (base bits : Nat) (t : Tab Gate) : Tab Gate :=
    (maskSlots bits).foldl (fun (q : Tab Gate) i => Tab.put (Gate.rest false) q (base + i) (Gate.rest true)) t
  ((s.setSapPort p { SapPort.fresh with
    rxMask := s.nat (El.spRxMask p)
    txMask := s.nat (El.spTxMask p)
    rxOn := s.nat (El.spRxOn p)
    txOn := s.nat (El.spTxOn p)
    gates := on 32 (s.nat (El.spTxOn p)) (on 0 (s.nat (El.spRxOn p)) []) }).setN (El.spApplyAt p) 0).showPort p

/-- Serial ports, trigger and rings afresh. -/
def State.freshSap (s : State) : State :=
  let s1 := (List.range s.variant.serialPorts).foldl (fun (k : State) p => k.freshPort p) s
  let s2 : State := { s1.setN El.sapStartState 0 with sap := { s1.sap with edgeAt := none, ringWait := [] } }
  (List.range 16).foldl (fun (k : State) r => k.applyRingRun r (k.nat (El.ringRun r))) s2

/-- The ASRC bank afresh. -/
def State.freshAsrc (s : State) : State :=
  let s1 : State := { s with sap := { s.sap with
    asrcFade := [], asrcLoss := [], asrcPos := [], asrcSeen := [], asrcRate := [], asrcIn := [], asrcHeld := [], asrcSince := []
    asrcReset := [], asrcFed := [] } }
  ((List.range 32).foldl (fun (k : State) g => k.setN (El.agState g) 0) s1).showAsrc

/-- Ports A and B with their streams afresh. -/
def State.freshNet (s : State) : State :=
  let s1 := (s.setNetPort 0 NetPort.fresh).setNetPort 1 NetPort.fresh
  let s2 := (s1.setAll [El.portLink 0, El.portLink 1, El.portRateNow 0, El.portRateNow 1, El.swLearned] 0)
  let s3 : State := { s2 with net := { s2.net with learned := [], rx := [] } }
  let s4 := s3.rxOn.foldl (fun (k : State) i => k.setN (El.rxState i) 1) s3
  s4.txOn.foldl (fun (k : State) j => (k.setN (El.txEnable j) 0).applyTxEnable j 1) s4

/-- Port M afresh. -/
def State.freshMgmt (s : State) : State := (s.setNetPort 2 NetPort.fresh).setAll [El.portLink 2, El.portRateNow 2] 0

/-- The coach links afresh. -/
def State.freshCoach (s : State) : State :=
  (List.range 4).foldl (fun (k : State) l =>
    ((k.setLink l Link.fresh).setN (El.lkRefusal l) 0).setN (El.lkState l)
      (if linkPresent s.variant l ∧ s.on (El.lkEnable l) then 1 else 0)) s

/-- References, PTP ports and pulse outputs afresh: free-run (R410, R413). -/
def State.freshTime (s : State) : State :=
  let s1 : State := { s with refs := { s.refs with
    href := [], ptp := [], coachSince := [], coachOk := [], prioSince := [], lockSince := none, freqHist := [], lockedAt := none
    pulses := [], freq := 0, integ := 0, steeredAt := 0 } }
  let s2 := s1.setAll [El.refSelected, El.timeState, El.dpllFreq, El.dpllPhaseErr] 0
  let s3 := (List.range 3).foldl (fun (k : State) p => k.setN (El.ptpState p) (if k.on (El.ptpEnable p) then 4 else 3)) s2
  let s4 := (List.range 0x28).foldl (fun (k : State) c => if isHref c then k.setAll [El.hrefState c, El.hrefPhase c] 0 else k) s3
  s4.showPulses.showQuality

/-- The channels of the power stage controller afresh. -/
def State.freshPsc (s : State) : State :=
  let s1 : State := { s with psc := [] }
  ((List.range 4).foldl (fun (k : State) g => k.setAll [El.pgFsw g, El.pgChannelsOn g] 0) s1).showAllPsc

/-- The rows of a channel that the repair record holds. -/
def State.recordRows (s : State) (ch : Nat) : List Nat :=
  s.flash.repair.filterMap (fun r => match r with
    | .row c x => if c = ch then some x else none
    | _ => none)

/-- A DRAM channel after training: the rows of the repair record are redirected (R455). -/
def State.freshChan (s : State) (ch : Nat) : State :=
  (s.setChan ch { Chan.fresh with entries := (s.recordRows ch).take 8 }).showChan ch

/-- The channels of a DRAM domain. -/
def domainChans (i : Nat) : List Nat := if i = 0x0B then [0, 1] else [2, 3]

/-- Whether an element is a scene's, or a staged image's: they are held in the engine area. -/
def isStaged (a : Nat) : Bool :=
  (areaOf a == 0x1C && decide (0x1000 ≤ objectOf a)) || (areaOf a == 0x1D && decide (0x10 ≤ objectOf a) && decide (objectOf a < 0x18) && elementOf a == 0)

/-- The scene library and the staged images are lost: their slots read empty. -/
def State.loseStaged (s : State) : State :=
  let s1 : State := { s with regs := s.regs.filter (fun e => !isStaged e.1) }
  (List.range 8).foldl (fun (k : State) c => if k.nat (El.imgState c) = 1 then k.setN (El.imgState c) 0 else k) s1

/-- What the DRAM of a domain held is lost. -/
def State.loseDram (s : State) (i : Nat) : State :=
  let gone (a : Nat) : Bool := match s.placeOf a with
    | none => true
    | some p => (domainChans i).contains p.1
  let lost (a : Nat) : Bool := decide (0x2000000000 ≤ a) &&
    (domainChans i).contains (Config.engineChan (a - 0x2000000000) % s.variant.dramChannels)
  ({ s with mem := { s.mem with
    dram := s.mem.dram.filter (fun e => !gone e.1)
    sram := s.mem.sram.filter (fun e => !lost e.1) } } : State).loseStaged

/-- The units of a domain start afresh, from the dictionary (R601). -/
def State.freshUnit (s : State) (i : Nat) : State :=
  if 2 ≤ i ∧ i < 10 then s.freshCluster (i - 2)
  else if i = 0x0A then s.freshMix
  else if i = 0x0B ∨ i = 0x0C then (domainChans i).foldl (fun (k : State) ch => if ch < k.variant.dramChannels then k.freshChan ch else k) s
  else if i = 0x0D then s.freshNet
  else if i = 0x0E then s.freshMgmt
  else if i = 0x0F then s.freshCoach
  else if i = 0x10 then s.freshSap
  else if i = 0x11 then s.freshAsrc
  else if i = 0x12 then s.freshPsc
  else if i = 0x13 then s.freshTime
  else s

/-- Retirements of the repair record apply to cluster c; with none, the cluster is as it was before any (R197). -/
def State.applyRetired (s : State) (c : Nat) : State :=
  let l := s.flash.repair.filterMap (fun r => match r with
    | .core a j => if a = c then some j else none
    | _ => none)
  match l with
  | [] =>
    let s1 := (List.range 9).foldl (fun (k : State) j =>
      (k.setN (El.coreState c j) (if j = 8 then 2 else 0)).setN (El.coreRetiredAt c j) 0) (s.setN (El.coreCarries c 8) 0xFF)
    if s.nat (El.clReliefState c) = 3 then s1.setN (El.coreState c 8) 1
    else s1.setN (El.clReliefState c) (if s.on (El.clAuditEnable c) then 0 else 1)
  | j :: _ => (((s.setN (El.coreState c j) 1).setN (El.coreState c 8) 3).setN (El.coreCarries c 8) j).setN (El.clReliefState c) 2

/-- The strips of an image start from the dictionary's values, as their jobs start from the image's state (R539, R554, R601). -/
def State.freshStrips (s : State) (im : Image) : State :=
  im.jobs.foldl (fun (k : State) j => match j.strip with
    | none => k
    | some (b, n) =>
      let k1 := k.setStrip b n StripRun.fresh
      if isPair j.program then k1.setStrip b (n + 1) StripRun.fresh else k1) s

/-- A cluster powers up: its core memories load from the image in effect, over r rounds where rounds run; its strips take
the dictionary's values (R237, R601). -/
def State.clusterUpAgain (s : State) (c : Nat) : State :=
  let s1 := s.applyRetired c
  match (s1.cluster c).image with
  | none => s1
  | some im =>
    let s2 := s1.freshStrips im
    if s2.roundsRun then s2.setCluster c { s2.cluster c with
      loading := true
      loadFrom := s2.rounds.nextRound
      loadUntil := s2.rounds.nextRound + s2.loadRounds }
    else s2.finishLoad c

/-- A domain is up: its units take up their work (R601). -/
def State.bringUp (s : State) (i : Nat) : State :=
  let s1 := ((s.firstDsp i).setN (El.pdState i) 2).freshUnit i
  let s2 := if 2 ≤ i ∧ i < 10 then s1.clusterUpAgain (i - 2) else s1
  let s3 := if i = 0x12 then s2.startAllPsc false else if i = 0x10 then s2.followPins else s2
  s3.fixPoint

/-- Strips whose jobs run on a cluster that is down read `running` 0 (R600). -/
def State.restCluster (s : State) (c : Nat) : State :=
  match (s.cluster c).image with
  | none => s
  | some im => im.jobs.foldl (fun (k : State) j => match j.strip with
    | none => k
    | some (b, n) => k.restStrip b n) s

/-- From the next round boundary on the signals of a domain read zero (R34): what its units collected for that round is
dropped. -/
def State.muteDomain (s : State) (i : Nat) : State :=
  let k := s.rounds.nextPulse
  let tray := (Tab.get [] s.rounds.inTrays k).filter (fun e => s.sigDomain e.1 ≠ i)
  { s with rounds := { s.rounds with
    inTrays := Tab.put [] s.rounds.inTrays k tray
    live := s.rounds.live.filter (fun a => s.sigDomain a ≠ i) } }

/-- A domain powers down (R33 to R35): the ramps that it runs end at their targets, its units hold nothing, and its signals
fall silent. -/
def State.bringDown (s : State) (i : Nat) : State :=
  let s0 := s.muteDomain i
  let s1 := if i = 0x0A then s0.endAllXp else if 2 ≤ i ∧ i < 10 then s0.restCluster (i - 2) else s0
  let s2 := (s1.freshUnit i).setN (El.pdState i) 0
  let s3 := if i = 0x0B ∨ i = 0x0C then s2.loseDram i else s2
  let s4 : State := if i = 0x13 then { s3 with time := { s3.time with clk := 0 } } else s3
  (if i = 0x10 then s4.followPins else s4).fixPoint

/-- Whether a power-up waits for point 3 of the sequencer (R26, R428): so too where a regulator fault holds the point. -/
def State.upWaits (s : State) (i : Nat) : Bool :=
  let n := ((List.range s.variant.clusters).filter (fun c => s.nat (El.pdState (2 + c)) ≠ 0)).length
  decide (2 ≤ i) && decide (i < 10) && s.variant == .ivm7424 && decide (4 ≤ n) &&
    !(s.nat El.dvfsPoint == 3 && s.refs.raise.isNone)

/-- A boundary makes the waiting power requests due: a power-up begins, a power-down waits for its event (number + 32). -/
def State.powerBoundary (s : State) : State :=
  s.sys.pdWait.foldl (fun (k : State) e =>
    if 32 ≤ e.1 then k
    else if e.2 = false then
      { k with sys := { k.sys with pdWait := k.sys.pdWait.map (fun x => if x = e then (e.1 + 32, false) else x) } }
    else if k.upWaits e.1 then k
    else
      ({ k with sys := { k.sys with pdWait := k.sys.pdWait.filter (· ≠ e) } } : State).setN (El.pdState e.1) 1) s

/-- DOMAIN_POWER_DOWN: a power-down whose boundary has come, in the order of R32 (R34, R535). -/
def State.powerDown (s : State) (i : Nat) : State :=
  if s.sys.pdWait.contains (i + 32, false) ∧ s.needersDown i then
    ({ s with sys := { s.sys with pdWait := s.sys.pdWait.filter (· ≠ (i + 32, false)) } } : State).bringDown i
  else s

/-- The publication periods run from round k on (R112). -/
def State.restartPubs (s : State) (k : Nat) : State :=
  (List.range 16).foldl (fun (q : State) j => q.setPub j { q.pub j with since := k }) s

/-- The timeline is anchored on the local clock: the first round is the one whose boundary comes next (R39, R42). -/
def State.anchor (s : State) : State :=
  let s0 : State := { s with rounds := { s.rounds with step := none } }
  let s1 := s0.setN El.anchorState 1
  let k := s1.sampleNow / s1.roundB + 1
  State.restartPubs { s1 with
    rounds := { s1.rounds.stopped with
      nextPulse := k, nextRound := k, first := k, startIdx := (k - 1) * s1.roundB, interval := s1.roundB
      played := [], lastOut := [], slid := 0 }
    mix := { s1.mix.stopped with pink := [] } } k

/-- The TIME island lost its local clock (R35), on which the timeline was anchored: where the timeline runs it is anchored
afresh (log entry 82). -/
def State.anchorAgain (s : State) : State := if s.anchored then s.anchor else s

/-- DOMAIN_POWER_UP: a domain that powers up, in the order of R32, is cleared and reports itself up (R457, R601). -/
def State.powerUp (s : State) (i : Nat) : State :=
  if i < 2 ∨ 20 ≤ i ∨ s.nat (El.pdState i) ≠ 1 ∨ s.needsUp i = false then s
  else if i = 0x13 then ({ s with time := { s.time with clk := 0 } } : State).bringUp i |>.anchorAgain
  else s.bringUp i

/-- A write of `pd_on` applies: at the next round boundary, or at once where no rounds run (R535). -/
def State.applyPd (s : State) (i v : Nat) : State :=
  let s1 := s.setN (El.pdOn i) v
  let rest := s1.sys.pdWait.filter (fun e => e.1 ≠ i ∧ e.1 ≠ i + 32)
  let add : List (Nat × Bool) := if (v == 1) = (s.nat (El.pdState i) != 0) then [] else [(i, v == 1)]
  let s2 : State := { s1 with sys := { s1.sys with pdWait := rest ++ add } }
  if s.roundsRun then s2 else s2.powerBoundary.powerDown i

/-! ### Rounds begin (R39, R41, R384, R444) -/

/-- What the state allows of a request to leave CONFIGURE (R41, R384, R444). -/
def State.leaveStatus (s : State) : Status :=
  let badImage := (List.range s.variant.clusters).any (fun c => match (s.cluster c).image with
    | none => false
    | some im => im.fs ≠ s.nat El.fsInt ∨ im.b ≠ s.roundB)
  if badImage ∨ s.busesOk = false ∨ s.mapOk = false then .wrongState else .ok

/-- The user area is cleared before CONFIGURE is left, after a change to the map (R444). -/
def State.clearDirty (s : State) : State := if s.mem.mapDirty then s.dramClear else s

/-- A mode change that is no takeover: envelopes and pending changes go (R150, R156), outputs and power stages follow. -/
def State.changeMode (s : State) (m : Nat) : State :=
  s.followPsc ((s.setMode m).discardShow 3) false

/-- Joining begins (R475): mode 8 with `tw_role` 1. -/
def State.beginJoin (s : State) : State :=
  let s1 := (s.changeMode 8).setN El.twRole 1
  { s1 with twin := { s1.twin with
    driving := false, silentCourier := 0, silentPair := 0, everHeard := false, joinedAt := s1.time.tick, partnerRole := 0
    heartRound := 0, asrcRound := 0, digests := [], partnerDigests := [], run := 0, watchdog := true, resyncStep := 0
    verified := 0, firstMatch := 0, window := none, won := false, cause := 0, present := false, handed := true
    courier := [.identity s1.variant.featureMap (s1.nat El.fwVersion) (s1.nat El.settingsFormat) (s1.nat El.fsInt) s1.roundB
      (s1.nat El.engineNumber) (s1.nat El.tgId)]
    sent := [], got := [], bulk := [], bulkOut := [], refs := [], frozen := none, slots := [], handAt := none } }

/-- A run request: SOLO, or joining with `tw_enable` 1 (R533). -/
def State.run (s : State) : State :=
  let s1 := s.clearDirty.anchor
  if s1.on El.twEnable then s1.beginJoin else s1.changeMode 5

/-! ### Requests (R533, R539, R540) -/

/-- Whether FAULT may be left by request (R537): the cause's row. -/
def State.mayLeaveFault (s : State) : Bool :=
  match s.nat El.faultCause with
  | 1 => true
  | 2 => true
  | 3 => true
  | 6 => decide ((s.measure).int El.dieTemp < s.int El.thFault - 100)
  | 7 => (List.range 10).all s.railOk
  | _ => false

/-- The value of a write to `mode_request`. -/
def modeValue (v : Nat) : Status := if v = 1 ∨ v = 4 ∨ v = 5 ∨ v = 10 then .ok else .outOfRange

/-- What the state allows of a mode request (R533, R539, R540). -/
def State.modeStatus (s : State) (v : Nat) : Status :=
  let m := s.mode
  if v = 1 then (if (m = 4 ∨ m = 10) ∧ s.on El.twEnable = false then (if m = 4 then s.leaveStatus else .ok) else .wrongState)
  else if v = 4 then
    (if m = 5 ∨ m = 6 ∨ m = 7 ∨ m = 8 ∨ m = 10 then .ok
    else if m = 11 ∧ s.mayLeaveFault then .ok else .wrongState)
  else if m = 4 then s.leaveStatus else .wrongState

/-- Every image in effect is loaded again (R539). -/
def State.reloadImages (s : State) : State :=
  (List.range s.variant.clusters).foldl (fun (k : State) c => match (k.cluster c).image with
    | none => k
    | some im => if k.clusterUp c then (k.freshStrips im).finishLoad c else k) s

/-- CONFIGURE is entered: from a mode with rounds they stop; out of FAULT images reload and running states restart
(R533, R539). -/
def State.toConfigure (s : State) : State :=
  let was := s.mode
  let s1 := s.stopRounds false
  let s2 : State := { s1 with
    twin := { s1.twin with driving := false, resyncStep := 0, courier := [], sent := [] }
    sys := { s1.sys with actStep := 0 } }
  let s3 := s.followPsc ((s2.setMode 4).discardShow 3) false
  let s4 := if s3.on El.twEnable ∨ s3.nat El.twRole ≠ 0 then s3.setN El.twRole 0 else s3
  if was = 11 then
    let s5 := (s4.measure.clearMeters).reloadImages
    { s5 with
      mix := { s5.mix with pink := [] }
      psc := s5.psc.map (fun e => (e.1, { e.2 with speaker := Speaker.fresh })) }
  else s4

/-! ### Settings (R544) -/

/-- Whether an element is a setting (R544). -/
def isSetting (a : Nat) : Bool :=
  let r := areaOf a
  let stored := accessOf a == .rw || accessOf a == .raw
  stored && (r == 0x00 || r == 0x01 || (r == 0x02 && !(decide (0x100 ≤ objectOf a) && decide (objectOf a < 0x120))) ||
    (decide (0x03 ≤ r) && decide (r ≤ 0x0C) && typeOf a != 14 || decide (0x03 ≤ r) && decide (r ≤ 0x0C) && a != El.dramWinData) ||
    a == El.settingsAutosave || (r == 0x0E && decide (0x100 ≤ objectOf a)) ||
    (r == 0x1E && !(decide (objectOf a < 0x100) && elementOf a == 0)) || r == 0x1F)

/-- The settings as they stand: those that differ from their defaults. -/
def State.settings (s : State) : List (Nat × Val) := s.regs.filter (fun e => isSetting e.1)

/-- The highest sequence number of a valid settings copy, with its copy. -/
def State.bestSettings (s : State) : Option FlashSettings :=
  s.flash.settings.foldl (fun b x => if x.valid = false then b else match b with
    | none => some x
    | some y => if y.seq < x.seq then some x else some y) none

/-- A number that the stored settings give an element, or its default. -/
def State.storedNat (s : State) (a : Nat) : Nat := match s.bestSettings with
  | none => (defaultVal s.variant a).toNat
  | some x => (Tab.get (defaultVal s.variant a) x.vals a).toNat

/-- A save writes the older copy (R544). -/
def State.saveSettings (s : State) : State :=
  let best := s.bestSettings
  let seq := match best with
    | none => 1
    | some x => x.seq + 1
  let keep := match best with
    | none => []
    | some x => [x]
  let c : FlashSettings := ⟨seq % 2 ^ 32, s.nat El.settingsFormat, true, s.settings⟩
  ({ s with
    flash := { s.flash with settings := c :: keep }
    sys := { s.sys with settingsDirty := false, autosaveAt := none, saveAt := some s.time.tick } } : State).setN El.settingsSeq (seq % 2 ^ 32)

/-- A setting changed: an autosave falls due 10 s later (R544). -/
def State.noteSetting (s : State) (a : Nat) : State :=
  if isSetting a then
    { s with sys := { s.sys with settingsDirty := true, autosaveAt := some (s.time.tick + 10000000000) } }
  else s

/-! ### DORMANT (R451, R452, R540) -/

/-- The segments that a byte of the user area and the engine area lie in: an eighth of each channel (R440). -/
def State.segOf (s : State) (a : Nat) : Option Nat := (s.placeOf a).map (fun p => p.2 * 8 / s.chanBytes)

/-- The engine segments: the top E. -/
def State.engineSegs (s : State) : List Nat := (List.range (s.nat El.dramEngineSegs)).map (fun i => 7 - i)

/-- The segment that holds a byte of the engine area. -/
def State.engineSegOf (s : State) (a : Nat) : Nat :=
  if s.engineSegs = [] then 8 else s.engineSegs.getD (Config.engineSeg a % s.engineSegs.length) 8

/-- Whether what the engine area holds survives: every segment retained, none, or, where some are, open (log entry 3). -/
def State.engineKept (s : State) : Bool :=
  let kept := s.engineSegs.filter (bitOf (s.nat El.dramRetain))
  if kept.length = s.engineSegs.length then true else if kept = [] then false else decide (s.fresh.1 % 2 = 1)

/-- The controllers finish what they hold and repair what is pending (R451). -/
def State.quietDram (s : State) : State :=
  let s1 := (List.range s.variant.dramChannels).foldl (fun (k : State) ch => k.serveHeld (k.chan ch).held.length ch) s
  s1.repairPending

/-- What DORMANT leaves: the flash, the keys, the retained segments of the DRAM and what the engine area keeps of
scenes and staged images (R451, R452, R540, R546). -/
def State.sleep (s : State) : State :=
  let q := (if s.sys.settingsDirty then s.saveSettings else s).clearDirty.quietDram
  let kept := q.engineKept
  let user := q.mem.dram.filter (fun e => match q.segOf e.1 with
    | none => false
    | some g => bitOf (q.nat El.dramRetain) g)
  let area := q.mem.sram.filter (fun e => decide (0x2000000000 ≤ e.1) && bitOf (q.nat El.dramRetain) (q.engineSegOf (e.1 - 0x2000000000)))
  let staged : Tab Val := if kept then q.regs.filter (fun e => isStaged e.1) else []
  let was := q.mode
  let r : State := { q with free := q.free + 1, sys := { q.sys with saveAt := none } }.resetEngine 1
  let s1 : State := { r with
    regs := staged.foldl (fun t e => Tab.ins e.1 e.2 t) r.regs
    mem := { r.mem with
      dram := user
      sram := area
      chans := (List.range q.variant.dramChannels).map (fun ch => (ch, { Chan.fresh with selfRefresh := true })) }
    sys := { r.sys with retained := [0x0B, 0x0C] } }
  ((s1.setN El.mode 1).setN El.modePrev was).followPins

/-- WAKE, or RESET_N, ends DORMANT (R540): boot runs with cause 5, and what was retained stays. The retained domains count
as up from then on (R32). -/
def State.wakeUp (s : State) : State :=
  if s.mode ≠ 1 then s
  else
    let staged : Tab Val := s.regs.filter (fun e => isStaged e.1)
    let r := s.resetEngine 5
    let s1 : State := { r with
      regs := staged.foldl (fun t e => Tab.ins e.1 e.2 t) r.regs
      mem := { r.mem with dram := s.mem.dram, sram := s.mem.sram }
      sys := { r.sys with retained := s.sys.retained } }
    let s1 := (s.sys.retained.filter (domainPresent s.variant)).foldl (fun (k : State) i => k.setN (El.pdState i) 2) s1
    (List.range 8).foldl (fun (k : State) c =>
      if (k.val (El.imgData c)).toBytes = [] then k else (k.setN (El.imgState c) 1).setN (El.imgCrc c) (field (k.val (El.imgData c)).toBytes 12 4)) s1

/-- WAKE, high for a time in ns (R540, R581). -/
def State.wakePin (s : State) (width : Nat) : State :=
  let w := s.takesPulse width 10000 1001
  if w.1 then w.2.wakeUp else w.2

/-- A mode request applies. -/
def State.applyModeRequest (s : State) (v : Nat) : State :=
  if v = 1 then s.sleep
  else if v = 4 then s.toConfigure
  else if v = 5 then s.run
  else s.clearDirty.changeMode 10

end Sys2Proof.Machine
end

