-- ==== Sys2Proof/Machine/Twin.lean ====
section
/-! DEFINITION. Twin operation: joining, the courier, heartbeats and alarms, claim windows, digests and resync
(R474 to R503). -/

namespace Sys2Proof.Machine

/-! ### Who takes part -/

/-- An engine that operates as one of a twin: joining, resyncing, SHADOW or ACTIVE (R475, R491). -/
def State.twinned (s : State) : Bool := s.on El.twEnable && (s.mode == 6 || s.mode == 7 || s.mode == 8)
/-- Whether the engine arbitrates: ACTIVE or SHADOW with its watchdog alive (R491). -/
def State.arbitrates (s : State) : Bool := s.on El.twEnable && (s.mode == 6 || s.mode == 7) && s.twin.watchdog

/-! ### The courier (R479) -/

/-- The sizes of the bodies that records carry. -/
def valBytes (a : Nat) (v : Val) : Nat := if typeOf a = 14 then v.toBytes.length else tyBytes (typeOf a)
/-- Rounded up to a multiple of 4. -/
def pad4 (n : Nat) : Nat := (n + 3) / 4 * 4

/-- An item with its header: type, reserved byte, length with padding to a multiple of 4. -/
def courierFrame (typ : Nat) (body : List Byte) : List Byte :=
  leBytes 1 typ ++ [0] ++ leBytes 2 (4 + pad4 body.length) ++ body ++ List.replicate (pad4 body.length - body.length) 0

/-- The bytes of an item on the courier (R479). The change travels as WRITE records. -/
def encodeItem : CourierItem → List Byte
  | .heartbeat round played role health ref claim =>
    courierFrame 1 (leBytes 8 round ++ leBytes 8 played ++ leBytes 1 role ++ leBytes 1 health ++ leBytes 1 ref ++ [0] ++ leBytes 2 claim ++ [0, 0])
  | .digest round crc => courierFrame 2 (leBytes 8 round ++ leBytes 4 crc)
  | .asrc round g => courierFrame 3 (leBytes 8 round ++ g.flatMap (fun e => leBytes 1 e.1 ++ leBytes 1 e.2.2 ++ [0, 0] ++ leBytes 8 e.2.1))
  | .change id eff fid w => courierFrame 4 (leBytes 4 id ++ leBytes 8 eff ++ leBytes 4 fid ++ w.flatMap (fun e =>
      encodeRec ⟨opWrite, typeOf e.1, 0, 0, 0, BitVec.ofNat 32 e.1, encodeVal (typeOf e.1) e.2⟩))
  | .request fid role r => courierFrame 5 (leBytes 4 fid ++ leBytes 1 role ++ [0, 0, 0] ++ encodeRec r)
  | .response fid r => courierFrame 6 (leBytes 4 fid ++ encodeRec r)
  | .identity feature fw fmt fs b engine tg =>
    courierFrame 7 (leBytes 8 feature ++ leBytes 4 fw ++ leBytes 2 fmt ++ leBytes 1 fs ++ leBytes 1 b ++ leBytes 2 engine ++ leBytes 2 tg)
  | .bulkRef typ id len => courierFrame typ (leBytes 4 id ++ leBytes 4 len)

/-- Bytes of an item, header and padding included. -/
def itemBytes (x : CourierItem) : Nat := (encodeItem x).length

/-- What stands in a courier section for an item: an item longer than 4,088 bytes leaves its identifier and its length there,
and travels in bulk. -/
def shortItem (x : CourierItem) : CourierItem :=
  let n := itemBytes x
  if n ≤ 4088 then x
  else match x with
    | .asrc k _ => .bulkRef 3 k n
    | .change id _ _ _ => .bulkRef 4 id n
    | .request fid _ _ => .bulkRef 5 fid n
    | .response fid _ => .bulkRef 6 fid n
    | y => y

/-- Heartbeat, digest and ASRC items come first. -/
def urgentItem : CourierItem → Bool
  | .heartbeat _ _ _ _ _ _ => true
  | .digest _ _ => true
  | .asrc _ _ => true
  | _ => false

/-- The items in order that fit a room, and those that wait. -/
def fitItems : Nat → List CourierItem → List CourierItem × List CourierItem
  | _, [] => ([], [])
  | room, x :: l =>
    let n := itemBytes (shortItem x)
    if n ≤ room then let r := fitItems (room - n) l; (x :: r.1, r.2) else ([], x :: l)

/-- An item waits for the courier. -/
def State.courierPut (s : State) (x : CourierItem) : State := { s with twin := { s.twin with courier := s.twin.courier ++ [x] } }

/-- The blocks of a section on the courier link. -/
def State.courierLane (s : State) (kind r : Nat) (b : List Byte) : State :=
  let k := s.link 3
  let x := laneSection kind (s.nat El.engineNumber) 0 r (dataBlocks b)
  s.setLink 3 { k with lane := x, used := k.used + x.length }

/-- A courier section takes the items that wait. -/
def State.courierPack (s : State) : State :=
  let first := s.twin.courier.filter urgentItem
  let rest := s.twin.courier.filter (fun x => !urgentItem x)
  let r := fitItems (4096 - (first.map itemBytes).sum) rest
  let sent := (first ++ r.1).map shortItem
  let long := r.1.filter (fun x => decide (4088 < itemBytes x))
  let s1 : State := { s with twin := { s.twin with
    sent := sent, courier := r.2, bulkOut := s.twin.bulkOut ++ long.flatMap encodeItem } }
  let k := Tab.get 0 (s.link 3).readyAt 1
  let s2 := s1.courierLane 1 k (sent.flatMap encodeItem)
  if long = [] then s2 else s2.readySection 3 5 k

/-- A bulk section takes at most 1,024 blocks of what waits. -/
def State.bulkPack (s : State) : State :=
  let b := s.twin.bulkOut
  let k := Tab.get 0 (s.link 3).readyAt 5
  let s1 := ({ s with twin := { s.twin with bulkOut := b.drop 8192 } } : State).courierLane 5 k (b.take 8192)
  if b.length ≤ 8192 then s1 else s1.readySection 3 5 k

/-- SECTION_SEND (R369, R479): on the courier link a section of kind 1 or 5 takes its items as it starts. -/
def State.sendSection (s : State) (l : Nat) : State :=
  let s1 := s.sectionSend l
  if l ≠ 3 ∨ s1.isCourier 3 = false ∨ s1.linkOn 3 = false ∨ s.lanesIdle then s1
  else match (s1.link 3).sending with
    | some 1 => s1.courierPack
    | some 5 => s1.bulkPack
    | _ => s1

/-! ### Alarms (R484, R485, R490) -/

/-- PATH_ALARM of a path rises or clears. -/
def State.setAlarm (s : State) (path : Nat) (up : Bool) : State :=
  if s.twin.alarms.contains path = up then s
  else
    let s1 : State := { s with twin := { s.twin with
      alarms := if up then path :: s.twin.alarms else s.twin.alarms.filter (· ≠ path) } }
    s1.post nPathAlarm El.twPaths [path, if up then 1 else 0]

/-- Set or clear a bit of `tw_paths`. -/
def State.setPath (s : State) (i : Nat) (v : Bool) : State :=
  let n := s.nat El.twPaths
  if bitOf n i = v then s else s.setN El.twPaths (if v then n + 2 ^ i else n - 2 ^ i)

/-- The alarms of the heartbeat paths: raised while exactly one is silent. -/
def State.pathAlarms (s : State) : State :=
  (s.setAlarm 1 (s.silent 1 && !s.silent 2)).setAlarm 2 (s.silent 2 && !s.silent 1)

/-! ### Changes of role (R475, R480, R494, R498) -/

/-- The SHADOW follows coach link 3 while its partner is ACTIVE and the link in step, and its own table otherwise (R478). -/
def State.followCourier (s : State) : State :=
  if s.partnerLeads ∧ s.nat El.refSelected ≠ 0x43 then s.selectRef 0x43 0
  else if s.mode = 7 ∧ s.partnerLeads = false ∧ s.nat El.refSelected = 0x43 ∧
      (s.prioTable.contains 0x43 && s.qualified 0x43) = false then s.reselect 0
  else s

/-- An engine that leaves SHADOW reselects from its own table (R478). -/
def State.ownReference (s : State) : State := if s.nat El.refSelected = 0x43 then s.reselect 0 else s

/-- The reset of what an attempt at resync gathers. -/
def Twin.attempt (t : Twin) (step : Nat) : Twin := { t with resyncStep := step, verified := 0, firstMatch := 0, run := 0 }

/-- Progress of steps 1 and 2 of R498: open until both are done (log entry 3). -/
def State.openProgress (s : State) : State := let w := s.fresh; w.2.setN El.twResyncProgress (w.1 % 101)

/-- RESYNC is entered: `tw_rank` becomes 0, and step 1 begins (R498). -/
def State.enterResync (s : State) : State :=
  let was := s.mode
  let s1 := if was = 8 then s else s.changeMode 8
  let s2 := (if was = 7 then s1.ownReference else s1).setAll [El.twRank] 0
  let s3 := (s2.setN El.twRole 2).setN El.twResyncAttempts 1
  let s4 : State := { s3 with twin := { s3.twin.attempt 1 with driving := false, digests := [], partnerDigests := [], bulk := [] } }
  (s4.openProgress).courierPut (.identity s4.variant.featureMap (s4.nat El.fwVersion) (s4.nat El.settingsFormat) (s4.nat El.fsInt)
    s4.roundB (s4.nat El.engineNumber) (s4.nat El.tgId))

/-- ACTIVE is entered from joining (R475): the engine drives from the first window it wins. -/
def State.enterActive (s : State) : State := (s.changeMode 6).setN El.twRole 4

/-- A resync fails, with the result of R500: the engine stays in RESYNC and drives nothing. -/
def State.failResync (s : State) (result : Nat) : State :=
  let s1 : State := { s with twin := s.twin.attempt 0 }
  (s1.setN El.twRole 6).post nResyncDone El.twRole ([result, s.nat El.twResyncAttempts] ++ twoWords s.twin.firstMatch)

/-- SHADOW is entered after the verification (R498). Pending changes that the ACTIVE passed on stay. -/
def State.enterShadow (s : State) : State :=
  let n := s.nat El.twResyncAttempts
  let m := s.twin.firstMatch
  let s1 : State := { s with twin := s.twin.attempt 0 }
  let s2 := (s1.setMode 7).setN El.twRole 3
  let s3 := (s.followPsc s2 false).post nResyncDone El.twRole ([0, n] ++ twoWords m)
  s3.followCourier

/-- A failed attempt from step 2 on, or the last one (R500). -/
def State.retryResync (s : State) : State :=
  let n := s.nat El.twResyncAttempts
  if 3 ≤ n then s.failResync 1
  else ({ s with twin := s.twin.attempt 2 } : State).setN El.twResyncAttempts (n + 1)

/-- `tw_resync`: a new attempt in RESYNC (R500); it begins with step 1 (log entry 43). -/
def State.applyResync (s : State) (v : Nat) : State :=
  if v ≠ 1 ∨ s.mode ≠ 8 ∨ (s.nat El.twRole ≠ 2 ∧ s.nat El.twRole ≠ 6) then s
  else
    let s1 : State := { s with twin := { s.twin.attempt 1 with bulk := [] } }
    ((s1.setN El.twRole 2).setN El.twResyncAttempts 1).openProgress

/-! ### Heartbeats (R475, R476, R480, R484) -/

/-- The outcome of joining, once the partner was heard (R475): an engine beside another joining engine waits for its
identity. -/
def State.joinOutcome (s : State) (claim : Nat) : State :=
  if s.nat El.twRole ≠ 1 ∨ s.nat El.twRefusal ≠ 0 then s
  else if s.twin.partnerRole = 3 ∨ s.twin.partnerRole = 4 ∨ s.twin.partnerRole = 5 then s.enterResync
  else if s.twin.partnerRole = 1 ∧ s.nat El.twPartnerEngine ≠ 0xFFFF then
    (if claim < s.claim then s.enterActive else s.enterResync)
  else s

/-- HEARTBEAT: the partner's item on the courier. -/
def State.heartbeat (s : State) (round role claim : Nat) : State :=
  if s.twinned = false ∨ s.linkOn 3 = false then s
  else
    let k := s.link 3
    let s1 : State := { s.setLink 3 { k with farClaim := claim } with twin := { s.twin with
      silentCourier := 0, everHeard := true, partnerRole := role, heartRound := round + 1 } }
    let s2 := ((s1.setPath 0 true).setN El.twPartnerClaim claim).pathAlarms.setAlarm 4 false
    if s2.nat El.twRole = 5 then s2.enterResync else (s2.joinOutcome claim).followCourier

/-- HB_PULSE: a pulse on HB_IN, of a width in ns (R484, R583). -/
def State.hbPulse (s : State) (width : Nat) : State :=
  let w := s.takesPulse width 40 10
  if s.twinned = false then s
  else if w.1 = false then w.2
  else
    let s1 : State := { w.2 with twin := { s.twin with silentPair := 0, everHeard := true } }
    (s1.setPath 1 true).pathAlarms

/-- PATH_SILENT: no heartbeat on a path for `tw_fail_rounds` pulses (R484, R485). With both paths silent a resync ends
with result 3 (R500). -/
def State.pathSilent (s : State) (path : Nat) : State :=
  if s.twinned = false ∨ s.silent path = false ∨ (path ≠ 1 ∧ path ≠ 2) then s
  else
    let s1 := (s.setPath (path - 1) false).pathAlarms
    if s1.partnerFailed ∧ s1.mode = 8 ∧ s1.nat El.twRole = 2 then s1.failResync 3 else s1

/-- IDENTITY: a joining engine compares the partner's settings with its own (R476). -/
def State.identity (s : State) (feature fw fmt fs b engine tg : Nat) : State :=
  if s.twinned = false ∨ s.linkOn 3 = false then s
  else
    let s1 := s.setN El.twPartnerEngine (engine % 65536)
    if s1.nat El.twRole ≠ 1 then s1
    else
      let why :=
        if feature ≠ s.variant.featureMap then 1
        else if fw ≠ s.nat El.fwVersion ∨ fmt ≠ s.nat El.settingsFormat then 2
        else if fs ≠ s.nat El.fsInt ∨ b ≠ s.roundB then 3
        else if engine % 256 = s.nat El.engineNumber % 256 then 4
        else if tg ≠ s.nat El.tgId then 5
        else 0
      let s2 := s1.setN El.twRefusal why
      if s.twin.everHeard then s2.joinOutcome (s.link 3).farClaim else s2

/-- ALONE_WAIT_EXPIRY: no heartbeat on either path within `tw_alone_wait` (R475). -/
def State.aloneExpiry (s : State) : State :=
  if s.mode ≠ 8 ∨ s.nat El.twRole ≠ 1 ∨ s.nat El.twRefusal ≠ 0 ∨ s.twin.everHeard ∨
      s.time.tick < s.twin.joinedAt + s.nat El.twAloneWait * 1000000 then s
  else s.enterActive

/-- WATCHDOG_LAPSE: drivers off, CLAIM_IO released, heartbeats stopped, FAULT (R483). -/
def State.watchdogLapse (s : State) : State :=
  if s.anchored = false then s
  else ({ s with twin := { s.twin with driving := false, watchdog := false } } : State).enterFault 2 []

/-! ### The pulse (R484, R498, R500) -/

/-- Heartbeats of the pulse of round k, and one more pulse without the partner's (R479, R484). -/
def State.beat (s : State) (k : Nat) : State :=
  if s.twinned = false then s
  else
    let t := s.twin
    let s1 : State := { s with twin := { t with silentCourier := t.silentCourier + 1, silentPair := t.silentPair + 1 } }
    if t.watchdog = false then s1
    else
      let played := match s.rounds.playing with
        | none => 0
        | some r => if (s.rounds.repeats.any (fun e => e.1 == r)) then 0 else roundIdx r
      let s2 := s1.courierPut (.heartbeat k played (s.nat El.twRole) (s.nat El.twHealth) (s.nat El.refSelected) s.claim)
      let s3 := if s.mode = 6 then
          s2.courierPut (.asrc k (((List.range 32).filter (fun g => s.nat (El.agState g) = 2)).map (fun g =>
            (g, Tab.get 0 s.sap.asrcPos g, 2))))
        else s2
      ({ s3 with twin := { s3.twin with hbOut := some k } } : State).readySection 3 1 k

/-- Bytes of the in-trays that a resync keeps, and of those that the engine area takes beside them (R498, R500). -/
def trayBytes (r : Rounds) : Nat := (r.inTrays.map (fun e => (e.2.map (fun x => 4 * x.2.length)).sum)).sum

/-- Bytes of the engine area that scenes and staged images leave free. -/
def State.engineFree (s : State) : Nat :=
  s.engineSize - ((s.regs.filter (fun e => isStaged e.1)).map (fun e => e.2.toBytes.length)).sum

/-- An engine area without room for the in-trays ends the resync with result 2 (R500). -/
def State.resyncRoom (s : State) : State :=
  if s.mode = 8 ∧ s.nat El.twRole = 2 ∧ (s.twin.resyncStep = 2 ∨ s.twin.resyncStep = 3) ∧ s.engineFree < trayBytes s.rounds then
    s.failResync 2
  else s

/-! ### The claim window (R488 to R492) -/

/-- Sample of the H of window k, with h = ⌈8 µs × Fs⌉ (R492). -/
def State.handSample (s : State) (k : Nat) : Nat := s.firstSample k + ceilDiv (8 * s.fs) 1000000

/-- Whether this engine has the lower `tie` of the two; beside an unknown partner it takes slot P0 (log entry 108). -/
def State.lowerTie (s : State) : Bool :=
  s.nat El.twPartnerEngine == 0xFFFF || decide (s.nat El.engineNumber % 256 < s.nat El.twPartnerEngine % 256)

/-- The 16 bits of a claim in their slots, most significant first: what the engine pulls in each, and whether it has lost at the
end. It loses where it releases the line for a 0 bit that reads low, and releases every later slot (R488, R489). -/
def claimSlots (claim : Nat) (others : List Bool) : List Bool × Bool :=
  (List.range 16).foldl (fun (a : List Bool × Bool) i =>
    let own := !a.2 && bitOf claim (15 - i)
    (a.1 ++ [own], a.2 || (!own && others.getD i false))) ([], false)

/-- What the engine pulls low in the 19 slots, and whether it completes all bits without losing: slot S, the presence slot of its
tie, and the bits of its claim where it arbitrates (R488, R489, R491). -/
def State.claimPulls (s : State) (others : List Bool) : List Bool × Bool :=
  let low := s.lowerTie
  let r := claimSlots s.claim (others.drop 3)
  if s.arbitrates then ([true, low, !low] ++ r.1, !r.2) else ([true, low, !low] ++ List.replicate 16 false, false)

/-- CLAIM_WINDOW: the window of the last pulse, with what CLAIM_IO shows (R488 to R491). The partner is present where the line
is low in its presence slot. A winner beside a present partner won by its higher claim, or, where the partner's last seen
claim is the higher, because the partner met a line fault. The cause that an engine gives when it yields at a line fault of
its own is open (log entry 3). -/
def State.claimWindow (s : State) (x : ClaimLine) : State :=
  let k := s.roundIssued
  if s.twinned = false ∨ s.twin.watchdog = false ∨ s.twin.window = some k ∨ s.rounds.nextPulse ≤ s.rounds.first then s
  else
    let fault := x.idleLow || x.stuckHigh
    let c := s.claim
    let pulls := s.claimPulls x.others
    let present := !x.stuckHigh && x.others.getD (if s.lowerTie then 2 else 1) false
    let s1 := ((s.setN El.twClaim c).setPath 2 present).setPath 3 fault
    let s2 := (if present then s1 else s1.setN El.twPartnerClaim 0).setAlarm 3 fault
    let won := pulls.2 && !fault
    let w := s2.fresh
    let cause :=
      if won then (if present = false then 0 else if (s.link 3).farClaim < c then 1 else 2)
      else if fault then w.1 % 3 else 1
    let s3 := if fault then w.2 else s2
    let s4 : State := { s3 with twin := { s3.twin with
      window := some k, won := won, cause := cause, present := present, handed := false, slots := pulls.1 } }
    if s4.mode = 7 ∧ won = false ∧ fault = false ∧ s4.partnerFailed ∧ s4.nat El.twRole = 3 then
      (s4.setN El.twRole 5).setAlarm 4 true
    else s4

/-- The role that the mode and the outcome on CLAIM_IO give, where the twin objects show another (R283, R494). -/
def State.twinRole (s : State) : Nat :=
  let role := s.nat El.twRole
  if s.mode = 6 then 4 else if s.mode = 7 then (if role = 5 then 5 else 3)
  else if s.mode = 8 then (if role = 1 ∨ role = 2 ∨ role = 6 then role else 1) else role

/-- At a round boundary the twin state objects follow the outcome on CLAIM_IO (R283, R494): an ACTIVE that does not drive and lost the
window is SHADOW. -/
def State.correctTwin (s : State) : State :=
  if s.twinned = false then s
  else
    let s1 := if s.mode = 6 ∧ s.twin.driving = false ∧ s.twin.won = false ∧ s.twin.window.isSome ∧ s.twin.handed then
        (s.discardEnvelopes 2).setMode 7 else s
    s1.correct El.twRole (.int s1.twinRole)

/-- TAKEOVER: 1 took, 0 yielded (R494). -/
def State.postTakeover (s : State) (took k : Nat) : State :=
  (s.post nTakeover El.twRole ([took] ++ twoWords k ++ [s.twin.cause, s.nat El.twClaim, (s.link 3).farClaim])).inc El.twTakeovers

/-- DRIVER_ENABLE: t_gap after H, or after t_listen more where the partner was present and link 3 is out of step, the
winner that was not driving enables its drivers (R492, R527). -/
def State.driverEnable (s : State) : State :=
  match s.twin.window with
  | none => s
  | some k =>
    let wait := if s.twin.present ∧ s.inStep 3 = false then 2120 else 120
    if s.mode ≠ 6 ∨ s.twin.won = false ∨ s.twin.handed = false ∨ s.twin.driving ∨
        s.smpClk < s.clkOf (s.handSample k) + wait * 65536 then s
    else
      let s1 : State := ({ s with twin := { s.twin with driving := true, recover := false } } : State).armPulses (s.clkOf (s.handSample k)) (wait * 65536)
      let s2 := (s1.setN El.twLastDrove (s.firstSample s.roundIssued)).showMode
      s.followPsc s2 s.twin.recover

/-! ### Digests (R481, R482) -/

/-- The digest of the round whose outputs MIX holds. -/
def State.digestOf (s : State) : Nat :=
  let l := (List.range s.variant.dests).filter (fun d => decide (3 ≤ tgtKind (s.nat (El.dstTarget d))) && decide (tgtKind (s.nat (El.dstTarget d)) ≤ 6))
  if l = [] then 0 else crc32c (l.flatMap (fun d => (s.destOut d).flatMap (fun z => leBytes 4 (wrap 32 z))))

/-- A pair of digests of round k is compared. -/
def State.compareDigests (s : State) (k own far : Nat) : State :=
  let s1 : State := { s with twin := { s.twin with
    digests := s.twin.digests.filter (fun e => e.1 ≠ k)
    partnerDigests := s.twin.partnerDigests.filter (fun e => e.1 ≠ k) } }
  if own = far then
    { s1 with twin := { s1.twin with
      run := 0
      firstMatch := if s1.twin.resyncStep = 4 ∧ s1.twin.verified = 0 then k else s1.twin.firstMatch
      verified := if s1.twin.resyncStep = 4 then s1.twin.verified + 1 else s1.twin.verified } }
  else
    let run := s.twin.run + 1
    let s2 := s1.inc El.twMismatches
    let due := run == 1 || decide (s.twin.mismatchAt + 1000000000 ≤ s.time.tick)
    let s3 : State := { s2 with twin := { s2.twin with
      run := run
      mismatchAt := if due then s.time.tick else s.twin.mismatchAt } }
    let s4 := if due then s3.post nDigestMismatch El.twMismatches (twoWords k ++ [own, far, run]) else s3
    if s4.mode = 7 ∧ s4.nat El.twMismatchLimit ≤ run then s4.enterResync
    else if s4.mode = 8 ∧ s4.twin.resyncStep = 4 then s4.retryResync
    else s4

/-- Whether digests are compared: in ACTIVE, in SHADOW, and in step 4 of a resync. -/
def State.compares (s : State) : Bool := s.twinned && (s.mode != 8 || s.twin.resyncStep == 4)

/-- The digest of round k is computed, and sent in the next courier section. -/
def State.noteDigest (s : State) (k : Nat) : State :=
  if s.twinned = false then s
  else
    let d := s.digestOf
    let s1 := s.courierPut (.digest k d)
    let far := Tab.get 0 s.twin.partnerDigests k
    if far ≠ 0 ∧ s.compares then s1.compareDigests k d (far - 1)
    else { s1 with twin := { s1.twin with digests := (Tab.ins k (d + 1) s1.twin.digests).filter (fun e => decide (k ≤ e.1 + 64)) } }

/-- DIGEST: the partner's digest of round k. -/
def State.takeDigest (s : State) (k crc : Nat) : State :=
  if s.twinned = false ∨ s.linkOn 3 = false then s
  else
    let own := Tab.get 0 s.twin.digests k
    if own ≠ 0 ∧ s.compares then s.compareDigests k (own - 1) crc
    else { s with twin := { s.twin with
      partnerDigests := (Tab.ins k (crc + 1) s.twin.partnerDigests).filter (fun e => decide (k ≤ e.1 + 64)) } }

/-! ### The SHADOW's wait (R480) -/

/-- Whether a SHADOW waits for the courier before it computes round k. -/
def State.courierWaits (s : State) (k : Nat) : Bool :=
  let n := s.lineUp k + 1
  s.mode == 7 && s.nat El.twRole == 3 && !s.partnerFailed && (decide (s.twin.heartRound < n) || decide (s.twin.asrcRound < n) || s.twin.refs.any (fun e => e.1 == 4))

/-- COURIER_WAIT_EXPIRY: the wait for round k has run out, and the SHADOW becomes isolated. -/
def State.courierExpiry (s : State) (k : Nat) : State :=
  let r := s.rounds.nextRound
  if s.courierWaits r = false ∨ s.rounds.current.isSome ∨ roundIdx r ≠ k ∨ s.rounds.waiting = [] ∨
      s.time.tick < Tab.get 0 s.rounds.pulseAt r + s.nat El.twCourierWait * s.roundsNs 1 / 256 then s
  else s.setN El.twRole 5

/-- ASRC_POSITIONS of round k from the ACTIVE (R318, R480). -/
def State.takeAsrc (s : State) (k : Nat) (groups : List (Nat × Nat × Nat)) : State :=
  if s.twinned = false ∨ s.linkOn 3 = false ∨ s.mode = 6 then s
  else
    let s1 := if s.asrcFollows then s.asrcTake groups else s
    { s1 with twin := { s1.twin with asrcRound := k + 1 } }

/-! ### Resync (R498, R499) -/

/-- The jobs of the images in effect, each with its cluster, its service core and the core that holds its memories. -/
def State.heldJobs (s : State) : List (Nat × Nat × Nat × Job) :=
  (List.range s.variant.clusters).flatMap (fun c => match (s.cluster c).image with
    | none => []
    | some im => im.sections.flatMap (fun x => x.jobs.map (fun jb => (c, x.core, s.holder c x.core, jb))))

/-- A copy of the engine's running state as it stands (R498). -/
def State.freeze (s : State) : Snapshot :=
  let jobs := s.heldJobs
  let words (f : Nat → Word) (a n : Nat) : List Word := (List.range n).map (fun i => f (a + i))
  let granted := jobs.flatMap (fun e => (e.2.2.2.regions.filter (·.write)).map (fun r => (e.1, r)))
  let m := s.mix
  let q := s.sap
  { round := roundIdx s.roundIssued
    xs := jobs.map (fun e => (e.1, e.2.1, e.2.2.2.xAt, words (s.core e.1 e.2.2.1).readX e.2.2.2.xAt e.2.2.2.xLen))
    ys := jobs.map (fun e => (e.1, e.2.1, e.2.2.2.yAt, words (s.core e.1 e.2.2.1).readY e.2.2.2.yAt e.2.2.2.yLen))
    store := (granted.filter (fun e => !e.2.dram)).map (fun e =>
      (e.1, e.2.base, (List.range e.2.len).map (fun i => Tab.get 0 (s.cluster e.1).store (e.2.base + i))))
    dram := (granted.filter (fun e => e.2.dram)).map (fun e => (e.2.base, s.dramRead e.2.base e.2.len))
    inEffect := m.inEffect, incoming := m.incoming, staged := m.staged, xramps := m.xramps, before := m.before, resv := m.resv
    lims := m.lims, meters := m.meters, louds := m.louds, count := m.count, pink := m.pink
    strips := s.strips
    agState := (List.range 32).map (fun g => s.nat (El.agState g))
    agRatio := (List.range 32).map (fun g => s.nat (El.agRatio g))
    asrcFade := q.asrcFade, asrcLoss := q.asrcLoss, asrcPos := q.asrcPos, asrcSeen := q.asrcSeen, asrcRate := q.asrcRate
    asrcIn := q.asrcIn
    speakers := (s.psc.map (fun e => (e.1, e.2.speaker))).filter (fun e => e.2 ≠ Speaker.fresh) }

/-- SNAPSHOT: at a round boundary the ACTIVE freezes a copy of its state for its resyncing partner, and sends it in bulk. -/
def State.snapshot (s : State) : State :=
  if s.mode ≠ 6 ∨ s.twin.partnerRole ≠ 2 then s
  else ({ s with twin := { s.twin with frozen := some s.freeze } } : State).readySection 3 5 s.roundIssued

/-- The memories of jobs and the regions with write rights take the words of a snapshot. -/
def State.thawJobs (s : State) (x : Snapshot) : State :=
  let s1 := x.xs.foldl (fun (k : State) e =>
    let j := k.holder e.1 e.2.1
    k.setCore e.1 j (e.2.2.2.zipIdx.foldl (fun m q => m.writeX (e.2.2.1 + q.2) q.1) (k.core e.1 j))) s
  let s2 := x.ys.foldl (fun (k : State) e =>
    let j := k.holder e.1 e.2.1
    k.setCore e.1 j (e.2.2.2.zipIdx.foldl (fun m q => m.writeY (e.2.2.1 + q.2) q.1) (k.core e.1 j))) s1
  let s3 := x.store.foldl (fun (k : State) e =>
    k.setCluster e.1 { k.cluster e.1 with store := writeCells (k.cluster e.1).store e.2.1 e.2.2 }) s2
  x.dram.foldl (fun (k : State) e => k.dramWrite e.1 e.2) s3

/-- MIX, the strips, the ASRC bank and the loudspeaker models take what a snapshot holds of them. -/
def State.thawPath (s : State) (x : Snapshot) : State :=
  let groups (k : State) (f : Nat → Nat) (l : List Nat) : State := l.zipIdx.foldl (fun (q : State) e => q.setN (f e.2) e.1) k
  let s1 := groups (groups s El.agState x.agState) El.agRatio x.agRatio
  let s2 := s1.pscList.foldl (fun (k : State) n => k.setPscCh n { k.pscCh n with speaker := Tab.get Speaker.fresh x.speakers n }) s1
  { s2 with
    mix := { s2.mix with
      inEffect := x.inEffect, incoming := x.incoming, staged := x.staged, xramps := x.xramps, before := x.before, resv := x.resv
      lims := x.lims, meters := x.meters, louds := x.louds, count := x.count, pink := x.pink }
    strips := x.strips
    sap := { s2.sap with
      asrcFade := x.asrcFade, asrcLoss := x.asrcLoss, asrcPos := x.asrcPos, asrcSeen := x.asrcSeen, asrcRate := x.asrcRate
      asrcIn := x.asrcIn } }

/-- The in-trays that a RESYNC engine kept from round k_s + 1 on remain; a round that it had begun is dropped. -/
def State.keepFrom (s : State) (k : Nat) : State :=
  let r := s.rounds
  let after (n : Nat) : Bool := decide (k < s.lineUp n)
  let left := r.waiting.filter after
  { s with rounds := { r with
    waiting := left, current := none, phase := 0, nextRound := left.headD r.nextPulse
    inTrays := r.inTrays.filter (fun e => after e.1 || e.1 == r.nextPulse)
    liveAt := r.liveAt.filter (fun e => after e.1) } }

/-- SNAPSHOT_RECEIVED: the copy of the ACTIVE's running state is whole, and the replay begins with the round after it (R498). -/
def State.snapshotReceived (s : State) (x : Snapshot) : State :=
  if s.mode ≠ 8 ∨ s.nat El.twRole ≠ 2 ∨ s.twin.resyncStep ≠ 2 then s
  else
    let s1 := ((s.thawJobs x).thawPath x).keepFrom x.round
    ({ s1 with twin := { s1.twin with resyncStep := 3, bulk := [] } } : State).setN El.twResyncProgress 100

/-- REPLAY_DONE: lag has returned to zero, and the verification begins (R498). -/
def State.replayDone (s : State) : State :=
  if s.mode ≠ 8 ∨ s.twin.resyncStep ≠ 3 ∨ s.nat El.lagNow ≠ 0 ∨ s.rounds.waiting ≠ [] then s
  else { s with twin := { s.twin.attempt 4 with digests := [], partnerDigests := [] } }

/-- RESYNC_VERIFY_DONE: 64 consecutive rounds matched, and the engine enters SHADOW (R498). -/
def State.verifyDone (s : State) : State :=
  if s.mode ≠ 8 ∨ s.twin.resyncStep ≠ 4 ∨ s.twin.verified < 64 then s else s.enterShadow

end Sys2Proof.Machine
end

