-- ==== Sys2Proof/Machine/Clocks.lean ====
section
/-! DEFINITION. The clock sources, their failure and SAFE_HOLD (R416 to R423, R435, R436). -/

namespace Sys2Proof.Machine

/-- The cause code of a clock source (R435). -/
def clockCode : ClockSource → Nat
  | .xo => 1 | .audref => 2 | .pll0 => 3 | .pll1 => 4 | .pll2 => 5 | .pll3 => 6 | .dpll => 7 | .netPll => 8 | .casPll => 9

/-- The bit of `clk_state` that says a source is good (R436). -/
def clockBit : ClockSource → Nat
  | .xo => 0 | .audref => 1 | .pll0 => 3 | .pll1 => 4 | .pll2 => 5 | .pll3 => 6 | .dpll => 7 | .netPll => 8 | .casPll => 9

/-- The sources. -/
def clockSources : List ClockSource := [.xo, .audref, .pll0, .pll1, .pll2, .pll3, .dpll, .netPll, .casPll]

/-- Whether a source is judged good. -/
def State.clockGood (s : State) (k : ClockSource) : Bool := bitOf (s.nat El.clkState) (clockBit k)

/-- Set or clear bits of `clk_state`. -/
def State.setClk (s : State) (bits : List Nat) (v : Bool) : State :=
  s.setN El.clkState (bits.foldl (fun n i => if bitOf n i = v then n else if v then n + 2 ^ i else n - 2 ^ i) (s.nat El.clkState))

/-- Whether the base is `AUDREF_IN`. -/
def State.baseAudref (s : State) : Bool := bitOf (s.nat El.clkState) 2

/-- Whether a source is in use (R418): it feeds the engine, or an island that is up. -/
def State.clockUsed (s : State) : ClockSource → Bool
  | .xo => true
  | .pll0 => true
  | .audref => s.baseAudref
  | .pll1 => s.domainUp 0x0A || (List.range 8).any (fun c => s.domainUp (2 + c))
  | .pll2 => s.domainUp 0x0B
  | .pll3 => s.domainUp 0x13 || s.domainUp 0x11
  | .dpll => s.domainUp 0x10 || s.domainUp 0x12 || s.domainUp 0x13
  | .netPll => s.domainUp 0x0D
  | .casPll => s.domainUp 0x0F

/-- The bits that go with a source: a PLL whose source stops loses its lock (R416). -/
def State.lostBits (s : State) : ClockSource → List Nat
  | .xo => [0, 3, 4, 5, 6, 8, 9] ++ (if s.baseAudref then [] else [7])
  | .audref => [1, 2]
  | k => [clockBit k]

/-- The bits that come back with a source once its clocks are restarted (R421). -/
def State.goodBits (s : State) : ClockSource → List Nat
  | .xo => [0, 3, 4, 5, 6, 7, 8, 9]
  | .audref => if s.nat El.clkBase = 1 then [1, 2] else [1]
  | k => [clockBit k]

/-! ### Start-up (R417, R422) -/

/-- A start sequence failed, with the code that it gives `boot_status`; after three the engine stays in its safe states. -/
def State.clockStartFails (s : State) (code : Nat) : State :=
  if 3 ≤ s.refs.clockFails then s
  else
    let n := s.refs.clockFails + 1
    let s1 := ({ s with refs := { s.refs with clockFails := n } } : State).setN El.clkState 0
    if n = 3 then s1.setN El.bootStatus code else s1

/-- The code of a clock that fails while the clocks start. -/
def State.startCode (s : State) (k : ClockSource) : Nat :=
  if s.clockGood k then 0x33
  else match k with
    | .xo => 0x31
    | .audref => 0x34
    | _ => 0x32

/-! ### SAFE_HOLD (R418 to R421) -/

/-- SAFE_HOLD is entered (R418, R420): rounds stop, outputs and the claim are released, work in flight goes. -/
def State.enterSafe (s : State) (k : ClockSource) : State :=
  let was := s.mode
  let s1 := s.stopRounds false
  let s2 : State := { s1 with
    refs := { s1.refs with safe := some ⟨clockCode k, s.time.tick, was, s.nat El.refSelected, false, 0⟩ }
    twin := { s1.twin with driving := false, resyncStep := 0 }
    sys := { s1.sys with actStep := if was = 9 then 2 else 0 } }
  let s3 := ((s2.setMode 3).inc El.clkSafeCount).setN El.clkSafeCause (clockCode k)
  ((s.followPsc s3 false).discardWork 3).post nClockSafe El.clkState [clockCode k, 1, 0]

/-- CLOCK_FAILURE: a detector trips, or a PLL loses lock (R418, R422): while the fallback of `AUDREF_IN`, the XO, is not good there is
no switch, and the start sequence has failed. -/
def State.clockFailure (s : State) (k : ClockSource) : State :=
  if s.clockUsed k = false then s.setClk [clockBit k] false
  else if s.mode = 2 then s.clockStartFails (s.startCode k)
  else if s.mode = 3 ∧ k = .audref ∧ s.clockGood .xo = false then s.clockStartFails 0x33
  else if s.mode = 3 then
    (match s.refs.safe with
      | none => s
      | some x => ({ s with refs := { s.refs with safe := some { x with returned := false } } } : State).setClk (s.lostBits k) false)
  else if 4 ≤ s.mode then (s.enterSafe k).setClk (s.lostBits k) false
  else s

/-- The engine leaves SAFE_HOLD (R421): to the mode it left, or RESYNC in a twin; the timeline is anchored afresh. -/
def State.leaveSafe (s : State) : State :=
  match s.refs.safe with
  | none => s
  | some x =>
    let ms := (s.time.tick - x.since) / 1000000 % 2 ^ 32
    let twin : Bool := x.back == 6 || x.back == 7 || x.back == 8 || (x.back == 9 && s.sys.actFrom == 7)
    let s1 : State := { s with refs := { s.refs with safe := none } }
    let s2 := if twin then ((s1.anchor).setMode 8).enterResync
      else
        let s3 := if (5 ≤ x.back ∧ x.back ≤ 8) ∨ (x.back = 9 ∧ s.sys.actFrom = 5) then s1.anchor else s1
        s1.followPsc (s3.setMode x.back) false
    (s2.setN El.clkSafeTime ms).post nClockSafe El.clkState [x.cause, 0, ms]

/-- Whether the reference that was selected has qualified again, or none was. -/
def State.referenceBack (s : State) (x : Safe) : Bool := x.ref == 0 || s.qualified x.ref

/-- A clock is judged good again. In SAFE_HOLD, once every clock in use is, the engine restarts its clocks and waits for
the reference (R421). -/
def State.clockBack (s : State) (k : ClockSource) : State :=
  let s1 := s.setClk (s.goodBits k) true
  match s1.refs.safe with
  | none => s1
  | some x =>
    if s1.mode ≠ 3 ∨ x.returned ∨ clockSources.any (fun c => s1.clockUsed c && !s1.clockGood c) then s1
    else
      let y := { x with returned := true, waitFrom := s1.time.tick }
      let s2 : State := { s1 with refs := { s1.refs with safe := some y } }
      if s2.referenceBack y then s2.leaveSafe else s2

/-- CLOCK_RETURN: a failed clock returns and is judged good again (R421). -/
def State.clockReturn (s : State) (k : ClockSource) : State := if s.mode = 3 then s.clockBack k else s

/-- REFERENCE_WAIT_EXPIRY: the reference qualified again, or 5 s passed (R421). -/
def State.referenceExpiry (s : State) : State :=
  match s.refs.safe with
  | none => s
  | some x =>
    if s.mode = 3 ∧ x.returned ∧ (s.referenceBack x ∨ x.waitFrom + 5000000000 ≤ s.time.tick) then s.leaveSafe else s

/-- Whether the system and SerDes PLLs of step 3 of R417 are all locked. -/
def State.pllsLocked (s : State) : Bool := [ClockSource.pll0, .pll1, .pll2, .pll3, .netPll, .casPll].all s.clockGood

/-- Whether a start sequence of BOOT goes on: fewer than three have failed (R422). -/
def State.startsOn (s : State) : Bool := decide (s.refs.clockFails < 3)

/-- XO_JUDGEMENT: eight windows against the RC count (R416). -/
def State.judgeXo (s : State) (good : Bool) : State :=
  if s.mode = 2 then
    (if s.startsOn = false then s else if good then s.setClk [0] true else s.clockStartFails 0x31)
  else if s.mode = 3 ∧ good then s.clockBack .xo
  else s

/-- AUDREF_JUDGEMENT: eight windows against the XO count; judged good, it becomes the base where `clk_base` asks for it
(R416, R417). In BOOT it follows the PLLs. -/
def State.judgeAudref (s : State) (good : Bool) : State :=
  if s.mode = 2 ∧ (s.startsOn = false ∨ s.pllsLocked = false) then s
  else if s.mode = 3 ∧ good then s.clockBack .audref
  else if 2 ≤ s.mode ∧ s.clockGood .xo then
    (if good then s.setClk (s.goodBits .audref) true
    else if s.mode = 2 ∧ s.storedNat El.clkBase = 1 then s.clockStartFails 0x34
    else s.setClk [1, 2] false)
  else s

/-- Whether the audio DPLL may start in BOOT: it comes last, after the base that `clk_base` asks for (R417). -/
def State.dpllMay (s : State) : Bool := s.pllsLocked && (s.storedNat El.clkBase != 1 || s.baseAudref)

/-- PLL_LOCK: a PLL locks, and its islands move onto it (R417, R419). -/
def State.pllLock (s : State) (k : ClockSource) : State :=
  if k = .xo ∨ k = .audref ∨ s.clockGood .xo = false ∨ (s.mode = 2 ∧ (s.startsOn = false ∨ (k = .dpll ∧ s.dpllMay = false))) then s
  else if s.mode = 3 then s.clockBack k
  else if 2 ≤ s.mode then s.setClk [clockBit k] true
  else s

/-- SGMII_CLOCK_FAILURE: only port M goes down (R418). -/
def State.sgmiiFailure (s : State) : State := s.setAll [El.portLink 2, El.portRateNow 2] 0

end Sys2Proof.Machine
end

