-- ==== Sys2Proof/Machine/Read.lean ====
section
/-! DEFINITION. What a READ of an element delivers (R33, R130, R200, R251, R287, R430, R433, R470, R472, R562, R563):
the dictionary's value, but for elements that the engine computes as they are read. -/

namespace Sys2Proof.Machine

/-- Readings that are measured outside: loads in percent (R200, R470), temperature and power (R563). A READ takes each
anew. The loads count what the model's own requests moved, out of data bytes; the rest of the traffic is open (log entry 3). -/
def isDramLoad (a : Nat) : Bool :=
  (areaOf a == 0x0B && decide (0x10 ≤ objectOf a) && decide (objectOf a < 0x14) &&
    ((List.range 4).any (fun c => a == El.dcLoadExp c || a == El.dcLoadFirst c || a == El.dcLoadSecond c || a == El.dcLoadBulk c)))
/-- The offered loads of a network port, by priority. -/
def isPortLoad (a : Nat) : Bool := areaOf a == 0x05 && decide (objectOf a < 3) && decide (0x1A ≤ elementOf a) && decide (elementOf a < 0x22)
def isLoad (a : Nat) : Bool := isDramLoad a || isPortLoad a
def isThermal (a : Nat) : Bool := a == El.dieTemp || a == El.dieTempMax || a == El.pwrEst || a == El.pwrEstMax

/-- The reading of a measured element is taken. -/
def State.takeReading (s : State) (a : Nat) : State :=
  if isThermal a then s.measure
  else if a = El.updProgress ∧ s.nat a < 100 ∧ s.nat El.updState = 1 then s.fresh.2.setN a (s.nat a + s.fresh.1 % (100 - s.nat a))
  else if isPortLoad a then s.setN a (s.offeredLoad (objectOf a) (elementOf a - 0x1A))
  else if isDramLoad a then
    let n := min 100 (s.classLoad (objectOf a - 0x10) (elementOf a - 2))
    s.fresh.2.setN a (n + s.fresh.1 % (101 - n))
  else s

/-- Whether an element is the status of a unit whose domain is down (R33). -/
def State.readsDown (s : State) (a : Nat) : Bool := match domainOf a with
  | none => false
  | some (d, status) => status && !s.domainUp d

/-- `cl_state` of a cluster (R200): 2 (running) while rounds run with an image in effect on it, 1 (idle) otherwise (DESIGN CHOICE, log
entry 99). -/
def State.clusterCode (s : State) (c : Nat) : Nat :=
  if s.domainUp (2 + c) = false then 0 else if (s.cluster c).image.isSome ∧ s.roundsRun then 2 else 1

/-- The event log as it is read (R251). -/
def State.logBytes (s : State) : List Byte := s.bop.log.flatMap encodeNotice

/-- The value that a READ of an element delivers to an asker (0: the service SPI or a group). -/
def State.readVal (s : State) (session a : Nat) : Val :=
  let o := objectOf a
  if s.readsDown a then .int 0
  else if a = El.modeTime then .int ((s.time.tick - s.time.modeSince) / 1000000 % 2 ^ 32 : Nat)
  else if a = El.ptpTime then .int (time80OfNs s.localNs)
  else if a = El.ptpClockId then .int s.clockId
  else if a = El.sessionSelf then .int session
  else if a = El.logData then .bytes s.logBytes
  else if isStrip a ∧ elementOf a = 0x44 then .int (s.outPh (stripBus a) o)
  else if isStrip a ∧ elementOf a = 0xFF then .int (s.stripStatus (stripBus a) o)
  else if areaOf a = 0x1A ∧ o < 0x800 ∧ elementOf a = 1 then .int (s.phaseOf (s.nat (El.srcSignal o)))
  else if areaOf a = 0x1A ∧ 0xC00 ≤ o ∧ o < 0xC40 then s.descVal s.sampleNow (o - 0xC00) (elementOf a)
  else if a = El.rdInUse then .int s.descsInUse
  else if areaOf a = 0x1D ∧ 0x100 ≤ o ∧ o < 0x108 ∧ elementOf a = 0 then .int (s.clusterCode (o - 0x100))
  else if areaOf a = 0x1D ∧ 0x100 ≤ o ∧ o < 0x108 ∧ elementOf a = 6 then
    .int (if s.domainUp (2 + (o - 0x100)) then pointMHz (s.nat El.dvfsPoint) else 0)
  else if areaOf a = 0x04 ∧ 0x110 ≤ o ∧ o < 0x128 ∧ elementOf a = 0 then .int 1000000000
  else if areaOf a = 0x04 ∧ 0x110 ≤ o ∧ o < 0x128 ∧ elementOf a = 1 then .int s.fs
  else if isXp a ∨ isStrip a then s.passedVal a
  else s.val a

end Sys2Proof.Machine
end

