-- ==== Sys2Proof/Machine/Notify.lean ====
section
/-! DEFINITION. Subscriptions and meter publications: what goes to which session, and when (R112, R113, R276 to R278). -/

namespace Sys2Proof.Machine

/-- Records in groups that fit messages of `room` bytes of records, at most 255 each. -/
def splitRecs (room : Nat) : List Rec → List (List Rec)
  | [] => []
  | r :: l =>
    match splitRecs room l with
    | [] => [[r]]
    | g :: q =>
      if ((r :: g).map (fun x => 12 + x.body.length)).sum ≤ room ∧ g.length < 255 then (r :: g) :: q else [r] :: g :: q

/-- Records in as many messages as `bop_max_msg` makes of them; a record too long for any message is not sent (log entry
45). -/
def State.notifyAll (s : State) (n : Nat) (recs : List Rec) : State × List (List Byte) :=
  let room := s.nat El.bopMaxMsg - 32
  (splitRecs room (recs.filter (fun r => decide (12 + r.body.length ≤ room)))).foldl (fun acc g =>
    let r := acc.1.notifyMsg n g
    (r.1, acc.2 ++ r.2)) (s, [])

/-! ### Element subscriptions (R276, R277) -/

/-- The elements that a subscription watches. -/
def Sub.elems (x : Sub) : List Nat := (List.range x.count).map (x.addr + ·)

/-- The values of the watched elements. -/
def State.watched (s : State) (x : Sub) : List Val := x.elems.map (s.readVal (if x.owner ≤ 64 then x.owner else 0))

/-- A value record of a subscription. -/
def valueRec (sub a : Nat) (v : Val) : Rec := notifyRec (typeOf a) a ([0] ++ leBytes 2 sub ++ leBytes 4 a ++ encodeVal (typeOf a) v)

/-- The records of the elements of a subscription that a READ reaches now. -/
def State.valueRecs (s : State) (sub : Nat) (l : List (Nat × Val)) : List Rec :=
  (l.filter (fun e => decide (s.addrStatus e.1 = .ok) && decide (s.unitState e.1 true = .ok))).map (fun e => valueRec sub e.1 e.2)

/-- Replace subscription n. -/
def State.setSub (s : State) (n : Nat) (x : Option Sub) : State :=
  { s with bop := { s.bop with subs := Tab.put none s.bop.subs n x } }
def State.sub (s : State) (n : Nat) : Option Sub := Tab.get none s.bop.subs n

/-- The elements that changes touched with effective samples before sample n, of which subscribers have not heard. -/
def State.told (s : State) (n : Nat) : List Nat :=
  (s.bop.touched.filter (fun e => decide (e.2 < n))).map (·.1) ++
    (s.disp.inOrder.filter (fun c => !c.told && decide (c.eff < n))).flatMap (fun c => c.writes.map (·.addr))

/-- Elements with a change from sample n on, whose new value a boundary on sample n does not announce. -/
def State.untold (s : State) (n : Nat) : List Nat :=
  (s.bop.touched.filter (fun e => decide (n ≤ e.2))).map (·.1) ++
    (s.disp.inOrder.filter (fun c => decide (n ≤ c.eff))).flatMap (fun c => c.writes.map (·.addr))

/-- At the round boundary on sample n each kind 0 subscription sends the values of the elements that a change touched since,
also one that left the value as it was, or whose value moved otherwise (R277). -/
def State.sendChanges (s : State) (n : Nat) : State :=
  let yes := s.told n
  let no := s.untold n
  let s1 := (s.subList.filter (fun e => e.2.kind == 0)).foldl (fun (k : State) e =>
    let l := ((e.2.elems.zip (k.watched e.2)).zip e.2.vals).map (fun q =>
      (q.1.1, q.1.2, q.2, yes.contains q.1.1 || (q.1.2 != q.2 && !no.contains q.1.1)))
    if l.all (fun q => !q.2.2.2) then k
    else ((k.setSub e.1 (some { e.2 with vals := l.map (fun q => if q.2.2.2 then q.2.1 else q.2.2.1) })).notifyAll e.2.owner
      (k.valueRecs e.1 ((l.filter (·.2.2.2)).map (fun q => (q.1, q.2.1))))).1) s
  { s1 with
    bop := { s1.bop with touched := s1.bop.touched.filter (fun e => decide (n ≤ e.2)) }
    disp := { s1.disp with changes := s1.disp.changes.map (fun c => if c.committed && decide (c.eff < n) then { c with told := true } else c) } }

/-- SUBSCRIPTION_PERIOD: a kind 1 subscription whose period has ended sends its values (R276). -/
def State.subPeriod (s : State) (n : Nat) : State :=
  match s.sub n with
  | none => s
  | some x =>
    if x.kind ≠ 1 ∨ s.anchored = false ∨ s.rounds.nextPulse ≤ x.due then s
    else ((s.setSub n (some { x with due := s.roundIssued + x.period })).notifyAll x.owner
      (s.valueRecs n (x.elems.zip (s.watched x)))).1

/-! ### Meter publications (R112, R113, R278) -/

/-- The points of list j. -/
def State.pubPointList (s : State) (j : Nat) : List Nat := u16s (s.val (El.pubPoints j)).toBytes

/-- A list takes in the readings of the round that is complete: peaks and gain reduction keep the largest. -/
def State.aggregate (s : State) (j : Nat) : State :=
  if s.nat (El.pubPeriod j) = 0 then s
  else
    let x := s.pub j
    let big (d : Int) (t : Tab Int) (a : Nat → Nat) : Tab Int :=
      (s.pubPointList j).foldl (fun t p => Tab.put d t p (max (Tab.get d t p) (s.int (a p)))) t
    s.setPub j { x with peaks := big minusInf x.peaks El.mPeak, truePeaks := big minusInf x.truePeaks El.mTpeak, grs := big 0 x.grs El.mGr }

/-- The bytes of one point: each field in bit order. -/
def State.pubPoint (s : State) (j : Nat) (x : PubAgg) (p : Nat) : List Byte :=
  let f := s.nat (El.pubFields j)
  let db (i : Nat) (z : Int) : List Byte := if bitOf f i then leBytes 2 (wrap 16 z) else []
  db 0 (Tab.get minusInf x.peaks p) ++ db 1 (Tab.get minusInf x.truePeaks p) ++ db 2 (s.int (El.mRms p)) ++ db 3 (s.int (El.mHold p)) ++
    (if bitOf f 4 then leBytes 4 (s.nat (El.mClips p)) else []) ++ db 5 (Tab.get 0 x.grs p)

/-- The records of a publication: as many points in each as a message holds, with the index of its first; one record without
points for a list that names none. -/
def pubRecs (j fields end_ room : Nat) : Nat → Nat → List (List Byte) → List Rec
  | 0, _, _ => []
  | fuel + 1, first, pts =>
    if pts.isEmpty ∧ first ≠ 0 then []
    else
      let w := (pts.headD []).length
      let n := if w = 0 then pts.length else max 1 ((room - 27) / w)
      let head := [2] ++ leBytes 1 j ++ leBytes 1 fields ++ leBytes 2 first ++ leBytes 2 (min n pts.length) ++ leBytes 8 end_
      notifyRec 0 0 (head ++ (pts.take n).flatten) :: pubRecs j fields end_ room fuel (first + n) (pts.drop n)

/-- Whether a message still waits in a ring or a tunnel. -/
def State.waitsToLeave (s : State) (m : List Byte) : Bool :=
  s.net.ports.any (fun p => p.2.tx.any (fun r => r.2.any (fun x => match x with
    | .bop _ _ d => d == m
    | _ => false))) ||
    s.links.any (fun l => l.2.tunnel.contains m)

/-- PUBLICATION: the period of list j ends: one NOTIFY to each session that subscribed to it, or, while the last has not left, a merged
period. -/
def State.publish (s : State) (j : Nat) : State :=
  let n := s.nat (El.pubPeriod j)
  let x := s.pub j
  if 16 ≤ j ∨ n = 0 ∨ s.anchored = false ∨ s.roundIssued < x.since + n then s
  else if x.sent.any s.waitsToLeave then (s.setPub j { x with since := s.roundIssued }).inc (El.pubMerged j)
  else
    let pts := (s.pubPointList j).map (s.pubPoint j x)
    let recs := pubRecs j (s.nat (El.pubFields j)) (s.firstSample s.roundIssued) (s.nat El.bopMaxMsg - 32) (pts.length + 1) 0 pts
    let owners := ((s.subList.filter (fun e => e.2.kind == 3 && e.2.addr == El.pubPeriod j)).map (·.2.owner)).eraseDups
    let r := owners.foldl (fun acc o =>
      let q := acc.1.notifyAll o recs
      (q.1, acc.2 ++ q.2)) (s, ([] : List (List Byte)))
    r.1.setPub j ⟨s.roundIssued, [], [], [], r.2⟩

end Sys2Proof.Machine
end

