-- ==== Sys2Proof/Machine/Rounds.lean ====
section
/-! DEFINITION. Rounds: the pulse, the start and the phases of a round, playout, late rounds and re-anchoring (R15, R27,
R34, R43 to R69, R97, R98, R132, R237, R283, R535). -/

namespace Sys2Proof.Machine

/-! ### The round pulse (R42, R43) -/

/-- The coach channels that arrived for the in-tray of round k, as signals (R132, R378). -/
def State.coachLive (s : State) (k : Nat) : List Nat :=
  ((Tab.get [] s.rounds.inTrays k).map (·.1)).filter (fun a => sigKind a == 2 && s.inStep (sigIndex a / 4096))

/-- Samples replaced so far on the locked receive streams. -/
def State.replacedTotal (s : State) : Nat :=
  ((s.rxOn.filter (fun i => s.nat (El.rxDomain i) = 0)).map (fun i => s.nat (El.rxReplaced i))).sum

/-- An enabled serial port of the locked domain is out of lock (R487). -/
def State.portOut (s : State) : Bool :=
  (List.range s.variant.serialPorts).any (fun p => s.portOn p && s.nat (El.spDomain p) == 0 && !s.portLocked p)

/-- The input signals with a sample of their own in the in-tray of round k (R132): those of serial ports, network streams,
ASRC groups and coach links whose domain is up. -/
def State.liveOf (s : State) (k : Nat) : List Nat :=
  let serial := ((Tab.get [] s.rounds.inTrays k).map (fun (e : Nat × List Int) => e.1)).filter (fun a => sigKind a == 1)
  (s.rounds.live.filter (fun a => sigKind a ≠ 2) ++ s.coachLive k ++ serial).filter (fun a => s.domainUp (s.sigDomain a))

/-- The first positions of the in-tray that a re-anchoring shortened take the last sample captured before it (R65). -/
def State.fillJump (s : State) (k : Nat) : State :=
  let e := s.rounds.fill
  if e = 0 then s
  else
    let tray := Tab.get [] s.rounds.inTrays k
    let keys := (tray.map (fun (q : Nat × List Int) => q.1) ++ s.rounds.fillWith.map (fun (q : Nat × Int) => q.1)).eraseDups
    let filled := keys.foldl (fun (t : Tab (List Int)) a =>
      Tab.put [] t a (List.replicate e (Tab.get 0 s.rounds.fillWith a) ++ (Tab.get s.zeros tray a).drop e)) tray
    { s with rounds := { s.rounds with inTrays := Tab.put [] s.rounds.inTrays k filled, fill := 0, fillWith := [] } }

/-- The intakes hand over the in-tray of round k (R61, R316, R378), and the inputs that R487 penalises are noted. In-trays
that no round will read any more are dropped. -/
def State.intake (s : State) (k : Nat) : State :=
  let missing := [0, 1, 2].any (fun l => s.linkMisses l k)
  let s2 := ((s.netTray k).coachTray k).asrcBoundary k
  let s3 := s2.fillJump k
  let s4 : State := { s3 with rounds := { s3.rounds with
    liveAt := Tab.ins k (s3.liveOf k) s3.rounds.liveAt
    inTrays := s3.rounds.inTrays.filter (fun e => e.1 == k || s3.rounds.waiting.contains e.1) } }
  if missing ∨ s.portOut ∨ s.replacedTotal < s2.replacedTotal then s4.notePenalty 0 else s4

/-- A present domain that is down with no request to power up, while `pd_on` reads 1, is corrected (R283). -/
def State.correctDomains (s : State) : State :=
  (List.range 20).foldl (fun (k : State) i =>
    if 2 ≤ i ∧ domainPresent k.variant i ∧ k.nat (El.pdState i) = 0 ∧ k.on (El.pdOn i) ∧ !(k.sys.pdWait.any (fun e => e.1 % 32 == i)) then
      k.correct (El.pdOn i) (.int 0) else k) s

/-- The pulse of round k enters the timeline: the next interval begins, and the tray of the round before plays. An interval that
was not B samples is remembered for the tray that was to play in it (R69). -/
def Rounds.pulsed (r : Rounds) (k tick b : Nat) : Rounds :=
  { r with
    spans := (match r.playing with
      | none => r.spans
      | some p => Tab.put b r.spans p r.interval).filter (fun e => r.waiting.contains e.1 || r.current == some e.1)
    nextPulse := k + 1
    pulseAt := Tab.ins k tick (r.pulseAt.filter (fun e => r.waiting.contains e.1 || r.current == some e.1))
    startIdx := r.startIdx + r.interval
    interval := b
    last := some k
    playing := r.last
    prev := r.playing
    outTrays := r.outTrays.filter (fun e => some e.1 = r.last ∨ some e.1 = r.playing)
    doneAt := r.doneAt.filter (fun e => some e.1 = r.last ∨ some e.1 = r.playing)
    repeats := r.repeats.filter (fun e => some e.1 = r.last ∨ some e.1 = r.playing)
    xfade := { r.xfade with left := r.xfade.left - r.interval } }

/-- An activation that SOLO accepted begins at the boundary: mode 9, and the ramp down (R554). -/
def State.beginActivation (s : State) : State :=
  if s.mode = 5 ∧ s.sys.actStep = 1 ∧ s.sys.actFrom = 5 then s.changeMode 9 else s

/-- Values kept for READ are dropped once their sample has passed. -/
def State.trimEarly (s : State) : State :=
  { s with disp := { s.disp with early := s.disp.early.filter (fun e => decide (s.sampleNow < e.2.1)) } }

/-- 3 rd in ns, rounded down: the lag that ends in FAULT (R59). -/
def State.lagLimit (s : State) : Nat := 3 * s.roundB * 1000000000 / s.fs

/-- What every boundary does: power requests, ramp descriptors, feedback counts, slots, corrections, twin and links. -/
def State.boundary (s : State) (k : Nat) : State :=
  let s1 := ((((s.serveEntries.beginActivation.powerBoundary).descBoundary k).feedbackBoundary (s.firstSample k)).freeSlots).trimEarly
  let s2 := ((((s1.correctTwin).correctPsc.pscBoundary).correctDomains).notePenalties).beat k
  let s3 := ((s2.followCourier).startRings 1).linksPulse
  let s4 := if s3.twin.driving then s3.setN El.twLastDrove (s3.firstSample k) else s3
  let s5 := (List.range s4.variant.clusters).foldl (fun q c => if q.clusterUp c then q.stopAudits c else q) s4
  s5.resyncRoom.sendChanges (s.firstSample k)

/-- ROUND_PULSE: the sample clock has reached the boundary. Where rounds run, the in-trays are handed over and the round
waits to begin; a round that waits 3 rd to begin ends in FAULT, but for a resync (R59, R499). -/
def State.roundPulse (s : State) : State :=
  let k := s.rounds.nextPulse
  if s.anchored = false ∨ s.domainUp 0x13 = false ∨ s.sampleNow < s.rounds.startIdx + s.rounds.interval then s
  else
    let s1 : State := { s with rounds := s.rounds.pulsed k s.time.tick s.roundB }
    if s.roundsRun = false then ({ s1 with rounds := { s1.rounds with live := [] } } : State).boundary k
    else
      let s2 := if s.rounds.waiting = [] then s1.intake k else (s1.intake k).noteEngine .express 0 (4 * s.roundB * s.rounds.inTrays.length)
      let s3 : State := { s2 with rounds := { s2.rounds with live := [], waiting := s2.rounds.waiting ++ [k] } }
      let s4 := s3.boundary k
      match s.rounds.waiting with
      | [] => s4
      | h :: _ =>
        if s4.mode ≠ 8 ∧ s.lagLimit ≤ s.time.tick - Tab.get 0 s.rounds.pulseAt h then s4.enterFault 1 [] else s4

/-! ### The start of a round (R44, R53 to R59) -/

/-- Cores with nothing done in the round that begins. -/
def Core.newRound (k : Core) : Core := { k with ended := [], ready := [], handed := [], overflowed := [], used := [] }
/-- The copy of an audit keeps what it did in the audit round, which it may run on with (R193). -/
def Dsp.newRound (d : Dsp) : Dsp :=
  let audits (key : Nat) : Bool := key % 16 == 8 && (Tab.get Cluster.cleared d.clusters (key / 16)).auditRound.isSome
  { d with cores := (d.cores.map (fun e => (e.1, if audits e.1 then e.2 else e.2.newRound))).filter (fun e => e.2 ≠ Core.cleared) }

/-- MIX as a round begins: its in-tray, and what the round before left for feedback paths (R16, R74, R103), but for signals
whose domain is down (R34). -/
def Mix.newRound (m : Mix) (tray : Tab (List Int)) (up : Nat → Bool) : Mix :=
  { m with
    sigPrev := m.sig.filter (fun e => up e.1)
    sig := tray
    outPrev := m.out
    acc := [], addedA := [], addedB := [], out := [], clipped := [], reduced := [] }

/-- The deferrable jobs of cluster c skip round k (R55); whether there was one. -/
def State.shedCluster (s : State) (c k : Nat) : State × Bool :=
  match (s.cluster c).image with
  | none => (s, false)
  | some im =>
    if s.clusterRuns c k = false then (s, false)
    else im.placed.foldl (fun (acc : State × Bool) e =>
      if e.2.2.deferrable then
        let j := acc.1.holder c e.1
        let x := acc.1.core c j
        if x.halted.contains e.2.1 then acc
        else ((acc.1.setN (El.jobState c e.1 e.2.1) 3).setCore c j { x with ended := e.2.1 :: x.ended }, true)
      else acc) (s, false)

/-- The deferrable jobs of every cluster skip round k, which `shed_rounds` counts. -/
def State.shed (s : State) (k : Nat) : State :=
  let r := (List.range s.variant.clusters).foldl (fun (acc : State × Bool) c =>
    let q := acc.1.shedCluster c k
    (q.1, acc.2 || q.2)) (s, false)
  if r.2 then r.1.inc El.shedRounds else r.1

/-- Lag of the round that begins: the readings of R52, and the episode of R58. -/
def State.noteLag (s : State) (late : Bool) (lag : Nat) : State :=
  let r := s.rounds
  let s1 := (s.setN El.lagNow (min lag (2 ^ 32 - 1))).raise El.lagMax (min lag (2 ^ 32 - 1))
  if late then { s1 with rounds := { r with late := true, episode := r.episode + 1, episodeMax := max r.episodeMax lag } }
  else
    let s2 : State := { s1 with rounds := { r with late := false, episode := 0, episodeMax := 0 } }
    if r.episode = 0 then s2 else (s2.inc El.catchups).post nCatchupDone El.lagNow [r.episodeMax, r.episode]

/-- Every cluster. -/
def State.eachCluster (s : State) (f : State → Nat → State) : State := (List.range s.variant.clusters).foldl f s

/-- ROUND_START: the round whose pulse was seen first begins, once the round before is complete, in a SHADOW the ACTIVE's items
are there, no island waits for its relief core, and no resync keeps its in-trays for the replay (R44, R195, R480, R498). -/
def State.roundStart (s : State) : State :=
  match s.rounds.current, s.rounds.waiting with
  | none, k :: rest =>
    if s.roundsRun = false ∨ s.courierWaits k ∨ (s.mode = 8 ∧ s.twin.resyncStep = 2) ∨ (List.range s.variant.clusters).any (fun c => s.reliefHolds c k) then s
    else
      let s := s.eachCluster (fun q c => (q.takeOverCore c).lateAudit c k)
      let ns := s.time.tick - Tab.get 0 s.rounds.pulseAt k
      let late := decide (0 < ns)
      if s.mode ≠ 8 ∧ s.lagLimit ≤ ns then s.enterFault 1 []
      else
        let s1 := s.noteLag late (s.rd256 ns)
        let shed := late && s.on El.shedEnable
        let s2 : State := { s1 with
          rounds := { s1.rounds with
            waiting := rest, current := some k, phase := 0, nextRound := rest.headD s1.rounds.nextPulse, passes := 0, shedding := shed
            inTrays := s1.rounds.inTrays.filter (fun e => e.1 ≠ k)
            liveBefore := s1.rounds.liveNow
            liveNow := some (Tab.get [] s1.rounds.liveAt k)
            liveAt := s1.rounds.liveAt.filter (fun e => e.1 ≠ k) }
          mix := s1.mix.newRound (Tab.get [] s1.rounds.inTrays k) (fun a => s1.domainUp (s1.sigDomain a))
          dsp := s1.dsp.newRound }
        let s3 := (if shed then s2.shed k else s2).eachCluster (fun q c => q.beginAudit c k)
        let s4 := (s3.setN El.roundNow (roundIdx k)).setN El.timelineNow (s3.firstSample k)
        let s5 := (s4.trimXps).trimStrips (s4.lineSample k)
        s5.inputStrips.foldl (fun q n => q.noteBackup n (s5.lineSample k)) s5
  | _, _ => s

/-! ### Phases and passes (R15, R44, R97, R98) -/

/-- Whether every job of a phase is done for the round, and its outputs handed to MIX (R29, R179). -/
def State.jobsDone (s : State) (k : Nat) (phase3 : Bool) : Bool :=
  (List.range s.variant.clusters).all (fun c => match (s.cluster c).image with
    | none => true
    | some im => !s.clusterRuns c k || im.placed.all (fun e =>
        let j := s.holder c e.1
        let x := s.core c j
        let gone := x.halted.contains e.2.1 ||
          (x.ended.contains e.2.1 && (e.2.2.outs.isEmpty || e.2.2.strip.isSome || s.nat (El.jobState c e.1 e.2.1) == 3 || x.handed.contains e.2.1))
        e.2.2.phase3 != phase3 || !s.coreRuns c j || gone))

/-- The sort of a pass may complete: MIX has added every source, or is down. -/
def State.passReady (s : State) (k : Nat) (passB : Bool) : Bool :=
  !s.roundDue k && (!s.domainUp 0x0A || (s.allAdded passB && (passB || s.sumsReady (s.lineUp k))))

/-- PASS_COMPLETE: a pass of the Sorting Office completes (R97 to R99, R381, R382). -/
def State.passComplete (s : State) (passB : Bool) : State :=
  match s.rounds.current with
  | none => s
  | some k =>
    if s.rounds.passes ≠ (if passB then 1 else 0) ∨ s.passReady k passB = false then s
    else
      let s1 : State := { s with rounds := { s.rounds with passes := s.rounds.passes + 1 } }
      if s.domainUp 0x0A = false then s1
      else if passB then (s1.runPass true).noteDigest (roundIdx k)
      else (List.range 4).foldl (fun q l => q.readySection l 2 (s.lineUp k)) ((s1.runBuses (s.lineUp k)).runPass false)

/-- The end of a phase, in 1/256 rd from its pulse (R52). -/
def State.notePhase (s : State) (k ph : Nat) : State :=
  s.setN (El.phaseEnd (ph - 1)) (min (s.rd256 (s.time.tick - Tab.get 0 s.rounds.pulseAt k)) 65535)

/-- The out-tray of the round: the output of each destination that leaves the engine, by its consumer (R57, R77). -/
def State.outTray (s : State) : Tab (List Int) :=
  (List.range s.variant.dests).foldl (fun (t : Tab (List Int)) d =>
    let v := s.nat (El.dstTarget d)
    if 3 ≤ tgtKind v ∧ tgtKind v ≤ 6 then Tab.put [] t v (s.destOut d) else t) []

/-- The sample periods in which positions of the out-tray of round k were due before now, in order, by position (R57, R69): in
an interval that a re-anchoring shortened the first ones were never due, in one that it lengthened some were due twice
(R65). -/
def State.missed (s : State) (k : Nat) : List Nat :=
  let r := s.rounds
  let b := s.roundB
  if r.last = some k then []
  else if r.playing = some k then
    ((List.range r.interval).filter (fun i => decide (s.clkOf (r.startIdx + i) < s.smpClk))).map (fun i => (r.startIdx + i) % b)
  else
    let n := Tab.get b r.spans k
    (List.range n).map (fun i => (2 * b - n + i) % b)

/-- A round that missed due times posts one DEADLINE_MISS with the number of positions repeated; `repeated_smp` counts sample
periods (R52, R57). -/
def State.noteMiss (s : State) (k : Nat) : State :=
  let m := s.missed k
  if m = [] then s
  else
    let s1 : State := { s with rounds := { s.rounds with repeats := Tab.put [] s.rounds.repeats k m.eraseDups } }
    ((s1.inc El.lateRounds).bump El.repeatedSmp m.length 64).post nDeadlineMiss El.lagNow (twoWords (roundIdx k) ++ [m.eraseDups.length])

/-- The guard overflows of the round on core j of cluster c (R184). -/
def State.noteGuards (s : State) (k c j : Nat) : State :=
  let sv := s.scheduleOf c j
  (if s.inAudit c j then [] else (s.core c j).overflowed).foldl (fun (q : State) pos =>
    let a := El.jobOverflowRounds c sv pos
    let key := 64 * sv + pos
    let was := Tab.get 0 (q.cluster c).guardAt key
    let q1 := q.inc a
    if was ≠ 0 ∧ q.firstSample k + 1 < was + q.fs then q1
    else
      let q2 := q1.setCluster c { q1.cluster c with guardAt := Tab.put 0 (q1.cluster c).guardAt key (q.firstSample k + 1) }
      q2.post nGuardOverflow a ([c, sv, match q.jobAt c sv pos with
        | none => 0
        | some jb => jb.num] ++ twoWords (roundIdx k))) s

/-- What the round that is complete leaves for READ: meters, where MIX is up, the strips' status, and the cycles of jobs and
cores; the generators' filters advance over it (R51, R109, R128, R201, R606). -/
def State.endReadings (s : State) (k : Nat) : State :=
  let s1 := if s.domainUp 0x0A then (s.runMeters (s.lineSample k)).runTests (s.firstSample k) else s
  (s1.endStrips).eachCluster (fun q c => (q.clusterReadings c k).closeAudit c k)

/-- Phase 4 of round k is complete: the out-trays are filled, and the round is done (R15, R57). -/
def State.endRound (s : State) (k : Nat) : State :=
  let r := s.rounds
  let s1 := (s.noteMiss k).endReadings k
  let s2 : State := { s1 with rounds := { s1.rounds with
    outTrays := Tab.ins k s.outTray r.outTrays
    doneAt := Tab.ins k s.time.tick r.doneAt
    current := none
    phase := 0 } }
  let s3 := (List.range s2.variant.clusters).foldl (fun (q : State) c => (List.range 9).foldl (fun (p : State) j => p.noteGuards k c j) q) s2
  let s4 := (List.range 16).foldl (fun q j => q.aggregate j) s3
  let s5 := (List.range 4).foldl (fun q l => q.readySection l 3 k) s4
  s5.noteHeadroom

/-- PHASE_COMPLETE (R15, R44): the phases complete in order, each once its results are all there. -/
def State.phaseComplete (s : State) (ph : Nat) : State :=
  match s.rounds.current with
  | none => s
  | some k =>
    let ready : Bool := match ph with
      | 1 => s.jobsDone k false
      | 2 => decide (1 ≤ s.rounds.passes)
      | 3 => s.jobsDone k true
      | 4 => decide (2 ≤ s.rounds.passes)
      | _ => false
    if s.rounds.phase + 1 ≠ ph ∨ ready = false then s
    else
      let s1 := ({ s with rounds := { s.rounds with phase := ph } } : State).notePhase k ph
      if ph = 4 then s1.endRound k else s1

/-! ### Ramps, morphs and backups -/

/-- Samples before this one are computed, or belong to the round being computed. -/
def State.computedTo (s : State) : Nat := s.lineSample s.rounds.nextRound

/-- RAMP_END: a crosspoint ramp has reached its length (R93). -/
def State.rampEnd (s : State) (src d : Nat) : State :=
  let a := El.xpGain src d
  let r := s.xramp a
  if 2048 ≤ src ∨ 512 ≤ d ∨ r.moving = false ∨ s.computedTo ≤ r.start + r.len then s else s.endXp a

/-- STRIP_RAMP_END: a strip gain ramp has reached its target (R134). -/
def State.stripRampDone (s : State) (bus : Bool) (n e : Nat) : State :=
  let x := s.strip bus n
  let due (key : Nat) : Bool := match Tab.get [] x.ramps key with
    | [] => false
    | r :: _ => r.moving && decide (r.start + r.len < s.computedTo)
  if (gainKeys e).any due then s.endStripRamp bus n e else s

/-- The number of a stage. -/
def stageNum : Stage → Nat | .delay => 0 | .filter => 1 | .eq => 2 | .gate => 3 | .comp => 4

/-- MORPH_END: the morphs of a stage whose samples are all computed end (R135). -/
def State.morphDone (s : State) (bus : Bool) (n : Nat) (st : Stage) : State :=
  s.endMorph bus n (stageNum st) s.computedTo

/-- BACKUP_SWITCH: an input strip moves to its backup (R132). -/
def State.backupSwitch (s : State) (n : Nat) : State :=
  let x := s.strip false n
  if x.onBackup ∨ x.backupAt.isNone ∨ s.variant.strips ≤ n then s else s.setStrip false n { x with onBackup := true }

/-! ### Images (R237) -/

/-- The activation of cluster c that has been accepted. -/
def State.activation (s : State) (c : Nat) : Option Change :=
  s.disp.changes.find? (fun x => x.kind == .activate && x.writes.any (fun w => w.addr == El.imgActivate c))

/-- IMAGE_TAKE_EFFECT: at the boundary into the round of its effective sample the staged image takes effect. -/
def State.imageEffect (s : State) (c : Nat) : State :=
  match s.activation c with
  | none => s
  | some x =>
    if s.roundsRun = false ∨ s.changeDue s.workRound x = false ∨ s.rounds.phase ≠ 0 then s
    else (s.dropChange x).takeImage c (s.lineUp s.workRound)

/-- IMAGE_LOAD_DONE: r rounds later the new jobs start. -/
def State.imageLoaded (s : State) (c : Nat) : State :=
  let x := s.cluster c
  if x.loading ∧ x.loadUntil ≤ s.lineUp s.workRound then s.finishLoad c else s

/-! ### Playout (R57, R66, R554) -/

/-- The power domain of an output's port. -/
def outDomain : Output → Nat
  | .serial _ => 0x10 | .net _ => 0x0D | .coach _ => 0x0F | .psc _ => 0x12

/-- Linear from a to b, t of T: exact, or either neighbour where it falls between two values (log entry 3). -/
def openFade (a b : Int) (t T : Nat) : Int :=
  let z := a * ((T : Int) - t) + b * t
  if z % T = 0 then z / T else z / T + (if Config.fadeUp z T then 1 else 0)

/-- The crossfade after a re-anchoring on sample idx (R66); coach channels have none. -/
def State.crossfaded (s : State) (o : Output) (idx : Nat) (v : Int) : Int :=
  let t := 32 - s.rounds.xfade.left + (idx - s.rounds.startIdx)
  let coach : Bool := match o with
    | .coach _ => true
    | _ => false
  if s.rounds.xfade.left = 0 ∨ 32 ≤ t ∨ coach then v
  else openFade (Tab.get 0 s.rounds.xfade.held (outKey o)) v t 32

/-- Length of the ramps of R554. -/
def State.activationRamp (s : State) : Nat := ceilDiv (5 * s.fs) 1000

/-- The ramps of an activation in SOLO on sample idx (R554). -/
def State.ramped (s : State) (idx : Nat) (v : Int) : Int :=
  let n := s.activationRamp
  let t := min n (idx - s.sys.rampAt)
  if s.sys.actStep = 1 ∧ s.sys.actFrom = 5 then openFade v 0 t n
  else if s.sys.actStep = 4 then openFade 0 v t n
  else v

/-- The sample that an output plays at index idx: the playing tray's position if phase 4 was complete at its due time, else the
sample it played last. In an interval longer than B the tray's last positions come first, and again at its end (R65). -/
def State.dueSample (s : State) (o : Output) (idx : Nat) : Int :=
  let r := s.rounds
  let b := s.roundB
  let lastPlayed := (Tab.get [] r.lastOut (outKey o)).headD 0
  match r.playing with
  | none => lastPlayed
  | some k =>
    let due := s.time.tick - (s.smpClk - s.clkOf idx) / 65536
    match r.doneAt.find? (fun e => e.1 = k) with
    | none => lastPlayed
    | some e => if e.2 ≤ due then (Tab.get [] (Tab.get [] r.outTrays k) (outKey o)).getD (idx % b) 0 else lastPlayed

/-- OUTPUT_PLAY: an output plays the tray position j that is due (R57). A power stage channel takes it through its protection and its
loop (R507), with the bits that `SV` and `SI` carry in that sample period. -/
def State.outputPlay (s : State) (o : Output) (j : Nat) (sense : List (Bool × Bool)) : State :=
  let r := s.rounds
  let key := outKey o
  let from_ := max (Tab.get 0 r.played key) r.startIdx
  let idx := from_ + (j + s.roundB - from_ % s.roundB) % s.roundB
  if s.anchored = false ∨ s.roundB ≤ j ∨ s.tgtStatus key ≠ .ok ∨ s.domainUp (outDomain o) = false ∨
      r.startIdx + r.interval ≤ idx ∨ s.sampleNow < idx then s
  else
    let y := s.ramped idx (if s.roundsRun then s.crossfaded o idx (s.dueSample o idx) else 0)
    let s1 : State := { s with rounds := { s.rounds with
      played := Tab.put 0 r.played key (idx + 1)
      lastOut := Tab.put [] r.lastOut key ((y :: Tab.get [] r.lastOut key).take 1024) } }
    match o with
    | .psc n => s1.pscPlay n idx y sense
    | _ => s1

/-! ### Re-anchoring (R64 to R69) -/

/-- The jump d of a step (R65): Δ in ns as samples, rounded half to even. -/
def State.jumpOf (s : State) (deltaNs : Int) : Int := roundDiv (deltaNs * s.fs) 1000000000

/-- The number of a round of the timeline before a re-anchoring. -/
def oldRound (k : Nat) : Nat := k + 2 ^ 64
/-- A table by round, with its rounds marked as of the timeline before. -/
def oldKeys {α : Type} (t : Tab α) : Tab α := t.map (fun e => (oldRound e.1, e.2))


/-- Rounds whose pulses were issued keep their indices, marked as of the timeline before; the trays that outputs play move
with the samples played (R65). -/
def Rounds.jumped (r : Rounds) (d jump : Int) (start len b id : Nat) : Rounds :=
  let next := (start + len) / b
  { r with
    step := none
    startIdx := start
    interval := len
    nextPulse := next
    nextRound := if r.waiting = [] then next else oldRound r.nextRound
    waiting := r.waiting.map oldRound
    current := r.current.map oldRound
    last := r.last.map oldRound
    playing := r.playing.map oldRound
    prev := r.prev.map oldRound
    pulseAt := oldKeys r.pulseAt
    doneAt := oldKeys r.doneAt
    repeats := oldKeys r.repeats
    outTrays := oldKeys r.outTrays
    spans := oldKeys r.spans
    liveAt := oldKeys r.liveAt
    inTrays := (Tab.get [] r.inTrays r.nextPulse |> fun t => if t = [] then [] else [(next, t)]) ++
      oldKeys (r.inTrays.filter (fun e => e.1 ≠ r.nextPulse))
    played := (r.played.map (fun q => (q.1, byJump d q.2))).filter (fun q => q.2 ≠ 0)
    jump := jump
    jumpBy := d
    slid := r.slid + d
    jumpId := id }

/-- Ramps and morphs in progress run on through a jump by d (log entry 88). -/
def Mix.jumped (m : Mix) (d : Int) : Mix :=
  { m with
    xramps := m.xramps.map (fun e => (e.1, { e.2 with start := byJump d e.2.start }))
    before := m.before.map (fun e => (e.1, e.2.map (fun q => { q with start := byJump d q.start })))
    resv := m.resv.map (fun r => if r.begun then { r with start := byJump d r.start } else r)
    meters := m.meters.map (fun e => (e.1, { e.2 with restartAt := e.2.restartAt.map (byJump d) })) }
def StripRun.jumped (x : StripRun) (d : Int) : StripRun :=
  { x with
    ramps := x.ramps.map (fun e => (e.1, e.2.map (fun r => { r with start := byJump d r.start })))
    morphs := x.morphs.map (fun e => (e.1, e.2.map (fun q => { q with start := byJump d q.start })))
    backupAt := x.backupAt.map (byJump d) }

/-- What counts rounds moves by the jump of the index, so that periods, loads, audits and waits last as they would have. -/
def State.shiftRounds (s : State) (n : Int) : State :=
  { s with
    mix := { s.mix with
      pubs := s.mix.pubs.map (fun e => (e.1, { e.2 with since := byJump n e.2.since }))
      own := s.mix.own.map (fun e => (byJump n e.1, e.2))
      inSums := s.mix.inSums.map (fun e => (byJump n e.1, e.2)) }
    bop := { s.bop with subs := s.bop.subs.map (fun e => (e.1, e.2.map (fun x => { x with due := byJump n x.due }))) }
    dsp := { s.dsp with clusters := s.dsp.clusters.map (fun e => (e.1, { e.2 with
      loadFrom := byJump n e.2.loadFrom, loadUntil := byJump n e.2.loadUntil, auditAt := byJump n e.2.auditAt
      auditRound := e.2.auditRound.map oldRound })) }
    twin := { s.twin with heartRound := byJump n s.twin.heartRound, asrcRound := byJump n s.twin.asrcRound } }

/-- The last sample that each input captured before the boundary into round k (R65). -/
def State.lastCaptured (s : State) (k : Nat) : Tab Int :=
  let tray := if s.rounds.current = some k then s.mix.sig else Tab.get [] s.rounds.inTrays k
  let ins : Tab (List Int) := tray.filter (fun e => sigKind e.1 ≤ 2 || sigKind e.1 = 6)
  (ins.map (fun e => (e.1, e.2.getLastD 0))).filter (fun e => e.2 ≠ 0)

/-- REANCHOR: at the boundary just issued the timeline index jumps by d, and the sample clock takes the step (R65 to R68).
The parameter after e is 0 where none, 1 where samples were dropped and 2 where they were repeated. -/
def State.reanchor (s : State) : State :=
  match s.rounds.step, s.rounds.last with
  | some w, some k =>
    if s.anchored = false ∨ Tab.get 0 s.rounds.pulseAt k ≠ s.time.tick then s
    else
      let b := s.roundB
      let d := s.jumpOf w.deltaNs
      let e := (d % (b : Int)).toNat
      let start := byJump d (s.firstSample k)
      let len := if 2 * e ≤ b then b - e else 2 * b - e
      let held : Tab Int := s.rounds.lastOut.map (fun q => (q.1, q.2.headD 0))
      let how := if e = 0 then 0 else if 2 * e ≤ b then 1 else 2
      let jump : Int := ((start + len) / b : Nat) - (s.rounds.nextPulse : Int)
      let r := s.rounds.jumped d jump start len b s.disp.nextId
      let s1 : State := ({ s with
        rounds := { r with
          fill := if how = 1 then e else 0
          fillWith := if how = 1 then s.lastCaptured k else []
          xfade := if e = 0 then r.xfade else ⟨32, held.filter (fun q => q.2 ≠ 0)⟩ }
        mix := s.mix.jumped d
        strips := s.strips.map (fun x => (x.1, x.2.jumped d)) } : State).shiftRounds jump
      let ns := satStep w.deltaNs
      let s2 := (((s1.setN El.anchorState 1).setI El.lastStep ns).inc El.stepCount).post nRefStep El.lastStep
        [wordParam ns, wordParam d, e, how]
      s2.jumpChanges (s.firstSample (k + 1)) (s1.firstSample s1.rounds.nextPulse) (s1.firstSample s1.rounds.nextPulse)
  | _, _ => s

end Sys2Proof.Machine
end

