-- ==== Sys2Proof/Machine/Access.lean ====
section
/-! DEFINITION. A write to an element, whoever asks: the value and state checks of every area and how the write applies,
but for area 0D (R41, R240 to R251, R262, R265, R275, R286 to R288, R440, R501, R535, R563). -/

namespace Sys2Proof.Machine

/-! ### `fs_int` (R41) -/

/-- Whether a setting names something above the half that the high rates keep; `q` has the new `fs_int`. -/
def State.entryAbove (q : State) (a : Nat) (v : Val) : Bool :=
  let o := objectOf a
  let e := elementOf a
  let n := v.toNat
  let r := areaOf a
  if r = 0x1A ∧ o < 0x800 ∧ e = 0 then (decide (q.cap q.variant.sources ≤ o) && n != silence) || q.sigStatus n == .wrongState
  else if r = 0x1A ∧ 0x800 ≤ o ∧ o < 0xC00 ∧ e = 0 then
    (decide (q.cap q.variant.dests ≤ o - 0x800) && n != 0) || q.tgtStatus n == .wrongState
  else if isStrip a ∧ isStripSig e then q.sigStatus n == .wrongState
  else if r = 0x07 ∧ o < 4 ∧ e = 2 then decide (2048 < n)
  else if r = 0x07 ∧ 0x200 ≤ o ∧ a = El.dbRole (o - 0x200) then decide (256 ≤ o - 0x200) && n != 0
  else if r = 0x1B ∧ 0xC00 ≤ o ∧ o < 0xC40 ∧ e < 8 then q.pointStatus n == .wrongState
  else if r = 0x1B ∧ 0xE00 ≤ o ∧ e = 2 then (u16s v.toBytes).any (fun p => q.pointStatus p == .wrongState)
  else false

/-- Whether a strip job of an image in effect names a strip above the half. -/
def State.imageAbove (q : State) : Bool :=
  q.allJobs.any (fun x => match x.2.2.2.strip with
    | none => false
    | some (bus, n) => decide (q.cap (stripCount q.variant bus) ≤ n))

/-- Whether an enabled master port breaks R296. -/
def State.masterBreaks (q : State) : Bool :=
  (List.range q.variant.serialPorts).any (fun p => q.on (El.spEnable p) && !q.isSlave p &&
    (!isFrameLen (q.nat (El.spFrameLen p)) || decide (maxFrame q.fs < q.nat (El.spFrameLen p))))

/-- What the state allows of a write to `fs_int`. -/
def State.fsState (s : State) (v : Nat) : Status :=
  let q := s.setN El.fsInt v
  if (q.halved ∧ (q.regs.any (fun e => q.entryAbove e.1 e.2) ∨ q.imageAbove)) ∨ q.masterBreaks then .wrongState else .ok

/-! ### Values (step 6 of R275) -/

/-- The value of a write in area 02: `key_value` is 32 bytes over the service SPI and 40 over BOP (R265), `grp_addr` a
multicast address (R288). -/
def hostValue (spi : Bool) (a : Nat) (v : Val) : Status :=
  let o := objectOf a
  let n := v.toBytes.length
  if 0x100 ≤ o ∧ o < 0x120 ∧ elementOf a = 1 then (if n = (if spi then 32 else 40) then .ok else .outOfRange)
  else if 0x300 ≤ o ∧ elementOf a = 0 then (if n = 16 ∧ isGroupIp v.toBytes then .ok else .outOfRange)
  else .ok

/-- The value of a write in area 0E (R248, R251). -/
def State.toneValue (s : State) (a : Nat) (v : Val) : Status :=
  if 0x100 ≤ objectOf a ∧ elementOf a = 1 ∧ (v.toNat < 2000 ∨ 4500 * s.fs < v.toNat * 100) then .outOfRange else .ok

/-- The value of a write, for every area but 0D. -/
def State.unitValue (s : State) (spi : Bool) (a : Nat) (v : Val) : Status :=
  let r := areaOf a
  if inRange a v = false then .outOfRange
  else if inSceneAreas a then s.audioValue a v
  else if r = 0x01 then (if a = El.modeRequest then modeValue v.toNat else .ok)
  else if r = 0x02 then hostValue spi a v
  else if r = 0x03 ∨ r = 0x04 then s.timeValue a v
  else if r = 0x05 ∨ r = 0x06 then s.netValue a v
  else if r = 0x07 then s.coachValue a v
  else if r = 0x08 ∨ r = 0x09 then s.sapValue a v
  else if r = 0x0B then s.memValue a v
  else if r = 0x0E then s.toneValue a v
  else if r = 0x1C then (if 0x1000 ≤ objectOf a ∧ elementOf a = 0 then s.sceneStatus v.toBytes else .ok)
  else if r = 0x1D then s.clusterValue a v
  else if r = 0x1E ∨ r = 0x1F then s.pscValue a v
  else .ok

/-! ### State (step 7 of R275) -/

/-- What the state allows of a write, for every area but 0D. A write of a BOOL command with 0 has no effect and passes. -/
def State.unitStateOk (s : State) (a : Nat) (v : Val) : Status :=
  let r := areaOf a
  let o := objectOf a
  if inSceneAreas a then s.audioState a v
  else if a = El.modeRequest then s.modeStatus v.toNat
  else if a = El.fsInt then s.fsState v.toNat
  else if a = El.sessionOpen then .wrongState
  else if r = 0x03 ∨ r = 0x04 then s.timeStateOk a v
  else if r = 0x05 ∨ r = 0x06 then s.netState a v
  else if r = 0x07 then s.coachState a
  else if r = 0x08 ∨ r = 0x09 then s.sapState a v
  else if r = 0x0C ∧ o < 20 then s.pdStatus o v.toNat
  else if r = 0x1C then
    (if 0x100 ≤ o ∧ o < 0x200 then (if v.toNat = 1 then s.cancelStatus (o - 0x100) else .ok)
    else if 0x1000 ≤ o ∧ elementOf a = 0 then s.sceneStateOk (o - 0x1000)
    else .ok)
  else if r = 0x1D then s.clusterState a v
  else if r = 0x1E ∨ r = 0x1F then s.pscStateOk a v
  else .ok

/-- Whether a stored value finds room (R440): a scene in the free space of the engine area. -/
def State.storeFits (s : State) (a : Nat) (v : Val) : Bool :=
  !(areaOf a == 0x1C && decide (0x1000 ≤ objectOf a) && elementOf a == 0) ||
    decide (v.toBytes.length ≤ s.engineFree + (s.val a).toBytes.length)

/-! ### How a write applies -/

/-- The counters of `bop_clear`. -/
def bopCounters : List Nat := [El.bopTagFails, El.bopStale, El.bopBad, El.bopBusy, El.bopForeign]

/-- A key slot takes a key, in clear or unwrapped; the sessions of the slot end (R265). -/
def State.takeKey (s : State) (slot : Nat) (key : List Byte) : State :=
  let s1 := s.endSlot slot
  (({ s1 with bop := { s1.bop with keys := Tab.put [] s1.bop.keys slot key } } : State)).setN (El.keyState slot) 1

/-- A write in area 02 applies, but for `key_value` and `session_close`, which the host side applies (R265, R286, R288). -/
def State.applyHostArea (s : State) (a : Nat) (v : Val) : State :=
  let o := objectOf a
  if a = El.bopClear then (if v.toNat = 1 then s.setAll bopCounters 0 else s)
  else if 0x100 ≤ o ∧ o < 0x120 then (s.endSlot (o - 0x100)).setV a v
  else if o = 1 then s
  else if 0x300 ≤ o then s.reportGroups (s.setV a v)
  else s.setV a v

/-- `th_clear`: the largest values become the current ones (R563). -/
def State.clearThermal (s : State) : State :=
  let s1 := s.measure
  (s1.setI El.dieTempMax (s1.int El.dieTemp)).setN El.pwrEstMax (s1.nat El.pwrEst)

/-- A test generator takes a value: its filter restarts (R606). -/
def State.applyTone (s : State) (a : Nat) (v : Val) : State :=
  let s1 := s.setV a v
  { s1 with mix := { s1.mix with pink := Tab.put [] s1.mix.pink (objectOf a - 0x100) [] } }

/-- A write applies at once, for every area but 0D (R262). -/
def State.applyUnit (s : State) (a : Nat) (v : Val) : State :=
  let r := areaOf a
  let one : Bool := v.toNat == 1
  if inSceneAreas a ∨ r = 0x1E ∨ r = 0x1F then
    s.takeNow (s.shapeAll none [(a, v)])
  else if a = El.modeRequest then s.applyModeRequest v.toNat
  else if a = El.resetRequest then (if one then s.resetEngine 3 else s)
  else if a = El.schedClear then
    (if one then s.setAll ([El.lagMax, El.lateRounds, El.repeatedSmp, El.shedRounds, El.catchups]) 0 else s)
  else if a = El.disagreeClear then (if one then s.setN El.disagreeCount 0 else s)
  else if a = El.logClear then (if one then { s with bop := { s.bop with log := [] } } else s)
  else if a = El.thClear then (if one then s.clearThermal else s)
  else if a = El.twResync then s.applyResync v.toNat
  else if a = El.twClear then (if one then s.setAll [El.twTakeovers, El.twMismatches] 0 else s)
  else if r = 0x02 then s.applyHostArea a v
  else if a = El.clkBase then (s.setV a v).setClk [2] (one && s.clockGood .audref)
  else if r = 0x03 ∨ r = 0x04 then s.applyTime a v
  else if r = 0x05 ∨ r = 0x06 then s.applyNet a v
  else if r = 0x07 then s.applyCoach a v
  else if r = 0x08 ∨ r = 0x09 then s.applySap a v
  else if r = 0x0B then s.applyMem a v
  else if r = 0x0C ∧ objectOf a < 20 then s.applyPd (objectOf a) v.toNat
  else if r = 0x0E then s.applyTone a v
  else if r = 0x1C then s.applyDisp a v
  else if r = 0x1D then s.applyCluster a v
  else s.setV a v

/-- Whether a write waits for the effective sample of R47 while rounds run (R262). A write of 1 to `pend_cancel` cancels when it is
answered, since R146 judges it by the commit point (log entry 100). -/
def isDelayed (a : Nat) : Bool :=
  let r := areaOf a
  let o := objectOf a
  inSceneAreas a || r == 0x1E || r == 0x1F || (r == 0x1C && !(decide (0x100 ≤ o) && decide (o < 0x200))) ||
    (r == 0x1D && decide (0x10 ≤ o) && decide (o < 0x18) && elementOf a == 6)

end Sys2Proof.Machine
end

