-- ==== Sys2Proof/Machine/Boot.lean ====
section
/-! DEFINITION. Firmware images, the boot record, boot, settings, update, resets and the debug unlock (R534 to R564). -/

namespace Sys2Proof.Machine

/-! ### Firmware images (R548, R549) -/

/-- The flash slots: 0 is A, 1 is B. -/
def Flash.slot (f : Flash) (n : Nat) : Slot := if n = 0 then f.slotA else f.slotB
def Flash.setSlot (f : Flash) (n : Nat) (x : Slot) : Flash := if n = 0 then { f with slotA := x } else { f with slotB := x }

/-- Header fields of what a slot holds (R548). -/
def Slot.version : Slot → Nat
  | .empty => 0
  | .delivered => Config.fwVersion % 2 ^ 32
  | .held b => field b 12 4
def Slot.format : Slot → Nat
  | .empty => 0
  | .delivered => Config.settingsFormat % 2 ^ 16
  | .held b => field b 16 2
def Slot.security : Slot → Nat
  | .empty => 0
  | .delivered => Config.deliveredSecurity
  | .held b => field b 18 1

/-- Check 1: magic, format, length and reserved fields. -/
def headerOk (b : List Byte) : Bool :=
  decide (512 ≤ b.length) && decide (b.length ≤ 4194304) && field b 0 4 == 0x49574631 && field b 4 2 == 1 && field b 6 2 == 0 &&
    field b 8 4 == b.length && decide (field b 19 1 < 4) && decide (field b 24 1 < 8) && field b 25 3 == 0 &&
    (slice b 442 70).all (· == 0)

/-- The device bit of a variant. -/
def deviceBit : Variant → Nat
  | .ivm7424 => 0
  | .ivm7416 => 1
  | .ivm7408 => 2

/-- What the signatures of an image sign: every byte but 250 to 441. -/
def signedPart (b : List Byte) : List Byte := (Config.sha384 (b.take 250 ++ b.drop 442)).toList

/-- Checks 1 and 2, made when `upd_data` is complete (R552). -/
def earlyFail (v : Variant) (b : List Byte) : Nat :=
  if headerOk b = false then 1 else if bitOf (field b 24 1) (deviceBit v) = false then 2 else 0

/-- Check 5: the owner's signature, where the OTP requires it. -/
def Flash.ownerOk (f : Flash) (b : List Byte) : Bool :=
  !f.ownerReq || (bitOf (field b 19 1) 0 && f.ownerHash == some (Config.sha384 (slice b 153 97)).toList &&
    Config.ecdsaVerify (slice b 153 97) (signedPart b) (slice b 346 96))

/-- The first check of R549 that fails for what a slot holds; 0 when every check passes. The image with which the part is
delivered passes those that the OTP does not change (log entry 46). `read` says that the flash was read without error. -/
def State.slotFail (s : State) (read : Bool) : Slot → Nat
  | .empty => 1
  | .delivered =>
    if s.flash.ownerReq ∧ Config.deliveredOwner = false then 5 else if Config.deliveredSecurity < s.flash.fuses then 7 else if read = false then 8 else 0
  | .held b =>
    if earlyFail s.variant b ≠ 0 then earlyFail s.variant b
    else if (Config.sha384 (slice b 56 97)).toList ≠ Config.vendorHash then 3
    else if Config.ecdsaVerify (slice b 56 97) (signedPart b) (slice b 250 96) = false then 4
    else if s.flash.ownerOk b = false then 5
    else if Config.gcmVerify (b.take 56) (b.drop 512) = false then 6
    else if field b 18 1 < s.flash.fuses then 7
    else if read = false then 8
    else 0

/-! ### The boot record (R542) -/

/-- The valid copy with the higher sequence number. -/
def Flash.bootRec (f : Flash) : Option BootRec :=
  f.boot.foldl (fun b x => if x.valid = false then b else match b with
    | none => some x
    | some y => if y.seq < x.seq then some x else some y) none

/-- A record change writes the other copy, with a sequence number one higher. -/
def Flash.writeRec (f : Flash) (active trial trialSlot : Nat) : Flash :=
  match f.bootRec with
  | none => { f with boot := [⟨1, active, trial, trialSlot, true⟩] }
  | some r => { f with boot := [⟨(r.seq + 1) % 2 ^ 32, active, trial, trialSlot, true⟩, r] }

/-- What the boot ROM decides from the record: the flash it leaves, the order of the slots, whether it reverted. -/
def Flash.romPlan (f : Flash) : Flash × List Nat × Bool :=
  match f.bootRec with
  | none => (f, [0, 1], false)
  | some r =>
    if r.trial = 1 then (f.writeRec r.active 2 r.trialSlot, [r.trialSlot, r.active], false)
    else if r.trial = 2 then (f.writeRec r.active 0 r.trialSlot, [r.active, 1 - r.active], true)
    else (f, [r.active, 1 - r.active], false)

/-- The first slot of an order whose image passes, with its place; `bad` are the slots in which a read found an error. -/
def State.romSlot (s : State) (bad order : List Nat) : Option (Nat × Nat) :=
  (order.zipIdx).find? (fun e => s.slotFail (!bad.contains e.1) (s.flash.slot e.1) == 0)

/-- The failure that the boot ROM reports where no slot passes. -/
def State.romFail (s : State) (bad order : List Nat) : Nat :=
  match order with
  | [] => 1
  | n :: _ => s.slotFail (!bad.contains n) (s.flash.slot n)

/-! ### Settings (R544, R545) -/

/-- SETTINGS_RESET with cause, old and new format (R545). -/
def State.postReset (s : State) (cause old : Nat) : State :=
  s.post nSettingsReset El.settingsSeq [cause, old, s.nat El.settingsFormat]

/-- Settings load at boot: the best copy, or the defaults where none is valid or the format differs (R544, R545). -/
def State.loadSettings (s : State) : State :=
  match s.bestSettings with
  | none => s.saveSettings.postReset 2 0
  | some x =>
    if x.format ≠ s.nat El.settingsFormat then s.saveSettings.postReset 1 x.format
    else (x.vals.foldl (fun (k : State) e => k.setV e.1 e.2) s).setN El.settingsSeq x.seq

/-- `settings_factory`: every setting takes its default, and the defaults are saved (R545). -/
def State.factory (s : State) : State :=
  let fmt := s.nat El.settingsFormat
  ((s.settings.foldl (fun (k : State) e =>
    if areaOf e.1 = 0x0D then k.setV e.1 (defaultVal k.variant e.1) else k.applyUnit e.1 (defaultVal k.variant e.1)) s).saveSettings).postReset
      3 fmt

/-! ### The firmware starts (R541) -/

/-- The image of a slot runs: its version and format read, and the fuses follow where it is confirmed (R246, R550). -/
def State.runImage (s : State) (slot : Nat) (trial : Bool) : State :=
  let x := s.flash.slot slot
  let fuses := if trial then s.flash.fuses else max s.flash.fuses (min 64 x.security)
  let s1 : State := { s with flash := { s.flash with fuses := fuses } }
  (((s1.setN El.bootSlot slot).setN El.fwVersion x.version).setN El.settingsFormat x.format).setN El.rollbackCount fuses

/-- What the flash and the OTP show (R552, R558, R564). -/
def State.showFlash (s : State) : State :=
  let f := s.flash
  ((s.setN El.slotAVersion f.slotA.version).setN El.slotBVersion f.slotB.version).setN El.secFuses
    ((if f.ownerHash.isSome then 1 else 0) + (if f.ownerReq then 2 else 0) + (if f.debugOff then 4 else 0))

/-- UPDATE_STAGE: stage, slot, the version of its image, `upd_fail` (R551). -/
def State.postStage (s : State) (stage slot : Nat) : State :=
  s.post nUpdateStage El.updState [stage, slot, (s.flash.slot slot).version, s.nat El.updFail]

/-- The slot that did not boot (R552). -/
def State.otherSlot (s : State) : Nat := 1 - s.nat El.bootSlot

/-- The domains in an order that R32 allows. -/
def bootOrder : List Nat := [0x13, 0x0A, 0x0B, 0x0C, 2, 3, 4, 5, 6, 7, 8, 9, 0x0D, 0x0E, 0x0F, 0x10, 0x11, 0x12]

/-- Every present domain whose `pd_on` is 1 powers up, and the DRAM domains that were retained (R32, R535, R540). -/
def State.powerDomains (s : State) (kept : List Nat) : State :=
  bootOrder.foldl (fun (k : State) i =>
    if domainPresent k.variant i ∧ (k.on (El.pdOn i) ∨ kept.contains i) ∧ k.needsUp i then (k.setN (El.pdState i) 1).bringUp i else k) s

/-- The clocks run, and `AUDREF_IN` is the base where `clk_base` asks for it (R417, R541). -/
def State.bootClocks (s : State) : State :=
  (s.setClk [0, 3, 4, 5, 6, 7, 8, 9] true).setClk [1, 2] (s.nat El.clkBase == 1)

/-- DRAM as boot reads it: the interface rate, the capacity and the user area (R438, R439, R441, R443, R469). -/
def State.bootDram (s : State) : State :=
  let s1 := ({ s with mem := { s.mem with rate := s.nat El.dramRate } } : State).setN El.dramChSize s.mem.devices
  (s1.setN El.dramUserSize s1.userSize).repairPending

/-- From the start of the firmware to CONFIGURE (R541, R551, R556). -/
def State.startFirmware (s : State) (trial reverted : Bool) : State :=
  let kept := s.sys.retained
  let s1 := (s.loadSettings.bootClocks).bootDram
  let s2 := ((s1.setN (El.pdState 0) 2).setN (El.pdState 1) 2).powerDomains kept
  let cut := s2.flash.verifyCut
  let held : Bool := match s2.flash.slot s2.otherSlot with
    | .held _ => true
    | _ => false
  let s3 : State := { s2 with
    flash := { s2.flash with verifyCut := false }
    sys := { s2.sys with retained := [] } }
  let s4 := (s3.showFlash).setN El.updState (if trial then 5 else if cut ∧ held then 2 else 0)
  let s4 := if s4.flash.debugOff then s4.setN El.dbgState 3 else s4
  let s5 := if reverted then s4.postStage 6 s4.otherSlot else s4
  let s6 := s5.setMode 4
  if s6.on El.bootAutoRun ∧ s6.leaveStatus = .ok then s6.run else s6

/-- Whether the boot ROM has already chosen its slot: a warm restart that fell back to the old image (R554). -/
def State.romChosen (s : State) : Bool := s.on El.bootFallback

/-- BOOT_COMPLETE (R541 to R543): the image is selected and checked, DRAM trained, settings loaded, and the engine enters
CONFIGURE; where a step fails the engine stays in BOOT with the code of R543. `sizes` is what the mode registers of the devices on each
channel say, in GB, and `trained` whether every channel trained (R438); `flash` is none where the flash does not respond, else the slots
in which a read found an error. The flash stays in reset for 10 µs (R585). -/
def State.bootComplete (s : State) (sizes : List Nat) (trained : Bool) (flash : Option (List Nat)) : State :=
  let bad := flash.getD []
  if s.mode ≠ 2 ∨ s.sys.powered = false ∨ s.nat El.bootStatus ≠ 0 ∨ 3 ≤ s.refs.clockFails ∨ s.time.tick < s.sys.flashReset then s
  else if flash = none then s.setN El.bootStatus 0x21
  else
    let size := sizes.headD 0
    let dram (k : State) (trial reverted : Bool) : State :=
      if [2, 4, 8, 16].contains size = false ∨ sizes.take k.variant.dramChannels ≠ List.replicate k.variant.dramChannels size then
        k.setN El.bootStatus 0x42
      else if trained = false then k.setN El.bootStatus 0x41
      else ({ k with mem := { k.mem with devices := size } } : State).startFirmware trial reverted
    if s.romChosen then dram (s.runImage (s.nat El.bootSlot) false) false true
    else
      let plan := s.flash.romPlan
      let trial : Bool := match s.flash.bootRec with
        | none => false
        | some r => r.trial == 1
      let s1 : State := { s with flash := plan.1 }
      match s1.romSlot bad plan.2.1 with
      | none => s1.setN El.bootStatus (0x10 + s1.romFail bad plan.2.1)
      | some (slot, place) =>
        let onTrial := trial && place == 0
        dram ((s1.runImage slot onTrial).setN El.bootFallback (if place = 0 then 0 else 1)) onTrial plan.2.2

/-! ### Resets (R536, R539, R540, R556) -/

/-- POWER_ON: the AO supply is valid. -/
def State.powerOn (s : State) : State := if s.sys.powered then s else s.resetEngine 1

/-- Power that fails while the activation record is written leaves the new copy valid, or not (R556; log entry 3). -/
def State.cutActivation (s : State) : State :=
  if s.mode = 9 ∧ s.sys.actStep = 2 then
    let w := s.fresh
    if w.1 % 2 = 1 then { w.2 with flash := s.flash.writeRec (s.nat El.bootSlot) 1 s.otherSlot } else w.2
  else s

/-- POWER_FAIL: the supply is lost; the flash, the keys and the OTP keep what they hold (R546, R556). -/
def State.powerFail (s : State) : State :=
  if s.sys.powered = false then s
  else
    let cut := s.nat El.updState = 3
    let s1 := s.cutActivation
    let r := s1.resetEngine 1
    (({ r with
      flash := { r.flash with verifyCut := s.flash.verifyCut || cut }
      sys := { r.sys with powered := false, rails := [] } } : State).setN El.mode 0).followPins

/-- A reset with a cause of R536, on a part that has power; RESET_N in DORMANT ends it with cause 5 (R540). -/
def State.resetBy (s : State) (cause : Nat) : State := if s.sys.powered then s.resetEngine cause else s
def State.resetPin (s : State) (width : Nat) : State :=
  let w := s.takesPulse width 10000 1001
  if w.1 = false then w.2 else if s.mode = 1 then w.2.wakeUp else w.2.resetBy 2
/-- `FL_RESET_N` as the engine drives it: low for 10 µs at every reset (R585). -/
def State.flResetN (s : State) : Bool := decide (s.sys.flashReset ≤ s.time.tick)

/-- CONTROL_WATCHDOG: no control firmware tick for 100 ms (R536). -/
def State.controlLapse (s : State) : State := if s.mode < 2 then s else s.resetBy 6

/-- DEBUG_RESET, after unlock (R536, R560). -/
def State.debugReset (s : State) : State := if s.nat El.dbgState = 1 then s.resetBy 4 else s

/-- FAULT_AUTO_RESET (R539). -/
def State.autoReset (s : State) : State :=
  let n := s.nat El.faultAutoReset
  if s.mode ≠ 11 ∨ n = 0 ∨ s.time.tick < s.sys.faultSince + n * 1000000000 then s else s.resetEngine 7

/-! ### Fault causes of the AO monitor (R537) -/

/-- OVER_TEMPERATURE: a measured die temperature; above `th_fault` it is fault cause 6. -/
def State.overTemp (s : State) (temp : Int) : State :=
  if s.mode < 2 then s
  else
    let high := if s.int El.dieTempMax < temp then temp else s.int El.dieTempMax
    let read (k : State) : State := (k.setI El.dieTemp temp).setI El.dieTempMax high
    if temp ≤ s.int El.thFault ∨ s.mode < 5 ∨ 10 < s.mode then read s
    else
      let round := if s.anchored then roundIdx s.workRound else 0
      (read (s.enterFault 6 [])).setB El.faultRecord (faultBytes 6 s.mode round temp [])

/-- SUPPLY_FAULT: the AO monitor sees a rail at a voltage, in 0.1 mV. Outside its limits the engine enters FAULT (R537, R567); the pins whose
pull-downs need that rail follow (R575), and a rail seen within its limits again lets FAULT be left. -/
def State.supplyLost (s : State) (rail volts : Nat) : State :=
  if 10 ≤ rail ∨ s.sys.powered = false then s
  else
    let s1 : State := { s with sys := { s.sys with rails := Tab.put none s.sys.rails rail (some volts) } }
    (if s1.railOk rail then s1 else s1.enterFault 7 [rail, volts]).followPins

/-- SETTINGS_AUTOSAVE: 10 s after the last change to a setting (R544). -/
def State.autosave (s : State) : State :=
  match s.sys.autosaveAt with
  | none => s
  | some a => if s.mode < 3 ∨ s.time.tick < a ∨ s.on El.settingsAutosave = false then s else s.saveSettings

/-! ### Update (R551 to R555) -/

/-- The states in which each write of area 0D is in turn (R551; log entry 48). -/
def State.updTurn (s : State) (a : Nat) : Bool :=
  let u := s.nat El.updState
  if s.sys.actStep = 1 then false
  else if a = El.updData then u == 0 || u == 2 || u == 4 || u == 6
  else if a = El.updVerify then u == 2
  else if a = El.updActivate then u == 4
  else if a = El.updConfirm then u == 5
  else (decide (1 ≤ u) && decide (u ≤ 4)) || u == 6

/-- Whether the downloaded image is twin-compatible with what runs (R548). -/
def State.twinFits (s : State) : Bool :=
  match s.flash.slot s.otherSlot with
  | .held b => bitOf (field b 19 1) 1 && decide (field b 20 4 ≤ s.nat El.fwVersion) && field b 16 2 == s.nat El.settingsFormat
  | _ => false

/-- A complete `upd_data` passes to the inactive slot: it is erased, and programming begins (R552). -/
def State.applyUpdData (s : State) (b : List Byte) : State :=
  let s1 : State := { s with
    flash := s.flash.setSlot s.otherSlot .empty
    sys := { s.sys with updImage := b } }
  ((s1.showFlash).setN El.updState 1).setAll [El.updFail, El.updProgress] 0

/-- A store into `upd_data` that check 1 or 2 refuses: `upd_fail` reads the check (log entry 48). -/
def State.noteUpdFail (s : State) (b : List Byte) : State := s.setN El.updFail (earlyFail s.variant b)

/-- SLOT_PROGRAMMED: the inactive slot holds the image (R552). -/
def State.slotProgrammed (s : State) : State :=
  if s.nat El.updState ≠ 1 then s
  else
    let s1 : State := { s with flash := s.flash.setSlot s.otherSlot (.held s.sys.updImage) }
    (((s1.showFlash).setN El.updState 2).setN El.updProgress 100).postStage 1 s.otherSlot

/-- UPDATE_VERIFY_DONE: every check of R549 on the slot, which was read without error or not (R552). -/
def State.verifyEnds (s : State) (read : Bool) : State :=
  if s.nat El.updState ≠ 3 then s
  else
    let f := s.slotFail read (s.flash.slot s.otherSlot)
    ((s.setN El.updState (if f = 0 then 4 else 6)).setN El.updFail f).postStage (if f = 0 then 2 else 7) s.otherSlot

/-- `upd_activate` (R553, R554): in SOLO the ramp begins at the next boundary; elsewhere the engine goes to ACTIVATING at
once, a SHADOW releasing its claim. -/
def State.activateUpdate (s : State) : State :=
  let was := s.mode
  let s1 := s.postStage 3 s.otherSlot
  if was = 5 then
    { s1 with sys := { s1.sys with actFrom := 5, actStep := 1, rampAt := s1.firstSample (s1.roundIssued + 1) } }
  else
    let s2 : State := { s1 with sys := { s1.sys with actFrom := was, actStep := 2 } }
    let s3 := if was = 7 then
        (({ s2 with twin := { s2.twin with driving := false, watchdog := false } } : State).ownReference.stopRounds true).setN El.twRole 0
      else s2
    s.followPsc ((s3.setMode 9).discardWork 3) false

/-- ACTIVATION_RAMP_DOWN_END: rounds stop, and work in flight is discarded (R554). -/
def State.rampDownEnd (s : State) : State :=
  if s.mode ≠ 9 ∨ s.sys.actFrom ≠ 5 ∨ s.sys.actStep ≠ 1 ∨ s.sampleNow < s.sys.rampAt + s.activationRamp then s
  else (s.stopRounds true).discardWork 3

/-- The show and the images in effect take their defaults: the dictionary is not restored (R545, R553; log entry 49). -/
def State.dropShow (s : State) : State :=
  let show_ (a : Nat) : Bool := isSetting a || inSceneAreas a || (areaOf a == 0x1D && decide (0x1000 ≤ objectOf a)) ||
    (areaOf a == 0x1E && decide (objectOf a < 0x100) && elementOf a == 0)
  let s1 : State := { s with
    regs := s.regs.filter (fun e => !show_ e.1)
    strips := []
    dsp := ⟨[], []⟩ }
  let s2 := (List.range 8).foldl (fun (k : State) c =>
    (k.setAll [El.imgActiveCrc c, El.imgPath c, El.imgRate c] 0).setN (El.imgState c)
      (if k.nat (El.imgState c) = 2 then 1 else k.nat (El.imgState c))) s1
  [0x13, 0x0A, 0x0D, 0x0E, 0x0F, 0x10, 0x11, 0x12].foldl (fun (k : State) i => if k.domainUp i then k.freshUnit i else k)
    ((List.range 8).foldl (fun (k : State) c => if k.clusterUp c then k.applyRetired c else k) s2)

/-- ACTIVATION_RESTART (R542, R553, R554): the trial is armed and consumed, and the control cores restart into the new
image; where it fails its checks the old one boots in full. -/
def State.restartControl (s : State) (read : Bool) : State :=
  if s.mode ≠ 9 ∨ s.sys.actStep ≠ 2 then s
  else
    let slot := s.otherSlot
    let old := s.nat El.settingsFormat
    let armed := s.flash.writeRec (s.nat El.bootSlot) 1 slot
    let s1 : State := { s with flash := armed.writeRec (s.nat El.bootSlot) 2 slot }
    if s1.slotFail read (s1.flash.slot slot) ≠ 0 then
      let r := s1.resetEngine (s.nat El.resetCause)
      (r.setN El.bootSlot (s.nat El.bootSlot)).setN El.bootFallback 1
    else
      let s2 := (s1.endSessions.runImage slot true).setN El.bootFallback 0
      let s3 : State := { s2 with sys := { s2.sys with actStep := 3 } }
      if s3.nat El.settingsFormat = old then s3 else (s3.dropShow.saveSettings).postReset 1 old

/-- Rounds resume at the next boundary of the unbroken timeline; every job starts from its image state (R546, R554). -/
def State.resumeRounds (s : State) : State :=
  let s1 := s.reloadImages
  { s1 with rounds := { s1.rounds with nextRound := s1.rounds.nextPulse } }

/-- ACTIVATION_RESUME (R553, R554): the new image runs. The mode returns, in SOLO with the ramp up, for a SHADOW as RESYNC;
SOLO ends in CONFIGURE where the settings format changed. -/
def State.resumeActivation (s : State) : State :=
  if s.mode ≠ 9 ∨ s.sys.actStep ≠ 3 then s
  else
    let s1 := (s.setN El.updState 5).postStage 4 (s.nat El.bootSlot)
    if s.sys.actFrom = 5 ∧ (s.flash.slot s.otherSlot).format ≠ s.nat El.settingsFormat then
      let s2 := s1.stopRounds false
      let s3 : State := { s2 with sys := { s2.sys with actStep := 0 } }
      s.followPsc (s3.setMode 4) false
    else if s.sys.actFrom = 5 then
      let s2 := s1.resumeRounds
      let s3 : State := { s2 with sys := { s2.sys with actStep := 4, rampAt := s2.firstSample s2.rounds.nextPulse } }
      s3.setMode 5
    else if s.sys.actFrom = 7 then
      let s2 := s1.resumeRounds
      let s3 : State := { s2 with
        sys := { s2.sys with actStep := 0 }
        twin := { s2.twin with watchdog := true, silentCourier := 0, silentPair := 0 } }
      (s3.setMode 8).enterResync
    else
      let s2 : State := { s1 with sys := { s1.sys with actStep := 0 } }
      s2.setMode s.sys.actFrom

/-- `upd_confirm`: the trial slot becomes active, and the fuses follow (R550, R555). -/
def State.confirm (s : State) : State :=
  let slot := s.nat El.bootSlot
  let fuses := max s.flash.fuses (min 64 (s.flash.slot slot).security)
  let s1 : State := { s with flash := { s.flash.writeRec slot 0 slot with fuses := fuses } }
  ((s1.setN El.rollbackCount fuses).setN El.updState 0).postStage 5 slot

/-! ### Area 0D (R564) -/

/-- The value of a write in area 0D. -/
def State.flashValue (s : State) (a : Nat) (v : Val) : Status :=
  let n := v.toBytes.length
  if inRange a v = false then .outOfRange
  else if a = El.updData then (if n < 512 ∨ earlyFail s.variant v.toBytes ≠ 0 then .outOfRange else .ok)
  else if a = El.secOwnerHash then (if n = 48 then .ok else .outOfRange)
  else .ok

/-- What the state allows of a write in area 0D: turns of an update, and write-once items (R551, R553, R558). -/
def State.flashState (s : State) (a : Nat) (v : Val) : Status :=
  let one : Bool := v.toNat == 1
  if a = El.updData then (if s.updTurn a then .ok else .wrongState)
  else if a = El.updActivate ∧ one then (if s.updTurn a ∧ (s.mode ≠ 7 ∨ s.twinFits) then .ok else .wrongState)
  else if [El.updVerify, El.updConfirm, El.updAbort].contains a ∧ one then (if s.updTurn a then .ok else .wrongState)
  else if a = El.secOwnerHash then (if s.flash.ownerHash.isSome then .wrongState else .ok)
  else if a = El.secOwnerReq ∧ one then (if s.flash.ownerReq ∨ s.flash.ownerHash = none then .wrongState else .ok)
  else if a = El.secDebugOff ∧ one then (if s.flash.debugOff then .wrongState else .ok)
  else .ok

/-- A write in area 0D applies. -/
def State.applyFlash (s : State) (a : Nat) (v : Val) : State :=
  let one : Bool := v.toNat == 1
  if a = El.updData then s.applyUpdData v.toBytes
  else if a = El.settingsAutosave then s.setV a v
  else if a = El.secOwnerHash then
    ({ s with flash := { s.flash with ownerHash := some v.toBytes } } : State).showFlash
  else if one = false then s
  else if a = El.updVerify then s.setN El.updState 3
  else if a = El.updActivate then s.activateUpdate
  else if a = El.updConfirm then s.confirm
  else if a = El.updAbort then s.setN El.updState 0
  else if a = El.settingsSave then s.saveSettings
  else if a = El.settingsFactory then s.factory
  else if a = El.secOwnerReq then ({ s with flash := { s.flash with ownerReq := true } } : State).showFlash
  else if a = El.secDebugOff then
    (({ s with flash := { s.flash with debugOff := true } } : State).showFlash).setN El.dbgState 3
  else s

/-! ### The TAP (R560) -/

/-- The TAP answers on a part that has power. -/
def State.tapOn (s : State) : Bool := s.sys.powered && decide (2 ≤ s.mode)
def State.setTdo (s : State) (b : List Byte) : State := { s with sys := { s.sys with tdo := b } }

/-- IDCODE: what it reads is fixed for the part and not in the manual (log entry 3). -/
def State.readIdcode (s : State) : State := if s.tapOn then s.setTdo (leBytes 4 Config.idcode) else s

/-- JTAG_CHALLENGE: 16 bytes, drawn anew at each read (log entry 3). -/
def State.readChallenge (s : State) : State :=
  if s.tapOn = false then s
  else
    let b := (List.range 16).map (fun i => BitVec.ofNat 8 (Config.freeNat (s.free + i)))
    ({ s with
      free := s.free + 16
      sys := { s.sys with challenge := b } } : State).setTdo b

/-- JTAG_TOKEN: a signature of the debug authority over the SHA-384 of the challenge, `die_id` and the scope unlocks; after
three invalid tokens the TAP refuses until reset. A challenge serves one token (log entry 50). -/
def State.takeToken (s : State) (sig : List Byte) (scope : Byte) : State :=
  if s.tapOn = false ∨ s.nat El.dbgState ≠ 0 ∨ s.flash.debugOff then s
  else
    let good := s.sys.challenge.length == 16 && sig.length == 96 && Config.ecdsaVerify Config.debugAuthority
      (Config.sha384 (s.sys.challenge ++ leBytes 8 (s.nat El.dieId) ++ [scope])).toList sig
    let s1 : State := { s with sys := { s.sys with challenge := [] } }
    if good then ({ s1 with sys := { s1.sys with scope := some scope } } : State).setN El.dbgState 1
    else
      let n := s.sys.badTokens + 1
      let s2 : State := { s1 with sys := { s1.sys with badTokens := n } }
      if n < 3 then s2 else s2.setN El.dbgState 2

end Sys2Proof.Machine
end

