-- ==== Sys2Proof/Machine/Host.lean ====
section
/-! DEFINITION. The operations of R260, whoever asks: their checks in the order of R275, their effect and their answer
(R153 to R157, R242 to R245, R253, R255, R259 to R266, R276, R605). -/

namespace Sys2Proof.Machine

/-! ### Who asks (R245, R255, R271) -/

/-- The role of a source: a session's, the group's slot's, 4 for the service SPI, or the one a partner names (R477). -/
def State.roleOf (s : State) (src : Src) : Nat :=
  match src with
  | .session n => match s.session n with
    | none => 0
    | some x => x.role
  | .group g => s.nat (El.keyRole (s.nat (El.grpSlot g)))
  | .spi => 4
  | .peer _ role => role

/-- The session of a source; 0 for none. -/
def sessionOf : Src → Nat
  | .session n => n
  | _ => 0

/-- Under whom envelopes and assemblies stand: the requests that one session at the partner forwards count as one
session's (R154, R477). -/
def ownerOf : Src → Src
  | .peer f _ => .peer (f % 128) 0
  | x => x

/-- The key of a source's slot (R265). -/
def State.keyOf (s : State) (src : Src) : List Byte :=
  match src with
  | .session n => match s.session n with
    | none => []
    | some x => s.key x.slot
  | .group g => s.key (s.nat (El.grpSlot g))
  | _ => []

/-- Host access is closed in OFF, DORMANT and BOOT, and during the restart of an activation (R532). -/
def State.hostClosed (s : State) : Bool := decide (s.mode < 3) || (s.mode == 9 && decide (2 ≤ s.sys.actStep))

/-- Whether a source can ask now: an open session, an enabled group, the service SPI, or the partner of an ACTIVE. -/
def State.sourceOn (s : State) (src : Src) : Bool :=
  match src with
  | .session n => (s.session n).isSome && !s.hostClosed
  | .group g => decide (g < 16) && s.on (El.grpEnable g) && !s.hostClosed
  | .spi => s.mode == 2 || !s.hostClosed
  | .peer _ _ => s.mode == 6

/-- The elements that the service SPI reaches (R255). -/
def State.spiReach (s : State) (a : Nat) : Bool :=
  let r := areaOf a
  r == 0x00 || r == 0x01 || (s.mode != 2 && (r == 0x02 || r == 0x0D || r == 0x0E))

/-- Whether the subset of a source shuts an element out. -/
def State.shutOut (s : State) (src : Src) (a : Nat) : Bool := src == .spi && !s.spiReach a

/-! ### Records (R259, R260, R605) -/

/-- Bytes of the postmark that a record carries: 10 as TIME80, 8 as SMP64. -/
def markBytes (r : Rec) : Nat := if bitOf r.oflags 0 then (if bitOf r.oflags 1 then 10 else 8) else 0

/-- The `oflags` bits that an operation uses, as a mask. WRITE_AT and RECALL may name an envelope, and are then refused
(R154). -/
def usedFlags (op : Nat) : Nat :=
  if op = opWrite then 8 else if op = opWriteAt ∨ op = opRecall then 15 else if op = opSeal then 7 else 0

/-- Whether a record sets a flag that its operation does not use. -/
def strayFlags (r : Rec) : Bool := (List.range 8).any (fun i => bitOf r.oflags i && !bitOf (usedFlags r.op) i)

/-- Whether a body has the length that the operation and type require (R260, R605). -/
def bodyFits (r : Rec) : Bool :=
  let n := r.body.length
  let env := if bitOf r.oflags 3 then 1 else 0
  let a := r.addr.toNat
  if r.op = opRead then
    (if r.typ = 14 ∨ (r.typ = 0 ∧ typeOf a = 14) then n == 6
    else if r.typ = 0 ∧ typeOf a = 0 then n == 0 || n == 6
    else n == 0)
  else if r.op = opWrite then
    (if r.typ = 14 then decide (8 + env ≤ n) else if r.typ = 0 ∨ 14 < r.typ then decide (env ≤ n) else n == env + tyBytes r.typ)
  else if r.op = opWriteAt then
    bitOf r.oflags 0 &&
      (if r.typ = 0 ∨ 14 ≤ r.typ then decide (markBytes r ≤ n) else n == markBytes r + tyBytes r.typ)
  else if r.op = opSubscribe then n == 12
  else if r.op = opOpen then n == 0
  else if r.op = opSeal then n == 1 + markBytes r
  else if r.op = opDrop then n == 1
  else if r.op = opRecall then n == 4 + markBytes r
  else false

/-- Whether an operation names no element, so that its record carries type 0 (R259). -/
def namesNone (op : Nat) : Bool := op == opOpen || op == opSeal || op == opDrop || op == opRecall

/-- A malformed request record: another code, a host's NOTIFY, a status, a stray flag, or a body of a wrong length. -/
def malformed (r : Rec) : Bool :=
  r.status != 0 || strayFlags r || !bodyFits r || (namesNone r.op && r.typ != 0)

/-- A refusal: the record's head with the status and no body. -/
def refusal (r : Rec) (st : Status) : Rec := answerRec r r.typ st []
/-- An answer with OK. -/
def okRec (r : Rec) (typ : Nat) (body : List Byte) : Rec := answerRec r typ .ok body

/-- The resolved postmark of a record whose mark stands at an offset (R38, R70, R241). -/
def State.markOf (s : State) (r : Rec) (off : Nat) : Except Status (Option Nat) :=
  if bitOf r.oflags 0 = false then .ok none
  else if bitOf r.oflags 1 = false then .ok (some (field r.body off 8))
  else
    let v := field r.body off 10
    if 1000000000 ≤ v / 2 ^ 48 then .error .outOfRange else .ok (some (sampleOfNs (nsOfTime80 v) s.fs))

/-! ### Changes pass to the partner (R150, R477, R479) -/

/-- The twinned elements (R477). -/
def isTwinned (a : Nat) : Bool :=
  let r := areaOf a
  let o := objectOf a
  a == El.fsInt || a == El.roundSize || r == 0x06 || r == 0x08 || r == 0x09 || (decide (0x10 ≤ r) && decide (r ≤ 0x1F)) ||
    (r == 0x0E && decide (0x100 ≤ o) && decide (o < 0x110)) || a == El.tgId || (r == 0x07 && decide (0x200 ≤ o))

/-- The forward identifier of a source; 0 for none. -/
def fidOf : Src → Nat
  | .peer f _ => f
  | _ => 0

/-- The heads that a change item carries beside its writes, where its records do not show them: the kind of the change,
the time override and scene of a recall, the flags, and the postmark. They stand as addresses above the dictionary. -/
def headKind : Nat := 2 ^ 32
def headOverride : Nat := 2 ^ 32 + 1
def headScene : Nat := 2 ^ 32 + 2
def headFlags : Nat := 2 ^ 32 + 3
def headMark : Nat := 2 ^ 32 + 4
def isHead (a : Nat) : Bool := decide (2 ^ 32 ≤ a)

/-- The head of a kind of change. -/
def kindHead (k : Nat) : Nat × Val := (headKind, .int k)

/-- An ACTIVE beside a partner passes an accepted change on. -/
def State.pass (s : State) (src : Src) (id eff : Nat) (w : List (Nat × Val)) : State :=
  if s.mode = 6 ∧ s.linkOn 3 ∧ s.twin.partnerRole ≠ 0 then s.courierPut (.change id eff (fidOf src) w) else s

/-- The heads of a postmark and of the flags. -/
def markHeads (mark : Option Nat) (flags : Nat) : List (Nat × Val) :=
  (match mark with
    | none => []
    | some n => [(headMark, Val.int n)]) ++ [(headFlags, Val.int flags)]

/-! ### READ (R33, R242, R253, R260) -/

/-- Bytes of a value chunk that an answer holds within `bop_max_msg`: header, tag, record head, offset and total take 52. -/
def State.chunkRoom (s : State) : Nat := s.nat El.bopMaxMsg - 52

/-- The bytes of a DOMAIN that a READ of a chunk delivers, with the total length, or OUT_OF_RANGE, which a window read that meets an
uncorrectable block answers too (R264, R454, R472). -/
def State.readChunk (s : State) (session a off len : Nat) : Except Status (Nat × List Byte) × State :=
  if a = El.dramWinData then
    let n := min len (65536 - off)
    (if 65536 < off ∨ s.mappedEnd < s.nat El.dramWinAddr + off + n then (.error .outOfRange, s)
    else
      let q := s.dramFetch .bulk (s.nat El.dramWinAddr + off) n
      match q.2 with
      | none => (.error .outOfRange, q.1)
      | some d => (.ok (65536, d), q.1))
  else
    let b := (s.readVal session a).toBytes
    (if b.length < off then .error .outOfRange else .ok (b.length, slice b off len), s)

/-- Checks 1 to 5 of a READ. -/
def State.readHead (s : State) (src : Src) (a typ : Nat) : Status :=
  firstOf [s.addrStatus a, s.unitState a true, if s.shutOut src a ∨ accessOf a = .wo then .denied else .ok,
    if typ ≠ 0 ∧ typ ≠ typeOf a then .badType else .ok]

/-- A READ record. -/
def State.doRead (s : State) (w : Who) (r : Rec) : Rec × State :=
  let a := r.addr.toNat
  let st := s.readHead w.src a r.typ
  if st ≠ .ok then (refusal r st, s)
  else
    let s1 := s.takeReading a
    if typeOf a = 14 then
      let off := field r.body 0 4
      let q := s1.readChunk (sessionOf w.src) a off (min (field r.body 4 2) s1.chunkRoom)
      match q.1 with
      | .error e => (refusal r e, q.2)
      | .ok (total, b) => (okRec r 14 (leBytes 4 off ++ leBytes 4 total ++ b), q.2)
    else (okRec r (typeOf a) (encodeVal (typeOf a) (s1.readVal (sessionOf w.src) a)), s1)

/-! ### WRITE (R242, R262, R264, R265) -/

/-- Checks 1 to 5 of a write. -/
def State.writeHead (s : State) (src : Src) (a typ : Nat) : Status :=
  firstOf [s.addrStatus a, s.unitState a false, if s.shutOut src a ∨ writeDenied (s.roleOf src) a then .denied else .ok,
    if typ ≠ typeOf a then .badType else .ok]

/-- Check 6 for a whole value. -/
def State.valueStatus (s : State) (src : Src) (a : Nat) (v : Val) : Status :=
  if areaOf a = 0x0D then s.flashValue a v else (if inSceneAreas a then s.ahead else s).unitValue (src == .spi) a v

/-- Check 7 for a whole value: the mode, then the state. -/
def State.stateStatus (s : State) (a : Nat) (v : Val) : Status :=
  if s.modeOk a = false then .wrongState else if areaOf a = 0x0D then s.flashState a v else (if inSceneAreas a then s.ahead else s).unitStateOk a v

/-- Checks 6, 7 and 10 for a whole value. -/
def State.writeTail (s : State) (src : Src) (a : Nat) (v : Val) : Status :=
  firstOf [s.valueStatus src a v, s.stateStatus a v, if s.storeFits a v then .ok else .busy]

/-- What a refusal at check 6 leaves behind: the reason of a refused image or download (R238, R552). -/
def State.noteRefused (s : State) (a : Nat) (v : Val) (st : Status) : State :=
  let o := objectOf a
  if st ≠ .outOfRange ∧ st ≠ .notPresent then s
  else if areaOf a = 0x1D ∧ 0x10 ≤ o ∧ o < 0x18 ∧ elementOf a = 0 then s.noteRefusal (o - 0x10) v.toBytes
  else if areaOf a = 0x1D ∧ 0x10 ≤ o ∧ o < 0x18 ∧ elementOf a = 6 then
    (if st = .outOfRange ∧ v.toNat = 1 then s.setN (El.imgRefusal (o - 0x10)) st.code else s)
  else if a = El.updData then s.noteUpdFail v.toBytes
  else s

/-- The sample that R262 reports for a write that does not wait. -/
def State.sampleFor (s : State) (a : Nat) : Nat :=
  if s.roundsRun ∧ (isDelayed a ∨ areaOf a = 0x1C) then s.effective else s.reported

/-- A write applies at once: a key in clear over the service SPI, or unwrapped under the key of the writing slot (R265);
every other value under its area. -/
def State.applyNow (s : State) (src : Src) (a : Nat) (v : Val) : Except Status State :=
  let o := objectOf a
  if areaOf a = 0x02 ∧ 0x100 ≤ o ∧ o < 0x120 ∧ elementOf a = 1 then
    (if src = .spi then .ok (s.takeKey (o - 0x100) v.toBytes)
    else match Config.keyUnwrap (s.keyOf src) v.toBytes with
      | none => .error .tagFail
      | some k => .ok (s.takeKey (o - 0x100) k))
  else .ok ((if areaOf a = 0x0D then s.applyFlash a v else s.applyUnit a v).noteSetting a)

/-- A whole value is written: checks 6 to 10, and the effective sample. -/
def State.putElem (s : State) (w : Who) (a : Nat) (v : Val) : Except Status Nat × State :=
  let st := s.writeTail w.src a v
  if st ≠ .ok then (.error st, s.noteRefused a v st)
  else if isDelayed a ∧ s.roundsRun ∧ (areaOf a ≠ 0x1D ∨ v.toNat = 1) then
    let x := s.acceptWrite w a v
    match x.1 with
    | .error e => (.error e, x.2)
    | .ok eff => (.ok eff, (x.2.noteSetting a).pass w.src s.disp.nextId eff [(a, v)])
  else
    let eff := s.sampleFor a
    match s.applyNow w.src a v with
    | .error e => (.error e, s)
    | .ok s1 => (.ok eff, if isTwinned a then (s1.touch a 0).pass w.src 0 eff [(a, v)] else s1.touch a 0)

/-! ### DOMAIN values (R256, R264) -/

/-- Assemblies in which no chunk has been missing for 10 s. -/
def State.liveAsms (s : State) : List Assembly := s.bop.asms.filter (fun x => decide (s.time.tick < x.last + 10000000000))
def State.setAsms (s : State) (l : List Assembly) : State := { s with bop := { s.bop with asms := l } }

/-- A chunk of a DOMAIN value that passed checks 1 to 5; the service SPI declares no total, and a chunk of fewer than 256
bytes completes (R256). -/
def State.putChunk (s : State) (w : Who) (a off total : Nat) (data : List Byte) : Except Status Nat × State :=
  let spi := w.src == .spi
  let me := ownerOf w.src
  let live := s.liveAsms
  let others := live.filter (fun x => x.owner ≠ me)
  let s0 := s.setAsms live
  let mine : Option Assembly := if off = 0 then some ⟨me, a, total, [], 0⟩ else live.find? (fun x => x.owner = me)
  let end_ := off + data.length
  let most := if spi then 4194304 else total
  if live.any (fun x => x.owner == me && x.addr != a) then (.error .outOfRange, s.setAsms others)
  else match mine with
    | none => (.error .outOfRange, s0)
    | some m =>
      if off ≠ m.data.length ∨ (spi = false ∧ total ≠ m.total) ∨ 4194304 < total ∨ most < end_ then (.error .outOfRange, s.setAsms others)
      else
        let whole := m.data ++ data
        let complete := if spi then decide (data.length < 256) else end_ == total
        if complete = false then
          let st := s.stateStatus a (.bytes [])
          if st ≠ .ok then (.error st, s0)
          else if off = 0 ∧ others.any (fun x => x.addr == a) then (.error .busy, s0)
          else (.ok (s.sampleFor a), s.setAsms (⟨me, a, total, whole, s.time.tick⟩ :: others))
        else if off = 0 ∧ others.any (fun x => x.addr == a) then
          (.error (firstOf [s.valueStatus w.src a (.bytes whole), s.stateStatus a (.bytes whole), .busy]), s0)
        else
          let x := (s.setAsms others).putElem w a (.bytes whole)
          if x.1 matches .error .wrongState then (x.1, s0) else x

/-- An answer of a write: its effective sample. -/
def writeAnswer (r : Rec) (x : Except Status Nat × State) : Rec × State :=
  match x.1 with
  | .error e => (refusal r e, x.2)
  | .ok n => (okRec r r.typ (leBytes 8 n), x.2)

/-- A WRITE that names an envelope (R152, R154): each write is checked at once, and reports no sample. -/
def State.doEnvWrite (s : State) (w : Who) (r : Rec) : Rec × State :=
  let a := r.addr.toNat
  let e := field r.body 0 1
  let v := decodeVal r.typ (r.body.drop 1)
  let own := s.envStatus (ownerOf w.src) e
  let st := firstOf [s.addrStatus a,
    if writeDenied (s.roleOf w.src) a ∨ accessOf a = .wo ∨ own = .denied then .denied else .ok,
    if r.typ ≠ typeOf a ∨ wideType a then .badType else .ok,
    if inSceneAreas a then s.storeValue a v else .outOfRange]
  if st ≠ .ok then (refusal r st, s)
  else
    let x := s.addToEnvelope e a v
    if x.1 ≠ .ok then (refusal r x.1, x.2) else (okRec r r.typ (leBytes 8 0), x.2)

/-- Whether a source is a group, which may name no envelope (R271). -/
def isGroup : Src → Bool
  | .group _ => true
  | _ => false

/-- A WRITE record. -/
def State.doWrite (s : State) (w : Who) (r : Rec) : Rec × State :=
  let a := r.addr.toNat
  if bitOf r.oflags 3 then (if isGroup w.src then (refusal r .wrongState, s) else s.doEnvWrite w r)
  else
    let st := s.writeHead w.src a r.typ
    if st ≠ .ok then (refusal r st, s)
    else if r.typ = 14 then writeAnswer r (s.putChunk w a (field r.body 0 4) (field r.body 4 4) (r.body.drop 8))
    else writeAnswer r (s.putElem w a (decodeVal r.typ r.body))

/-! ### WRITE_AT (R70 to R72, R263) -/

/-- Whether an element takes a WRITE_AT. -/
def takesMark (a : Nat) : Bool :=
  (inSceneAreas a || areaOf a == 0x1E || areaOf a == 0x1F) && (accessOf a == .rw || accessOf a == .raw)

/-- A WRITE_AT record. Without rounds there is no timeline to name (WRONG_STATE). -/
def State.doWriteAt (s : State) (w : Who) (r : Rec) : Rec × State :=
  let a := r.addr.toNat
  let v := decodeVal r.typ (r.body.drop (markBytes r))
  let mark := s.markOf r 0
  let bad : Status := match mark with
    | .error e => e
    | .ok _ => .ok
  let st := firstOf [s.writeHead w.src a r.typ, if takesMark a then .ok else .outOfRange,
    s.valueStatus w.src a v, bad, if bitOf r.oflags 3 then .wrongState else .ok, s.stateStatus a v,
    if s.roundsRun then .ok else .wrongState]
  match st, mark with
  | .ok, .ok (some n) =>
    let x := s.acceptAt w a v n (bitOf r.oflags 2)
    (match x.1 with
    | .error e => (refusal r e, x.2)
    | .ok eff => (okRec r r.typ (leBytes 8 n ++ leBytes 8 eff),
        x.2.pass w.src s.disp.nextId eff ([kindHead 1] ++ markHeads (some n) (if bitOf r.oflags 2 then 1 else 0) ++ [(a, v)])))
  | st, _ => (refusal r st, s)

/-! ### SUBSCRIBE (R276) -/

/-- The lowest subscription number that is free. -/
def State.freeSub (s : State) : Option Nat := ((List.range 4096).map (· + 1)).find? (fun n => (s.sub n).isNone)

/-- Checks of a subscription by kind: to elements of one object, to notices, or to a publication list. A unit out of
service, one in a domain that is down, and the elements that a follower does not keep take no operation but READ (R33, R83,
R124, R598). -/
def State.subStatus (s : State) (r : Rec) (kind period count : Nat) : Status :=
  let a := r.addr.toNat
  let l := (List.range (min count (256 - elementOf a))).map (a + ·)
  let elems (n : List Nat) : Status := firstOf [s.addrStatus a, s.unitState a false, if n.any s.followerHides then .wrongState else .ok,
    if n.any (fun x => accessOf x == .wo) then .denied else .ok, if r.typ ≠ 0 ∧ r.typ ≠ typeOf a then .badType else .ok]
  if kind = 0 ∨ kind = 1 then
    firstOf [elems (if l = [] then [a] else l),
      if count = 0 ∨ 256 < count ∨ 256 < elementOf a + count ∨ (kind = 1 ∧ period = 0) then .outOfRange else .ok]
  else if kind = 2 then (if r.typ ≠ 0 then .outOfRange else .ok)
  else if kind = 3 then firstOf [elems [a], if (List.range 16).any (fun j => a == El.pubPeriod j) then .ok else .outOfRange]
  else .outOfRange

/-- Who holds the subscriptions of a source: the session, or the group with the sender to which its answers go (R271). -/
def State.subOwner (s : State) (src : Src) : Option Nat :=
  match src with
  | .session n => some n
  | .group g => some (groupOwner g s.bop.asker)
  | _ => none

/-- The session objects follow the subscriptions of an owner. -/
def State.showSubs (s : State) (n : Nat) : State := if n ≤ 64 then s.showSession n else s

/-- A SUBSCRIBE record. Neither the service SPI nor a partner holds subscriptions. -/
def State.doSubscribe (s : State) (w : Who) (r : Rec) : Rec × State :=
  match s.subOwner w.src with
  | some n =>
    let kind := field r.body 0 1
    let cancel := field r.body 1 1
    let period := field r.body 2 2
    let count := field r.body 4 2
    let old := field r.body 10 2
    if cancel = 1 then
      (match s.sub old with
      | none => (refusal r .outOfRange, s)
      | some x =>
        if x.owner ≠ n then (refusal r .outOfRange, s)
        else (okRec r r.typ (leBytes 2 old), (s.setSub old none).showSubs n))
    else if 1 < cancel then (refusal r .outOfRange, s)
    else
      let st := s.subStatus r kind period count
      if st ≠ .ok then (refusal r st, s)
      else match s.freeSub with
        | none => (refusal r .busy, s)
        | some k =>
          if 256 ≤ (s.subList.filter (fun e => e.2.owner = n)).length then (refusal r .busy, s)
          else
            let x : Sub := ⟨n, kind, r.addr.toNat, if kind < 2 then count else 0, period, field r.body 6 4, s.roundIssued + period, []⟩
            let y : Sub := if kind = 0 then { x with vals := s.watched x } else x
            (okRec r r.typ (leBytes 2 k), (s.setSub k (some y)).showSubs n)
  | none => (refusal r .wrongState, s)

/-! ### Envelopes and recalls (R153 to R157) -/

/-- The change that was accepted last. -/
def State.lastChange (s : State) : Option Change := s.disp.changes.getLast?

/-- Pass an accepted recall or envelope on. -/
def State.passSlot (s : State) (src : Src) (id : Nat) (heads : List (Nat × Val)) : State :=
  match s.lastChange with
  | none => s
  | some c =>
    if c.id ≠ id then s
    else s.pass src c.id c.eff (heads ++ markHeads c.mark c.flags ++ c.writes.map (fun x => (x.addr, x.val)))

/-- An ENVELOPE_OPEN record. -/
def State.doOpen (s : State) (w : Who) (r : Rec) : Rec × State :=
  let x := s.openEnvelope (ownerOf w.src)
  match x.1 with
  | .error e => (refusal r e, x.2)
  | .ok n => (okRec r 0 (leBytes 1 n), x.2)

/-- An ENVELOPE_SEAL record; a refusal of R155 carries the index of the write that caused it. -/
def State.doSeal (s : State) (w : Who) (r : Rec) : Rec × State :=
  let e := field r.body 0 1
  let closed : Bool := match s.env e with
    | none => false
    | some x => x.sealed
  match s.envStatus (ownerOf w.src) e, s.markOf r 1 with
  | .denied, _ => (refusal r .denied, s)
  | _, .error st => (refusal r st, s)
  | own, .ok mark =>
    if closed then (refusal r .wrongState, s)
    else if own ≠ .ok then (refusal r own, s)
    else
      let x := s.sealEnvelope w e mark (bitOf r.oflags 2)
      match x.1 with
      | .error z => (answerRec r 0 z.1 (leBytes 2 z.2), x.2)
      | .ok z => (okRec r 0 (leBytes 1 z.1 ++ leBytes 8 z.2), x.2.passSlot w.src s.disp.nextId [kindHead 3])

/-- An ENVELOPE_DROP record; the drop of a sealed envelope cancels its change at the partner too. -/
def State.doDrop (s : State) (w : Who) (r : Rec) : Rec × State :=
  let e := field r.body 0 1
  if s.envStatus (ownerOf w.src) e = .denied then (refusal r .denied, s)
  else
    let slot := (s.disp.changes.find? (fun c => c.envelope = some e)).bind (·.slot)
    let x := s.dropEnvelope e
    if x.1 ≠ .ok then (refusal r x.1, x.2)
    else (okRec r 0 [], match slot with
      | none => x.2
      | some i => x.2.pass w.src 0 0 [(El.pendCancel i, .int 1)])

/-- A RECALL record: an empty slot answers NO_OBJECT, a lower role than Operator DENIED (R245). -/
def State.doRecall (s : State) (w : Who) (r : Rec) : Rec × State :=
  let n := field r.body 0 2
  let ovr := field r.body 2 2
  if n < 4096 ∧ (s.val (El.sceneData n)).toBytes = [] then (refusal r .noObject, s)
  else if s.roleOf w.src < 2 then (refusal r .denied, s)
  else match s.markOf r 4 with
    | .error st => (refusal r st, s)
    | .ok mark =>
      if bitOf r.oflags 3 then (refusal r (if 4096 ≤ n ∨ overrideOk ovr = false then .outOfRange else .wrongState), s)
      else
        let x := s.recallScene w n ovr mark (bitOf r.oflags 2)
        match x.1 with
        | .error e => (refusal r e, x.2)
        | .ok z => (okRec r 0 (leBytes 1 z.1 ++ leBytes 8 z.2),
            x.2.passSlot w.src s.disp.nextId [kindHead 2, (headOverride, .int ovr), (headScene, .int n)])

/-! ### Forwarding (R477) -/

/-- Whether an operation at a SHADOW or RESYNC engine belongs to the ACTIVE. -/
def State.forActive (s : State) (w : Who) (r : Rec) : Bool :=
  let here : Bool := match w.src with
    | .peer _ _ => true
    | _ => false
  (s.mode == 7 || s.mode == 8) && !here &&
    (((r.op == opWrite || r.op == opWriteAt) && isTwinned r.addr.toNat) || (r.op == opWrite && bitOf r.oflags 3) || namesNone r.op)

/-- Whether an ACTIVE is on the courier. -/
def State.activeHeard (s : State) : Bool := s.linkOn 3 && s.twin.partnerRole == 4 && bitOf (s.nat El.twPaths) 0

/-- The number under which a source's forwarded requests count as one session's at the ACTIVE: 1 to 64 a session, 65 to
80 a group, 127 the service SPI (R154). -/
def sourceNum : Src → Nat
  | .session n => n
  | .group g => 65 + g
  | .spi => 127
  | .peer _ _ => 0

/-- A request goes to the ACTIVE and waits for its response; with no ACTIVE on the courier it answers WRONG_STATE. -/
def State.forward (s : State) (w : Who) (r : Rec) : Option Rec × State :=
  if isGroup w.src ∧ (r.op = opOpen ∨ r.op = opSeal ∨ r.op = opDrop ∨ bitOf r.oflags 3) then (some (refusal r .wrongState), s)
  else if s.activeHeard = false then
    let st := if namesNone r.op ∨ bitOf r.oflags 3 then .ok else s.writeHead w.src r.addr.toNat r.typ
    (some (refusal r (if st = .ok then .wrongState else st)), s)
  else
    let fid := s.twin.nextFid % 2 ^ 25 * 128 + sourceNum w.src
    let s1 := s.courierPut (.request fid (s.roleOf w.src) r)
    (none, { s1 with
      twin := { s1.twin with nextFid := s1.twin.nextFid + 1 }
      bop := { s1.bop with forwarded := s1.bop.forwarded ++ [(fid, w, r)] } })

/-! ### One record -/

/-- A record that is not malformed, executed here. -/
def State.perform (s : State) (w : Who) (r : Rec) : Rec × State :=
  if r.op = opRead then s.doRead w r
  else if r.op = opWrite then s.doWrite w r
  else if r.op = opWriteAt then s.doWriteAt w r
  else if r.op = opSubscribe then s.doSubscribe w r
  else if isGroup w.src ∧ r.op ≠ opRecall then (refusal r .wrongState, s)
  else if r.op = opOpen then s.doOpen w r
  else if r.op = opSeal then s.doSeal w r
  else if r.op = opDrop then s.doDrop w r
  else s.doRecall w r

/-- A record is executed: its answer, or none while it waits for the ACTIVE (R477, R605). -/
def State.operate (s : State) (w : Who) (r : Rec) : Option Rec × State :=
  if malformed r then (some (refusal r .outOfRange), s)
  else if s.forActive w r then s.forward w r
  else
    let x := s.perform w r
    (some x.1, x.2)

end Sys2Proof.Machine
end

