-- ==== Sys2Proof/Machine/Bop.lean ====
section
/-! DEFINITION. BOP messages from arrival to answer, sessions, the queue, the service SPI, and timeouts of the host side
(R252 to R273, R389, R605). -/

namespace Sys2Proof.Machine

/-! ### The wire (R257, R259, R605) -/

/-- The record that a slice of a body holds. -/
def recOf (b : List Byte) : Rec where
  op := field b 0 1
  typ := field b 1 1
  opId := field b 4 2
  oflags := field b 6 1
  status := field b 7 1
  addr := BitVec.ofNat 32 (field b 8 4)
  body := b.drop 12

/-- The records of a body, or none where it does not parse: `n` records must fill it exactly. -/
def parseRecs : Nat → List Byte → Option (List Rec)
  | 0, b => if b = [] then some [] else none
  | n + 1, b =>
    let len := field b 2 2
    if b.length < 12 ∨ len < 12 ∨ b.length < len then none
    else (parseRecs n (b.drop len)).map (recOf (b.take len) :: ·)

/-- The header of a message. -/
structure Head where
  flags : Nat
  session : Nat
  engine : Nat
  seq : Nat
  count : Nat
  bodyLen : Nat
deriving DecidableEq, Repr

def headOf (b : List Byte) : Head := ⟨field b 3 1, field b 4 2, field b 6 2, field b 8 4, field b 12 2, field b 14 2⟩

/-- The checks of R257: length, magic, version and reserved flags. -/
def frameOk (b : List Byte) : Bool :=
  decide (32 ≤ b.length) && b.length == 32 + field b 14 2 && field b 0 2 == 0x4F42 && field b 2 1 == 1 && decide (field b 3 1 < 16)

/-- The records of a message (R605). -/
def messageRecs (b : List Byte) : Option (List Rec) :=
  let h := headOf b
  if 255 < h.count then none else parseRecs h.count (slice b 16 h.bodyLen)

/-- Whether a tag is the one that a key and salt give (R268). -/
def tagGood (key salt b : List Byte) : Bool := tagged key salt (b.take (b.length - 16)) == b

/-! ### Message-level answers (R253, R268, R270, R273) -/

/-- The source that a header names: a group or a session. -/
def Head.src (h : Head) : Src := if bitOf h.flags 1 then .group h.session else .session h.session

/-- An untagged answer outside any session, or to a message whose tag failed (log entry 13). -/
def State.bareAnswer (s : State) (h : Head) (port host : Nat) (recs : List Rec) : State :=
  let flags := 1 + (if bitOf h.flags 1 then 2 else 0) + (if bitOf h.flags 2 then 4 else 0)
  s.sendBop port host 1 (untagged (messageBody flags h.session (s.nat El.engineNumber) 0 recs))

/-- A message-level status, in the numbering of the session or group where there is one. -/
def State.levelAnswer (s : State) (h : Head) (port host : Nat) (st : Status) : State :=
  if bitOf h.flags 2 = false ∧ s.sourceOn h.src then s.answer h.src port host none [statusRec st]
  else s.bareAnswer h port host [statusRec st]

/-- A key for the 1 ms of R268: session, group or opening. -/
def Head.tagKey (h : Head) : Nat := h.session + (if bitOf h.flags 2 then 131072 else if bitOf h.flags 1 then 65536 else 0)

/-- A wrong tag: counted, and answered untagged at most once in 1 ms. -/
def State.tagFailure (s : State) (h : Head) (port host : Nat) : State :=
  let s1 := s.inc El.bopTagFails
  let last := Tab.get 0 s.bop.tagFailAt h.tagKey
  if last ≠ 0 ∧ s.time.tick + 1 < last + 1000000 then s1
  else
    let s2 : State := { s1 with bop := { s1.bop with tagFailAt := Tab.put 0 s1.bop.tagFailAt h.tagKey (s.time.tick + 1) } }
    s2.bareAnswer h port host [statusRec .tagFail]

/-! ### Opening a session (R266) -/

/-- The lowest session number that is free. -/
def State.freeSession (s : State) : Option Nat := ((List.range 64).map (· + 1)).find? (fun n => (s.session n).isNone)

/-- Whether a slot holds a key and a role. -/
def State.slotUsed (s : State) (slot : Nat) : Bool :=
  decide (slot < 32) && decide (s.key slot ≠ []) && s.on (El.keyRole slot)

/-- The session salt: 8 bytes of the engine's random source (log entry 3). -/
def State.drawSalt (s : State) : List Byte × State :=
  ((List.range 8).map (fun i => BitVec.ofNat 8 (Config.freeNat (s.free + i))), { s with free := s.free + 8 })

/-- An answer to an opening: tagged with the host nonce as salt, numbered 0. -/
def State.openAnswer (s : State) (port host slot : Nat) (nonce : List Byte) (r : Rec) : State :=
  s.sendBop port host 1 (tagged (s.key slot) nonce (messageBody 5 slot (s.nat El.engineNumber) 0 [r]))

/-- A session that has just opened. -/
def newSession (slot port host role : Nat) (salt : List Byte) (tick : Nat) : Session where
  slot := slot
  port := port
  host := host
  role := role
  salt := salt
  hi := 0
  seen := [0]
  outSeq := 0
  cache := []
  last := tick

/-- An opening whose tag is right: a session opens, or the refusal (R266, R286). -/
def State.openSession (s : State) (port host slot : Nat) (r : Rec) : State :=
  let nonce := r.body
  if s.mode < 4 ∨ 11 < s.mode ∨ s.hostClosed then s.openAnswer port host slot nonce (refusal r .wrongState)
  else match s.freeSession with
    | none => s.openAnswer port host slot nonce (refusal r .busy)
    | some n =>
      let x := s.drawSalt
      let s1 := x.2.setSession n (some (newSession slot port host (s.nat (El.keyRole slot)) x.1 s.time.tick))
      ((s1.showSession n).showSlotSessions slot).openAnswer port host slot nonce (okRec r 5 (leBytes 2 n ++ x.1))

/-- A record that an opening must carry. -/
def isOpening (r : Rec) : Bool :=
  r.op == opWrite && r.typ == 5 && r.oflags == 0 && r.status == 0 && r.addr.toNat == El.sessionOpen && decide (r.body.length = 8)

/-- An opening message. -/
def State.takeOpening (s : State) (h : Head) (port host : Nat) (b : List Byte) : State :=
  let recs := messageRecs b
  let first : Rec := match recs with
    | some (r :: _) => r
    | _ => statusRec .ok
  if s.slotUsed h.session = false then s.bareAnswer h port host [refusal first .denied]
  else if tagGood (s.key h.session) zeroSalt b = false then s.tagFailure h port host
  else match recs with
    | some [r] =>
      if h.seq = 0 ∧ isOpening r then s.openSession port host h.session r
      else s.bareAnswer h port host [statusRec .outOfRange]
    | _ => s.bareAnswer h port host [statusRec .outOfRange]

/-! ### Requests (R269, R271, R273) -/

/-- The judgement of R269: a response kept for a repeat, to be executed, or stale. -/
inductive Verdict where
  | repeated (answer : List Byte)
  | accept
  | stale
deriving DecidableEq, Repr

def judgeSeq (hi : Nat) (seen : List Nat) (cache : List (Nat × List Byte)) (seq : Nat) : Verdict :=
  match cache.find? (fun e => e.1 = seq) with
  | some e => .repeated e.2
  | none => if hi < seq ∨ (hi ≤ seq + 64 ∧ seen.contains seq = false) then .accept else .stale

/-- The window of numbers seen, once a number is accepted. -/
def seenWith (hi : Nat) (seen : List Nat) (seq : Nat) : List Nat := (seq :: seen).filter (fun n => decide (max hi seq ≤ n + 64))

/-- A request of a session or group with a right tag, judged by a verdict. -/
def State.takeJudged (s : State) (h : Head) (port host : Nat) (b : List Byte) : Verdict → State
  | .repeated m => s.sendBop port host 1 m
  | .stale => (s.inc El.bopStale).answer h.src port host none [statusRec .stale]
  | .accept =>
    match messageRecs b with
    | none => s.answer h.src port host (some h.seq) [statusRec .outOfRange]
    | some [] => s.answer h.src port host (some h.seq) []
    | some l =>
      let q : Request := ⟨h.src, port, host, h.seq, l, [], false⟩
      { s with bop := { s.bop with queue := s.bop.queue ++ [q] } }

/-- A message in a session or to a group. -/
def State.takeRequest (s : State) (h : Head) (port host : Nat) (b : List Byte) : State :=
  match h.src with
  | .session n => match s.session n with
    | none => s.tagFailure h port host
    | some x =>
      if tagGood (s.key x.slot) x.salt b = false then s.tagFailure h port host
      else
        let v := judgeSeq x.hi x.seen x.cache h.seq
        let y : Session := { x with port := port, host := host, last := s.time.tick }
        let z : Session := if v = .accept then { y with hi := max x.hi h.seq, seen := seenWith x.hi x.seen h.seq } else y
        ((s.setSession n (some z)).showSession n).takeJudged h port host b v
  | .group g =>
    if s.sourceOn (.group g) = false then s
    else if s.key (s.nat (El.grpSlot g)) = [] ∨ tagGood (s.key (s.nat (El.grpSlot g))) zeroSalt b = false then s.tagFailure h port host
    else
      let x := s.groupSeq g
      let v := judgeSeq x.hi x.seen x.cache h.seq
      let s1 := if v = .accept then s.setGroupSeq g { x with hi := max x.hi h.seq, seen := seenWith x.hi x.seen h.seq } else s
      s1.takeJudged h port host b v
  | _ => s

/-! ### Arrival (R252 to R254, R258, R389) -/

/-- The bit of `bop_ports` for a port coded as `sess_port` codes it. -/
def portBit (port : Nat) : Nat := if 4 ≤ port then 3 else port

/-- Whether BOP is heard on a port in the present mode (R252, R420, R532). -/
def State.hears (s : State) (port : Nat) : Bool :=
  bitOf (s.nat El.bopPorts) (portBit port) && s.portRuns port && !s.hostClosed && (s.mode != 3 || port == 0)

/-- The link in step, with its tunnel on, whose far end is engine n (R389). -/
def State.tunnelTo (s : State) (n : Nat) : Option Nat :=
  (List.range 4).find? (fun l => s.inStep l && bitOf (s.nat El.bopPorts) 3 && s.nat (El.lkFarEngine l) == n)

/-- The class and number under which answers that return through a tunnel find their way. -/
def Head.relayKey (h : Head) : Nat := h.session + 65536 * (if bitOf h.flags 2 then 2 else if bitOf h.flags 1 then 1 else 0)

/-- A request enters a tunnel unchanged; its source is kept for the answers. -/
def State.enterTunnel (s : State) (l : Nat) (h : Head) (port host : Nat) (b : List Byte) : State :=
  let k := s.link l
  (s.setLink l { k with relays := Tab.ins h.relayKey (port, host) k.relays }).tunnelSend l b

/-- A message is judged from its header on: engine, length, room in the queue, opening or request. -/
def State.takeMessage (s : State) (port host : Nat) (b : List Byte) : State :=
  let h := headOf b
  let own := h.engine == 0xFFFF || h.engine == s.nat El.engineNumber
  if frameOk b = false ∨ bitOf h.flags 0 ∨ bitOf h.flags 3 then s.inc El.bopBad
  else if own = false then
    (match (if 4 ≤ port then none else s.tunnelTo h.engine) with
    | some l => s.enterTunnel l h port host b
    | none => if 4 ≤ port then s else s.inc El.bopForeign)
  else if s.nat El.bopMaxMsg < b.length then s.levelAnswer h port host .outOfRange
  else if 256 ≤ s.bop.queue.length then (s.inc El.bopBusy).levelAnswer h port host .busy
  else if bitOf h.flags 2 then s.takeOpening h port host b
  else s.takeRequest h port host b

/-- Whether a datagram on a port is BOP (R252, R253): whole, to `bop_udp_port`, and on A and B in the class of `bop_dscp`. -/
def State.isBop (s : State) (port : Nat) (u : Udp) : Bool :=
  decide (4 ≤ port) || (!u.fragment && u.dst == s.nat El.bopUdpPort && (port == 0 || u.dscp == s.nat El.bopDscp))

/-- BOP_MESSAGE: a datagram on a port leaves its receive ring and is judged. -/
def State.bopMessage (s : State) (port host : Nat) (u : Udp) : State :=
  let b := u.data
  if s.hears port = false ∨ s.isBop port u = false then s
  else
    let p := if port = 0 then 2 else port - 1
    ((if 4 ≤ port then s else s.takeRx p 1).noteEngine .second 0 b.length).takeMessage port host b

/-- A message that comes out of a tunnel: a request for this engine, or an answer on its way back to its source. -/
def State.fromTunnel (s : State) (l : Nat) (b : List Byte) : State :=
  let h := headOf b
  if frameOk b ∧ (bitOf h.flags 0 ∨ bitOf h.flags 3) then
    (match (s.link l).relays.find? (fun e => e.1 = h.relayKey) with
    | none => s
    | some e => s.sendBop e.2.1 e.2.2 1 b)
  else if s.hears (4 + l) then s.takeMessage (4 + l) 0 b
  else s

/-- TUNNEL_SECTION: a message with bits in a bad chunk is missing (R254, R366, R367, R389). -/
def State.tunnelSection (s : State) (l : Nat) (bad : List Nat) (msgs : List (List Byte)) : State :=
  if s.linkOn l = false ∨ (s.link l).blockLock = false then s
  else ((received bad tunnelBytes 0 msgs).filterMap id).foldl (fun k b => k.fromTunnel l b) (s.countBad l bad)

/-! ### Executing records (R261, R267, R269) -/

/-- A request whose records are all answered is answered; a session that it closed ends then. -/
def State.finishRequest (s : State) (q : Request) : State :=
  if q.todo ≠ [] ∨ q.done.any isWaiting then
    (if s.sourceOn q.src then { s with bop := { s.bop with queue := q :: s.bop.queue } } else s)
  else
    let s1 := s.respond q
    if q.closing then s1.endSession (sessionOf q.src) else s1

/-- Take out of the queue the request of a source and number that a test picks. -/
def State.pickRequest (s : State) (w : Who) (p : Request → Bool) : Option (Request × State) :=
  let mine (q : Request) : Bool := q.src == w.src && q.seq == w.seq && p q
  (s.bop.queue.find? mine).map (fun q => (q, { s with bop := { s.bop with queue := s.bop.queue.filter (fun x => !mine x) } }))

/-- The answer of the service SPI: status and value (R256). -/
def State.spiAnswer (s : State) (st : Nat) (v : List Byte) : State := { s with bop := { s.bop with spi := (st, v) } }

/-- An answer to a record that no queued request holds: in a message of its own, on the SPI, or back over the courier. -/
def State.sendAnswer (s : State) (w : Who) (a : Rec) : State :=
  match w.src with
  | .session n => match s.session n with
    | none => s
    | some x => s.answer w.src x.port x.host none [a]
  | .group _ => s.answer w.src 0 0 none [a]
  | .spi => s.spiAnswer a.status a.body
  | .peer fid _ => s.courierPut (.response fid a)

/-- A write of 1 to `session_close` that was answered OK. -/
def closes (r : Rec) (a : Option Rec) : Bool :=
  r.op == opWrite && r.addr.toNat == El.sessionClose && r.body == [1] && (match a with
    | none => false
    | some x => x.status == 0)

/-- A record is executed: as the next record of the request that holds it, or on its own. -/
def State.record (s : State) (op : Nat) (w : Who) (r0 : Rec) : State :=
  let r := { r0 with op := op }
  let me : Who := { w with opId := r.opId }
  if s.sourceOn w.src = false then s
  else match s.pickRequest w (fun q => q.todo.head? == some r) with
    | some (q, s0) =>
      let s1 : State := { s0 with bop := { s0.bop with asker := (q.port, q.host) } }
      let x := s1.operate me r
      x.2.finishRequest { q with todo := q.todo.tail, done := q.done ++ [x.1.getD (waiting r)], closing := q.closing || closes r x.1 }
    | none =>
      let x := s.operate me r
      let s2 := match x.1 with
        | none => if w.src = .spi then x.2.spiAnswer 0xFF [] else x.2
        | some a => x.2.sendAnswer me a
      if closes r x.1 then s2.endSession (sessionOf w.src) else s2

/-- The answer that the ACTIVE gave to a forwarded record reaches its request, or its asker. -/
def State.giveAnswer (s : State) (w : Who) (r a : Rec) : State :=
  let holds (x : Rec) : Bool := x == waiting r
  match s.pickRequest w (fun q => q.done.any holds) with
  | some (q, s1) =>
    let before := q.done.takeWhile (fun x => !holds x)
    s1.finishRequest { q with done := before ++ [a] ++ q.done.drop (before.length + 1) }
  | none => s.sendAnswer w a

/-- A write of a value to an element as a WRITE record. -/
def writeRec (w : Who) (a : Nat) (v : Val) : Rec :=
  ⟨opWrite, typeOf a, w.opId, 0, 0, BitVec.ofNat 32 a, encodeVal (typeOf a) v⟩
def State.writeElem (s : State) (w : Who) (a : Nat) (v : Val) : State := s.record opWrite w (writeRec w a v)

/-- A write of a number or of a command's 1. -/
def State.writeNat (s : State) (w : Who) (a n : Nat) : State := s.writeElem w a (.int n)
def State.command (s : State) (w : Who) (a : Nat) : State := s.writeNat w a 1

/-- A chunk of a DOMAIN element as a WRITE record (R264). -/
def chunkRec (w : Who) (a : Nat) (k : Chunk) : Rec :=
  ⟨opWrite, 14, w.opId, 0, 0, BitVec.ofNat 32 a, leBytes 4 k.off ++ leBytes 4 k.total ++ k.data⟩
def State.writePart (s : State) (w : Who) (a : Nat) (k : Chunk) : State := s.record opWrite w (chunkRec w a k)

/-! ### The service SPI (R255, R256) -/

/-- Checks 1 to 5 and the length field of a READ transaction, then the value: a DOMAIN is followed by zero bytes past its
end. -/
def State.spiRead (s : State) (a typ len off : Nat) : State :=
  if s.sourceOn .spi = false then s
  else
    let st := firstOf [s.readHead .spi a typ, if typ = typeOf a then .ok else .badType,
      if len = 0 ∨ 256 < len ∨ (typ ≠ 14 ∧ len ≠ tyBytes typ) then .outOfRange else .ok]
    if st ≠ .ok then s.spiAnswer st.code []
    else
      let s1 := s.takeReading a
      if typ ≠ 14 then s1.spiAnswer 0 (encodeVal typ (s1.readVal 0 a))
      else
        let q := s1.readChunk 0 a off len
        match q.1 with
        | .error e => q.2.spiAnswer e.code []
        | .ok x => q.2.spiAnswer 0 ((x.2 ++ List.replicate len 0).take len)

/-- A WRITE transaction. -/
def State.spiWrite (s : State) (a typ len off : Nat) (data : List Byte) : State :=
  if s.sourceOn .spi = false then s
  else
    let w : Who := ⟨.spi, 0, 0⟩
    let fits := data.length == len && decide (len ≤ 256) && (typ == 14 || (decide (1 ≤ len) && len == tyBytes typ))
    let st := firstOf [s.writeHead .spi a typ, if fits then .ok else .outOfRange]
    if st ≠ .ok then s.spiAnswer st.code []
    else
      let r : Rec := ⟨opWrite, typ, 0, 0, 0, BitVec.ofNat 32 a, data⟩
      if s.forActive w r then
        let x := s.forward w (if typ = 14 then { r with body := leBytes 4 off ++ leBytes 4 0 ++ data } else r)
        (match x.1 with
        | none => x.2.spiAnswer 0xFF []
        | some z => x.2.spiAnswer z.status [])
      else
        let x := if typ = 14 then s.putChunk w a off 0 data else s.putElem w a (decodeVal typ data)
        match x.1 with
        | .error e => x.2.spiAnswer e.code []
        | .ok _ => x.2.spiAnswer 0 []

/-! ### Timeouts (R264, R267) -/

/-- ASSEMBLY_TIMEOUT: 10 s without a chunk. -/
def State.assemblyTimeout (s : State) (src : Src) : State :=
  s.setAsms (s.bop.asms.filter (fun x => !(x.owner == src && decide (x.last + 10000000000 ≤ s.time.tick))))

/-- SESSION_TIMEOUT: `sess_timeout` seconds without a valid request. -/
def State.sessionTimeout (s : State) (n : Nat) : State :=
  match s.session n with
  | none => s
  | some x => if x.last + s.nat El.sessTimeout * 1000000000 ≤ s.time.tick then s.endSession n else s

end Sys2Proof.Machine
end

