-- ==== Sys2Proof/Machine/Forward.lean ====
section
/-! DEFINITION. What the courier of a twin carries: changes, forwarded requests and their responses, the settings of a
resync, and the handover between ACTIVE and SHADOW (R150, R476 to R480, R492 to R498). -/

namespace Sys2Proof.Machine

/-- Whether the courier reaches this engine: link 3 of a twin. -/
def State.courierOn (s : State) : Bool := s.isCourier 3 && s.linkOn 3

/-! ### Change items (R150, R479) -/

/-- The number under a head of a change item, or a default. -/
def headNat (w : List (Nat × Val)) (h d : Nat) : Nat := match w.find? (fun e => e.1 = h) with
  | none => d
  | some e => e.2.toNat
/-- The number under a head, if it stands there. -/
def headOpt (w : List (Nat × Val)) (h : Nat) : Option Nat := (w.find? (fun e => e.1 = h)).map (fun e => e.2.toNat)

/-- The kind of a change by its code in a change item; without a head, one write is a plain write, more an envelope. -/
def kindOf (w late : List (Nat × Val)) : ChangeKind :=
  match headOpt w headKind with
  | some 0 => .write
  | some 1 => .writeAt
  | some 2 => .recall
  | some 3 => .envelope
  | some _ => .activate
  | none => match late with
    | [e] => if areaOf e.1 = 0x1D then .activate else .write
    | _ => .envelope

/-- Who a forwarded request came from, at the engine that forwarded it. -/
def State.forwarder (s : State) (fid : Nat) : Who := match s.bop.forwarded.find? (fun e => e.1 = fid) with
  | none => ⟨.peer fid 0, 0, 0⟩
  | some e => e.2.1

/-- The ACTIVE's change, as this engine holds it: with the ACTIVE's effective sample, and the lengths and shapes of its own
elements, which are the ACTIVE's. -/
def State.changeFrom (s : State) (eff fid : Nat) (w late : List (Nat × Val)) : Change :=
  let kind := kindOf w late
  let ovr := headNat w headOverride 0xFFFF
  { id := s.disp.nextId
    order := s.disp.nextId
    kind := kind
    eff := eff
    writes := s.shapeAll (if ovr = 0xFFFF then none else some ovr) late
    slot := if kind = .recall ∨ kind = .envelope then s.slotFor else none
    envelope := none
    scene := headOpt w headScene
    mark := headOpt w headMark
    flags := headNat w headFlags 0
    values := distinctCount late
    armed := false
    committed := kind == .write || kind == .activate
    told := false
    who := s.forwarder fid
    fid := fid }

/-- A change from the ACTIVE enters the list, in the ACTIVE's order of acceptance. -/
def State.takePartnerChange (s : State) (eff fid : Nat) (w late : List (Nat × Val)) : State :=
  let c := s.changeFrom eff fid w late
  let resv := match reserveAll s.mix.resv s.roundB eff c.id c.writes with
    | .error _ => s.mix.resv
    | .ok r => r
  let s0 := if c.kind = .activate then c.writes.foldl (fun (q : State) w => q.captureImage (objectOf w.addr - 0x10)) s else s
  let s1 := if c.mark.isSome then s0.overtake eff c.writes else s0
  let s2 := s1.addChange c (s1.liveResv c.id resv)
  if s2.mayArm c then s2.arm c else s2

/-- CHANGE: writes that wait for their sample become a change; the others apply as they did at the ACTIVE. -/
def State.changeItem (s : State) (eff fid : Nat) (w : List (Nat × Val)) : State :=
  if s.courierOn = false ∨ (s.mode ≠ 7 ∧ s.mode ≠ 8) then s
  else
    let l := w.filter (fun e => !isHead e.1 && isTwinned e.1)
    let late := l.filter (fun e => isDelayed e.1)
    let s1 := (l.filter (fun e => !isDelayed e.1)).foldl (fun (k : State) e => (k.applyUnit e.1 e.2).noteSetting e.1) s
    let s2 := if late = [] then s1 else s1.takePartnerChange eff fid w late
    if fid = 0 then s2 else { s2 with twin := { s2.twin with got := Tab.ins fid (eff + 1) s2.twin.got } }

/-! ### Forwarded requests (R477, R496) -/

/-- FORWARDED_REQUEST: the ACTIVE executes it with the role of the forwarding session, and sends the response. -/
def State.forwardedRequest (s : State) (fid role : Nat) (r : Rec) : State :=
  if s.courierOn = false ∨ s.mode ≠ 6 then s
  else
    let w : Who := ⟨.peer fid role, 0, r.opId⟩
    let x := s.operate w r
    match x.1 with
    | none => x.2
    | some a => x.2.courierPut (.response fid a)

/-- A forwarded request leaves the list of those that wait. -/
def State.dropForwarded (s : State) (fid : Nat) : State :=
  { s with
    bop := { s.bop with forwarded := s.bop.forwarded.filter (fun e => e.1 ≠ fid) }
    twin := { s.twin with got := Tab.drop s.twin.got fid } }

/-- FORWARDED_RESPONSE: the host is answered with what the ACTIVE answered. -/
def State.forwardedResponse (s : State) (fid : Nat) (a : Rec) : State :=
  if s.courierOn = false then s
  else match s.bop.forwarded.find? (fun e => e.1 = fid) with
    | none => s
    | some e => (s.dropForwarded fid).giveAnswer e.2.1 e.2.2 { a with opId := e.2.2.opId }

/-- The answer to a forwarded request from its change item: the effective sample, with the slot or the resolved postmark
where the operation reports one. -/
def State.itemAnswer (s : State) (fid eff : Nat) (r : Rec) : Rec :=
  let c := s.disp.changes.find? (fun c => c.fid = fid)
  let slot := (c.bind (·.slot)).getD 0xFF
  let mark := (c.bind (·.mark)).getD eff
  if r.op = opWriteAt then okRec r r.typ (leBytes 8 mark ++ leBytes 8 eff)
  else if r.op = opSeal ∨ r.op = opRecall then okRec r 0 (leBytes 1 slot ++ leBytes 8 eff)
  else if r.op = opDrop then okRec r 0 []
  else okRec r r.typ (leBytes 8 eff)

/-- The new ACTIVE answers each forwarded request from the change item that it holds, and executes every other itself,
once (R496). -/
def State.answerForwarded (s : State) : State :=
  s.bop.forwarded.foldl (fun (k : State) e =>
    let got := Tab.get 0 k.twin.got e.1
    let q := k.dropForwarded e.1
    if got ≠ 0 then q.giveAnswer e.2.1 e.2.2 (k.itemAnswer e.1 (got - 1) e.2.2)
    else if q.sourceOn e.2.1.src = false then q
    else
      let x := q.operate e.2.1 e.2.2
      match x.1 with
      | none => x.2
      | some a => x.2.giveAnswer e.2.1 e.2.2 a) s

/-! ### Handover (R492 to R496) -/

/-- A long item has arrived whole. -/
def State.dropRef (s : State) (typ id : Nat) : State :=
  { s with twin := { s.twin with refs := s.twin.refs.filter (fun e => e ≠ (typ, id)) } }

/-- At a takeover a change item that has not arrived whole is withdrawn with reason 3 (R496). Its slot and its writes are not
known here (log entry 107). -/
def State.withdrawRefs (s : State) : State :=
  let l := s.twin.refs.filter (fun e => e.1 = 4)
  l.foldl (fun (k : State) _ => (k.inc El.dispWithdrawn).post nSceneWithdrawn (El.pendState 0) [0xFF, 0, 3])
    { s with twin := { s.twin with refs := [] } }

/-- A SHADOW that won the window becomes ACTIVE at H; its drivers follow under DRIVER_ENABLE. -/
def State.takeDrive (s : State) (k : Nat) : State :=
  let s1 := (((s.discardEnvelopes 2).setMode 6).setN El.twRole 4).ownReference
  let s2 : State := { s1 with twin := { s1.twin with recover := true, handAt := some (s.handSample k) } }
  ((s.followPsc s2 true).postTakeover 1 k).withdrawRefs.answerForwarded

/-- An engine that was driving and did not win releases its drivers at H and becomes SHADOW. -/
def State.yieldDrive (s : State) (k : Nat) : State :=
  let s1 : State := { s with twin := { s.twin with driving := false, handAt := some (s.handSample k) } }
  let s2 := ((s1.discardEnvelopes 2).setMode 7).setN El.twRole 3
  ((s.followPsc s2 false).postTakeover 0 k).followCourier

/-- HANDOVER: the sample H of the last claim window. -/
def State.handover (s : State) : State :=
  match s.twin.window with
  | none => s
  | some k =>
    if s.twin.handed ∨ s.twinned = false ∨ s.sampleNow < s.handSample k then s
    else
      let s1 : State := { s with twin := { s.twin with handed := true } }
      if s.twin.won ∧ s.mode = 7 then s1.takeDrive k
      else if s.twin.won = false ∧ s.mode = 6 ∧ s.twin.driving then s1.yieldDrive k
      else s1

/-! ### Sections (R479) -/

/-- The pending changes go to a partner that begins a resync, in the order of their acceptance (R498). -/
def State.passPending (s : State) : State :=
  let code (c : Change) : Int := match c.kind with
    | .write => 0
    | .writeAt => 1
    | .recall => 2
    | .envelope => 3
    | .activate => 4
  s.disp.changes.foldl (fun (k : State) c =>
    k.pass .spi c.id c.eff ([(headKind, Val.int (code c))] ++ (match c.scene with
      | none => []
      | some n => [(headScene, Val.int n)]) ++ markHeads c.mark c.flags ++ c.writes.map (fun x => (x.addr, x.val)))) s

/-- HEARTBEAT: beside a partner that now resyncs the ACTIVE begins step 1 of R498, in courier bulk, with its pending changes. -/
def State.heartbeatItem (s : State) (round role claim : Nat) : State :=
  let s1 := s.heartbeat round role claim
  if s.mode = 6 ∧ role = 2 ∧ s.twin.partnerRole ≠ 2 ∧ s1.twin.partnerRole = 2 then (s1.readySection 3 5 s1.roundIssued).passPending else s1

/-- One item of a courier section. -/
def State.courierItem (s : State) : CourierItem → State
  | .heartbeat round _ role _ _ claim => s.heartbeatItem round role claim
  | .digest k crc => s.takeDigest k crc
  | .asrc k g => s.takeAsrc k g
  | .change id eff fid w => (s.dropRef 4 id).changeItem eff fid w
  | .request fid role r => s.forwardedRequest fid role r
  | .response fid r => s.forwardedResponse fid r
  | .identity feature fw fmt fs b engine tg => s.identity feature fw fmt fs b engine tg
  | .bulkRef typ id _ => { s with twin := { s.twin with refs := (typ, id) :: s.twin.refs } }

/-- COURIER_SECTION: its items, in order; one with bits in a bad chunk is missing (R367). A refused link carries none (R376). -/
def State.courierSection (s : State) (bad : List Nat) (l : List CourierItem) : State :=
  if s.courierOn = false ∨ (s.link 3).blockLock = false ∨ s.nat (El.lkState 3) = 4 then s
  else ((received bad itemBytes 0 l).filterMap id).foldl (fun (k : State) x => k.courierItem x) (s.countBad 3 bad)

/-- COURIER_BULK_SECTION: bytes of a long item or of a state copy; a bad chunk leaves nothing of it (R367). -/
def State.courierBulk (s : State) (bad : List Nat) (data : List Byte) : State :=
  if s.courierOn = false ∨ (s.link 3).blockLock = false ∨ s.nat (El.lkState 3) = 4 then s
  else if bad ≠ [] then s.countBad 3 bad
  else { s with twin := { s.twin with bulk := s.twin.bulk ++ data } }

/-! ### Step 1 of a resync (R498) -/

/-- A twinned element takes the value that the ACTIVE holds. -/
def State.takeSetting (s : State) (a : Nat) (v : Val) : State :=
  if inSceneAreas a ∨ areaOf a = 0x1E ∨ areaOf a = 0x1F ∨ (areaOf a = 0x1C ∧ isDelayed a) then s.takeWrite ⟨a, v, 0, 0⟩ s.reported
  else if isDelayed a then (if v.toNat = 1 then (s.captureImage (objectOf a - 0x10)).takeImageNow (objectOf a - 0x10) else s)
  else s.applyUnit a v

/-- Whether a value of an element travels in step 1: what a host may write of it, images in effect included. -/
def travels (a : Nat) : Bool := isTwinned a && (accessOf a == .rw || accessOf a == .raw || (areaOf a == 0x1D && isDelayed a))

/-- RESYNC_SETTINGS_RECEIVED: the twinned elements, the scene library and the images of the ACTIVE stand here too, and step 2
begins. Pending changes come as change items. -/
def State.resyncSettings (s : State) (l : List (Nat × Val)) : State :=
  if s.mode ≠ 8 ∨ s.nat El.twRole ≠ 2 ∨ s.twin.resyncStep ≠ 1 then s
  else
    let s1 := (l.filter (fun e => travels e.1)).foldl (fun (k : State) e => (k.takeSetting e.1 e.2).noteSetting e.1) s
    ({ s1 with twin := { s1.twin with resyncStep := 2, bulk := [] } } : State).openProgress

end Sys2Proof.Machine
end

