-- ==== Sys2Proof/Machine/HostRows.lean ====
section
/-! DEFINITION. The commands of the host side: messages, records of R260, service SPI transactions, and timeouts. -/

namespace Sys2Proof.Machine


/-! ### Messages and records (R257 to R276) -/

/-- BOP_MESSAGE (R257). -/
def execBopMessage (t : Nat) (port host : Nat) (data : Udp) (s : State) : Host.Outcome State Fault Refusal :=
  .next ((s.advance t).bopMessage port host data)
/-- SESSION_OPEN (R266). -/
def execSessionOpen (t : Nat) (port slot nonce : Nat) (s : State) : Host.Outcome State Fault Refusal :=
  let s1 := s.advance t
  let r : Rec := ⟨opWrite, 5, 0, 0, 0, BitVec.ofNat 32 El.sessionOpen, leBytes 8 nonce⟩
  .next (if s1.hears port = false then s1
    else if s1.slotUsed slot then s1.openSession port 0 slot r
    else s1.bareAnswer ⟨4, slot, 0xFFFF, 0, 1, 20⟩ port 0 [refusal r .denied])
/-- READ (R260). -/
def execRead (t : Nat) (w : Who) (r : Rec) (s : State) : Host.Outcome State Fault Refusal :=
  .next ((s.advance t).record opRead w r)
/-- WRITE (R262). -/
def execWrite (t : Nat) (w : Who) (r : Rec) (s : State) : Host.Outcome State Fault Refusal :=
  .next ((s.advance t).record opWrite w r)
/-- WRITE_AT (R263). -/
def execWriteAt (t : Nat) (w : Who) (r : Rec) (s : State) : Host.Outcome State Fault Refusal :=
  .next ((s.advance t).record opWriteAt w r)
/-- SUBSCRIBE (R276). -/
def execSubscribe (t : Nat) (w : Who) (r : Rec) (s : State) : Host.Outcome State Fault Refusal :=
  .next ((s.advance t).record opSubscribe w r)
/-- ENVELOPE_OPEN (R154). -/
def execEnvelopeOpen (t : Nat) (w : Who) (r : Rec) (s : State) : Host.Outcome State Fault Refusal :=
  .next ((s.advance t).record opOpen w r)
/-- ENVELOPE_SEAL (R155). -/
def execEnvelopeSeal (t : Nat) (w : Who) (r : Rec) (s : State) : Host.Outcome State Fault Refusal :=
  .next ((s.advance t).record opSeal w r)
/-- ENVELOPE_DROP (R154). -/
def execEnvelopeDrop (t : Nat) (w : Who) (r : Rec) (s : State) : Host.Outcome State Fault Refusal :=
  .next ((s.advance t).record opDrop w r)
/-- RECALL (R153). -/
def execRecall (t : Nat) (w : Who) (r : Rec) (s : State) : Host.Outcome State Fault Refusal :=
  .next ((s.advance t).record opRecall w r)

/-! ### The service SPI (R255, R256) -/

/-- SPI_READ (R256). -/
def execSpiRead (t : Nat) (addr : Word) (typ len off : Nat) (s : State) : Host.Outcome State Fault Refusal :=
  .next ((s.advance t).spiRead addr.toNat typ len off)
/-- SPI_WRITE (R256). -/
def execSpiWrite (t : Nat) (addr : Word) (typ len off : Nat) (data : List Byte) (s : State) : Host.Outcome State Fault Refusal :=
  .next ((s.advance t).spiWrite addr.toNat typ len off data)

/-! ### Timeouts (R156, R264, R267) -/

/-- ENVELOPE_TIMEOUT (R156). -/
def execEnvelopeTimeout (t : Nat) (e : Nat) (s : State) : Host.Outcome State Fault Refusal :=
  .next ((s.advance t).envelopeTimeout e)
/-- ASSEMBLY_TIMEOUT (R264). -/
def execAssemblyTimeout (t : Nat) (src : Src) (s : State) : Host.Outcome State Fault Refusal :=
  .next ((s.advance t).assemblyTimeout src)
/-- SESSION_TIMEOUT (R267). -/
def execSessionTimeout (t : Nat) (n : Nat) (s : State) : Host.Outcome State Fault Refusal :=
  .next ((s.advance t).sessionTimeout n)

/-! ### Subscriptions and publications (R112, R276) -/

/-- SUBSCRIPTION_PERIOD (R276). -/
def execSubscriptionPeriod (t : Nat) (sub : Nat) (s : State) : Host.Outcome State Fault Refusal :=
  .next ((s.advance t).subPeriod sub)
/-- PUBLICATION (R112). -/
def execPublication (t : Nat) (l : Nat) (s : State) : Host.Outcome State Fault Refusal := .next ((s.advance t).publish l)

end Sys2Proof.Machine
end

