-- ==== Sys2Proof/Machine/ElementRows.lean ====
section
/-! DEFINITION. The commands that write one element: each is a WRITE record of its element, with every check that R275 makes of it. -/

namespace Sys2Proof.Machine


/-! ### Any element (R242) -/

/-- WRITE_ELEMENT (R242). -/
def execWriteElement (t : Nat) (w : Who) (addr : Word) (v : Val) (s : State) : Host.Outcome State Fault Refusal :=
  .next ((s.advance t).writeElem w addr.toNat v)

/-! ### The Sorting Office and strips -/

/-- SRC_SIGNAL (R75). -/
def execSrcSignal (t : Nat) (w : Who) (p : Nat) (sig : Word) (s : State) : Host.Outcome State Fault Refusal :=
  .next ((s.advance t).writeNat w (El.srcSignal p) sig.toNat)
/-- DST_TARGET (R81). -/
def execDstTarget (t : Nat) (w : Who) (d : Nat) (v : Word) (s : State) : Host.Outcome State Fault Refusal :=
  .next ((s.advance t).writeNat w (El.dstTarget d) v.toNat)
/-- DST_PASS (R76). -/
def execDstPass (t : Nat) (w : Who) (d v : Nat) (s : State) : Host.Outcome State Fault Refusal :=
  .next ((s.advance t).writeNat w (El.dstPass d) v)
/-- XP_GAIN (R85). -/
def execXpGain (t : Nat) (w : Who) (src d : Nat) (g : Word) (s : State) : Host.Outcome State Fault Refusal :=
  .next ((s.advance t).writeElem w (El.xpGain src d) (.int g.toInt))
/-- ST_PROGRAM (R137). -/
def execStProgram (t : Nat) (w : Who) (bus : Bool) (n v : Nat) (s : State) : Host.Outcome State Fault Refusal :=
  .next ((s.advance t).writeNat w (El.stProgram bus n) v)
/-- ST_OUT_PH (R130). -/
def execStOutPh (t : Nat) (w : Who) (bus : Bool) (n v : Nat) (s : State) : Host.Outcome State Fault Refusal :=
  .next ((s.advance t).writeNat w (El.stOutPh bus n) v)

/-! ### Meters and loudness -/

/-- LD_START (R111). -/
def execLdStart (t : Nat) (w : Who) (l : Nat) (s : State) : Host.Outcome State Fault Refusal :=
  .next ((s.advance t).writeNat w (El.ldRun l) 1)
/-- LD_STOP (R111). -/
def execLdStop (t : Nat) (w : Who) (l : Nat) (s : State) : Host.Outcome State Fault Refusal :=
  .next ((s.advance t).writeNat w (El.ldRun l) 0)
/-- LD_RESET (R111). -/
def execLdReset (t : Nat) (w : Who) (l : Nat) (s : State) : Host.Outcome State Fault Refusal :=
  .next ((s.advance t).writeNat w (El.ldRun l) 2)
/-- M_CLEAR (R109). -/
def execMClear (t : Nat) (w : Who) (p : Nat) (s : State) : Host.Outcome State Fault Refusal :=
  .next ((s.advance t).command w (El.mClear p))

/-! ### The Dispatcher, images and clusters -/

/-- SCENE_DATA (R152). -/
def execSceneData (t : Nat) (w : Who) (n : Nat) (k : Chunk) (s : State) : Host.Outcome State Fault Refusal :=
  .next ((s.advance t).writePart w (El.sceneData n) k)
/-- IMG_DATA (R235). -/
def execImgData (t : Nat) (w : Who) (c : Nat) (k : Chunk) (s : State) : Host.Outcome State Fault Refusal :=
  .next ((s.advance t).writePart w (El.imgData c) k)
/-- IMG_ACTIVATE (R236). -/
def execImgActivate (t : Nat) (w : Who) (c : Nat) (s : State) : Host.Outcome State Fault Refusal :=
  .next ((s.advance t).command w (El.imgActivate c))
/-- PEND_CANCEL (R146). -/
def execPendCancel (t : Nat) (w : Who) (i : Nat) (s : State) : Host.Outcome State Fault Refusal :=
  .next ((s.advance t).command w (El.pendCancel i))
/-- CORE_RETIRE (R198). -/
def execCoreRetire (t : Nat) (w : Who) (k : CoreId) (s : State) : Host.Outcome State Fault Refusal :=
  .next ((s.advance t).command w (El.coreRetire k.c k.j))
/-- CORE_RESTORE (R197). -/
def execCoreRestore (t : Nat) (w : Who) (k : CoreId) (s : State) : Host.Outcome State Fault Refusal :=
  .next ((s.advance t).command w (El.coreRestore k.c k.j))
/-- CL_AUDIT_ENABLE (R200). -/
def execClAuditEnable (t : Nat) (w : Who) (c v : Nat) (s : State) : Host.Outcome State Fault Refusal :=
  .next ((s.advance t).writeNat w (El.clAuditEnable c) v)
/-- CL_CLEAR (R200). -/
def execClClear (t : Nat) (w : Who) (c : Nat) (s : State) : Host.Outcome State Fault Refusal :=
  .next ((s.advance t).command w (El.clClear c))
/-- JOB_CLEAR (R239). -/
def execJobClear (t : Nat) (w : Who) (c j pos : Nat) (s : State) : Host.Outcome State Fault Refusal :=
  .next ((s.advance t).command w (El.jobClear c j pos))

/-! ### Counters and logs -/

/-- SCHED_CLEAR (R52). -/
def execSchedClear (t : Nat) (w : Who) (s : State) : Host.Outcome State Fault Refusal :=
  .next ((s.advance t).command w El.schedClear)
/-- SO_CLEAR (R116). -/
def execSoClear (t : Nat) (w : Who) (s : State) : Host.Outcome State Fault Refusal := .next ((s.advance t).command w El.soClear)
/-- DISP_CLEAR (R158). -/
def execDispClear (t : Nat) (w : Who) (s : State) : Host.Outcome State Fault Refusal :=
  .next ((s.advance t).command w El.dispClear)
/-- LOG_CLEAR (R251). -/
def execLogClear (t : Nat) (w : Who) (s : State) : Host.Outcome State Fault Refusal :=
  .next ((s.advance t).command w El.logClear)
/-- BOP_CLEAR (R286). -/
def execBopClear (t : Nat) (w : Who) (s : State) : Host.Outcome State Fault Refusal :=
  .next ((s.advance t).command w El.bopClear)
/-- DISAGREE_CLEAR (R247). -/
def execDisagreeClear (t : Nat) (w : Who) (s : State) : Host.Outcome State Fault Refusal :=
  .next ((s.advance t).command w El.disagreeClear)

/-! ### Sessions and keys -/

/-- SESSION_CLOSE (R267). -/
def execSessionClose (t : Nat) (w : Who) (s : State) : Host.Outcome State Fault Refusal :=
  .next ((s.advance t).command w El.sessionClose)
/-- KEY_VALUE (R265). -/
def execKeyValue (t : Nat) (w : Who) (slot : Nat) (k : Chunk) (s : State) : Host.Outcome State Fault Refusal :=
  .next ((s.advance t).writePart w (El.keyValue slot) k)
/-- KEY_ROLE (R265). -/
def execKeyRole (t : Nat) (w : Who) (slot v : Nat) (s : State) : Host.Outcome State Fault Refusal :=
  .next ((s.advance t).writeNat w (El.keyRole slot) v)

/-! ### Serial ports, rings and rate conversion -/

/-- SP_ENABLE (R297). -/
def execSpEnable (t : Nat) (w : Who) (p v : Nat) (s : State) : Host.Outcome State Fault Refusal :=
  .next ((s.advance t).writeNat w (El.spEnable p) v)
/-- SHADOW_WRITE (R303). -/
def execShadowWrite (t : Nat) (w : Who) (p : Nat) (e : Fin 4) (v : Word) (s : State) : Host.Outcome State Fault Refusal :=
  let a := match e with
    | 0 => El.spRxMask p
    | 1 => El.spTxMask p
    | 2 => El.spRxOn p
    | 3 => El.spTxOn p
  .next ((s.advance t).writeNat w a v.toNat)
/-- SP_APPLY_AT (R304). -/
def execSpApplyAt (t : Nat) (w : Who) (p a : Nat) (s : State) : Host.Outcome State Fault Refusal :=
  .next ((s.advance t).writeNat w (El.spApplyAt p) a)
/-- SP_CLEAR (R319). -/
def execSpClear (t : Nat) (w : Who) (p : Nat) (s : State) : Host.Outcome State Fault Refusal :=
  .next ((s.advance t).command w (El.spClear p))
/-- SAP_START_ARM (R307). -/
def execSapStartArm (t : Nat) (w : Who) (s : State) : Host.Outcome State Fault Refusal :=
  .next ((s.advance t).writeNat w El.sapStartArm 1)
/-- SAP_START_DISARM (R320). -/
def execSapStartDisarm (t : Nat) (w : Who) (s : State) : Host.Outcome State Fault Refusal :=
  .next ((s.advance t).writeNat w El.sapStartArm 0)
/-- RING_STOP (R321). -/
def execRingStop (t : Nat) (w : Who) (r : Nat) (s : State) : Host.Outcome State Fault Refusal :=
  .next ((s.advance t).writeNat w (El.ringRun r) 0)
/-- RING_START (R321). -/
def execRingStart (t : Nat) (w : Who) (r : Nat) (s : State) : Host.Outcome State Fault Refusal :=
  .next ((s.advance t).writeNat w (El.ringRun r) 1)
/-- RING_START_WITH_TRIGGER (R321). -/
def execRingStartWithTrigger (t : Nat) (w : Who) (r : Nat) (s : State) : Host.Outcome State Fault Refusal :=
  .next ((s.advance t).writeNat w (El.ringRun r) 2)
/-- AG_SOURCE (R324). -/
def execAgSource (t : Nat) (w : Who) (g : Nat) (bandwidth : Bool) (v : Nat) (s : State) : Host.Outcome State Fault Refusal :=
  .next ((s.advance t).writeNat w (if bandwidth then El.agBandwidth g else El.agSource g) v)
/-- AG_CLEAR (R323). -/
def execAgClear (t : Nat) (w : Who) (g : Nat) (s : State) : Host.Outcome State Fault Refusal :=
  .next ((s.advance t).command w (El.agClear g))

/-! ### Network ports and streams -/

/-- RX_ENABLE (R346). -/
def execRxEnable (t : Nat) (w : Who) (i v : Nat) (s : State) : Host.Outcome State Fault Refusal :=
  .next ((s.advance t).writeNat w (El.rxEnable i) v)
/-- TX_ENABLE (R346). -/
def execTxEnable (t : Nat) (w : Who) (i v : Nat) (s : State) : Host.Outcome State Fault Refusal :=
  .next ((s.advance t).writeNat w (El.txEnable i) v)
/-- RX_CLEAR (R361). -/
def execRxClear (t : Nat) (w : Who) (i : Nat) (s : State) : Host.Outcome State Fault Refusal :=
  .next ((s.advance t).command w (El.rxClear i))
/-- TX_CLEAR (R362). -/
def execTxClear (t : Nat) (w : Who) (i : Nat) (s : State) : Host.Outcome State Fault Refusal :=
  .next ((s.advance t).command w (El.txClear i))
/-- PORT_CLEAR (R358). -/
def execPortClear (t : Nat) (w : Who) (p : Nat) (s : State) : Host.Outcome State Fault Refusal :=
  .next ((s.advance t).command w (El.portClear p))
/-- TXR_THRESHOLD_RESET (R360). -/
def execTxrThresholdReset (t : Nat) (w : Who) (p r : Nat) (s : State) : Host.Outcome State Fault Refusal :=
  .next ((s.advance t).command w (El.txrThresholdReset p r))

/-! ### Coach links, time and references -/

/-- CL_CLEAR_LINK (R392). -/
def execClClearLink (t : Nat) (w : Who) (l : Nat) (s : State) : Host.Outcome State Fault Refusal :=
  .next ((s.advance t).command w (El.lkClear l))
/-- TIME_SET (R397). -/
def execTimeSet (t : Nat) (w : Who) (v : Nat) (s : State) : Host.Outcome State Fault Refusal :=
  .next ((s.advance t).writeNat w El.timeSet v)
/-- PTP_PROFILE (R398). -/
def execPtpProfile (t : Nat) (w : Who) (v : Nat) (s : State) : Host.Outcome State Fault Refusal :=
  .next ((s.advance t).writeNat w El.ptpProfile v)
/-- REF_PRIO_WRITE (R410). -/
def execRefPrioWrite (t : Nat) (w : Who) (i v : Nat) (s : State) : Host.Outcome State Fault Refusal :=
  .next ((s.advance t).writeNat w (El.refPrio i) v)

/-! ### Memory -/

/-- DRAM_ENGINE_SEGS (R469). -/
def execDramEngineSegs (t : Nat) (w : Who) (v : Nat) (s : State) : Host.Outcome State Fault Refusal :=
  .next ((s.advance t).writeNat w El.dramEngineSegs v)
/-- DRAM_CLEAR (R469). -/
def execDramClear (t : Nat) (w : Who) (s : State) : Host.Outcome State Fault Refusal :=
  .next ((s.advance t).command w El.dramClear)
/-- DRAM_WIN_DATA (R472). -/
def execDramWinData (t : Nat) (w : Who) (wr : Bool) (off len : Nat) (k : Chunk) (s : State) : Host.Outcome State Fault Refusal :=
  let s1 := s.advance t
  .next (if wr then s1.writePart w El.dramWinData k
    else s1.record opRead w ⟨opRead, 14, w.opId, 0, 0, BitVec.ofNat 32 El.dramWinData, leBytes 4 off ++ leBytes 2 len⟩)
/-- SRAM_CLEAR (R473). -/
def execSramClear (t : Nat) (w : Who) (s : State) : Host.Outcome State Fault Refusal :=
  .next ((s.advance t).command w El.sramClear)

/-! ### Power, twin and power stages -/

/-- TH_CLEAR (R563). -/
def execThClear (t : Nat) (w : Who) (s : State) : Host.Outcome State Fault Refusal := .next ((s.advance t).command w El.thClear)
/-- PD_ON (R535). -/
def execPdOn (t : Nat) (w : Who) (i v : Nat) (s : State) : Host.Outcome State Fault Refusal :=
  .next ((s.advance t).writeNat w (El.pdOn i) v)
/-- TW_RANK (R497). -/
def execTwRank (t : Nat) (w : Who) (v : Nat) (s : State) : Host.Outcome State Fault Refusal :=
  .next ((s.advance t).writeNat w El.twRank v)
/-- TW_RESYNC (R500). -/
def execTwResync (t : Nat) (w : Who) (s : State) : Host.Outcome State Fault Refusal :=
  .next ((s.advance t).command w El.twResync)
/-- TW_CLEAR (R501). -/
def execTwClear (t : Nat) (w : Who) (s : State) : Host.Outcome State Fault Refusal := .next ((s.advance t).command w El.twClear)
/-- PSC_ON (R521). -/
def execPscOn (t : Nat) (w : Who) (n v : Nat) (s : State) : Host.Outcome State Fault Refusal :=
  .next ((s.advance t).writeNat w (El.pscOn n) v)
/-- PSC_TEST (R517). -/
def execPscTest (t : Nat) (w : Who) (n : Nat) (s : State) : Host.Outcome State Fault Refusal :=
  .next ((s.advance t).command w (El.pscTest n))
/-- PSC_UNLATCH (R521). -/
def execPscUnlatch (t : Nat) (w : Who) (n : Nat) (s : State) : Host.Outcome State Fault Refusal :=
  .next ((s.advance t).command w (El.pscUnlatch n))
/-- PSC_CLEAR (R529). -/
def execPscClear (t : Nat) (w : Who) (n : Nat) (s : State) : Host.Outcome State Fault Refusal :=
  .next ((s.advance t).command w (El.pscClear n))

/-! ### Modes, settings, update and security -/

/-- REQUEST_DORMANT (R540). -/
def execRequestDormant (t : Nat) (w : Who) (s : State) : Host.Outcome State Fault Refusal :=
  .next ((s.advance t).writeNat w El.modeRequest 1)
/-- REQUEST_CONFIGURE (R533). -/
def execRequestConfigure (t : Nat) (w : Who) (s : State) : Host.Outcome State Fault Refusal :=
  .next ((s.advance t).writeNat w El.modeRequest 4)
/-- REQUEST_RUN (R533). -/
def execRequestRun (t : Nat) (w : Who) (s : State) : Host.Outcome State Fault Refusal :=
  .next ((s.advance t).writeNat w El.modeRequest 5)
/-- REQUEST_SERVICE (R533). -/
def execRequestService (t : Nat) (w : Who) (s : State) : Host.Outcome State Fault Refusal :=
  .next ((s.advance t).writeNat w El.modeRequest 10)
/-- RESET_REQUEST (R536). -/
def execResetRequest (t : Nat) (w : Who) (s : State) : Host.Outcome State Fault Refusal :=
  .next ((s.advance t).command w El.resetRequest)
/-- SETTINGS_SAVE (R544). -/
def execSettingsSave (t : Nat) (w : Who) (s : State) : Host.Outcome State Fault Refusal :=
  .next ((s.advance t).command w El.settingsSave)
/-- SETTINGS_FACTORY (R545). -/
def execSettingsFactory (t : Nat) (w : Who) (s : State) : Host.Outcome State Fault Refusal :=
  .next ((s.advance t).command w El.settingsFactory)
/-- UPD_DATA (R552). -/
def execUpdData (t : Nat) (w : Who) (k : Chunk) (s : State) : Host.Outcome State Fault Refusal :=
  .next ((s.advance t).writePart w El.updData k)
/-- UPD_VERIFY (R552). -/
def execUpdVerify (t : Nat) (w : Who) (s : State) : Host.Outcome State Fault Refusal :=
  .next ((s.advance t).command w El.updVerify)
/-- UPD_ACTIVATE (R553). -/
def execUpdActivate (t : Nat) (w : Who) (s : State) : Host.Outcome State Fault Refusal :=
  .next ((s.advance t).command w El.updActivate)
/-- UPD_CONFIRM (R555). -/
def execUpdConfirm (t : Nat) (w : Who) (s : State) : Host.Outcome State Fault Refusal :=
  .next ((s.advance t).command w El.updConfirm)
/-- UPD_ABORT (R551). -/
def execUpdAbort (t : Nat) (w : Who) (s : State) : Host.Outcome State Fault Refusal :=
  .next ((s.advance t).command w El.updAbort)
/-- SEC_OWNER_HASH (R558). -/
def execSecOwnerHash (t : Nat) (w : Who) (k : Chunk) (s : State) : Host.Outcome State Fault Refusal :=
  .next ((s.advance t).writePart w El.secOwnerHash k)
/-- SEC_OWNER_REQ (R558). -/
def execSecOwnerReq (t : Nat) (w : Who) (s : State) : Host.Outcome State Fault Refusal :=
  .next ((s.advance t).command w El.secOwnerReq)
/-- SEC_DEBUG_OFF (R558). -/
def execSecDebugOff (t : Nat) (w : Who) (s : State) : Host.Outcome State Fault Refusal :=
  .next ((s.advance t).command w El.secDebugOff)

end Sys2Proof.Machine
end

