-- ==== Sys2Proof/Machine/RoundRows.lean ====
section
/-! DEFINITION. The commands of rounds, jobs, changes, images, audits and power domains. -/

namespace Sys2Proof.Machine


/-! ### Rounds (R42 to R68) -/

/-- ROUND_PULSE (R43). -/
def execRoundPulse (t : Nat) (s : State) : Host.Outcome State Fault Refusal := .next ((s.advance t).roundPulse)
/-- ROUND_START (R44). -/
def execRoundStart (t : Nat) (s : State) : Host.Outcome State Fault Refusal := .next ((s.advance t).roundStart)
/-- PHASE_COMPLETE (R44). -/
def execPhaseComplete (t : Nat) (ph : Nat) (s : State) : Host.Outcome State Fault Refusal :=
  .next ((s.advance t).phaseComplete ph)

/-! ### Jobs and DMA (R179 to R181) -/

/-- JOB_START (R179). -/
def execJobStart (t : Nat) (c j pos : Nat) (s : State) : Host.Outcome State Fault Refusal :=
  .next ((s.advance t).startJob c j pos)
/-- TRAY_INPUT_WRITE (R179). -/
def execTrayInputWrite (t : Nat) (c j pos : Nat) (s : State) : Host.Outcome State Fault Refusal :=
  .next ((s.advance t).writeInputs c j pos)
/-- TRAY_OUTPUT_READ (R179). -/
def execTrayOutputRead (t : Nat) (c j pos : Nat) (s : State) : Host.Outcome State Fault Refusal :=
  .next ((s.advance t).readOutputs c j pos)
/-- DMA_TRANSFER (R180). -/
def execDmaTransfer (t : Nat) (k : CoreId) (ch : Nat) (x : DmaXfer) (s : State) : Host.Outcome State Fault Refusal :=
  .next ((s.advance t).issueDma k.c k.j ch x)
/-- DMA_COMPLETE (R181). -/
def execDmaComplete (t : Nat) (c ch : Nat) (s : State) : Host.Outcome State Fault Refusal :=
  .next ((s.advance t).completeDma c ch)

/-! ### MIX (R93 to R98) -/

/-- SOURCE_ADD (R97). -/
def execSourceAdd (t : Nat) (passB : Bool) (p : Nat) (s : State) : Host.Outcome State Fault Refusal :=
  .next ((s.advance t).addSource passB p)
/-- PASS_COMPLETE (R98). -/
def execPassComplete (t : Nat) (passB : Bool) (s : State) : Host.Outcome State Fault Refusal :=
  .next ((s.advance t).passComplete passB)
/-- RAMP_END (R93). -/
def execRampEnd (t : Nat) (src d : Nat) (s : State) : Host.Outcome State Fault Refusal := .next ((s.advance t).rampEnd src d)
/-- STRIP_RAMP_END (R134). -/
def execStripRampEnd (t : Nat) (bus : Bool) (n e : Nat) (s : State) : Host.Outcome State Fault Refusal :=
  .next ((s.advance t).stripRampDone bus n e)
/-- MORPH_END (R135). -/
def execMorphEnd (t : Nat) (bus : Bool) (n : Nat) (st : Stage) (s : State) : Host.Outcome State Fault Refusal :=
  .next ((s.advance t).morphDone bus n st)

/-! ### Playing (R57, R65) -/

/-- OUTPUT_PLAY (R57). -/
def execOutputPlay (t : Nat) (o : Output) (j : Play) (s : State) : Host.Outcome State Fault Refusal :=
  .next ((s.advance t).outputPlay o j.pos j.sense)
/-- REANCHOR (R65). -/
def execReanchor (t : Nat) (s : State) : Host.Outcome State Fault Refusal := .next ((s.advance t).reanchor)

/-! ### Changes (R144 to R148) -/

/-- PENDING_ARM (R145). -/
def execPendingArm (t : Nat) (id : Nat) (s : State) : Host.Outcome State Fault Refusal := .next ((s.advance t).pendingArm id)
/-- COMMIT_POINT (R148). -/
def execCommitPoint (t : Nat) (id : Nat) (s : State) : Host.Outcome State Fault Refusal := .next ((s.advance t).commitPoint id)
/-- CHANGE_APPLY (R144). -/
def execChangeApply (t : Nat) (id : Nat) (s : State) : Host.Outcome State Fault Refusal :=
  let s1 := s.advance t
  let s2 := s1.changeApply id
  .next (match s1.change id with
    | none => s2
    | some c => if (s2.change id).isSome then s2 else c.writes.foldl (fun (k : State) x => k.noteSetting x.addr) s2)
/-- BACKUP_SWITCH (R132). -/
def execBackupSwitch (t : Nat) (n : Nat) (s : State) : Host.Outcome State Fault Refusal := .next ((s.advance t).backupSwitch n)

/-! ### Images and audits (R190 to R198, R237) -/

/-- IMAGE_TAKE_EFFECT (R237). -/
def execImageTakeEffect (t : Nat) (c : Nat) (s : State) : Host.Outcome State Fault Refusal :=
  .next ((s.advance t).imageEffect c)
/-- IMAGE_LOAD_DONE (R237). -/
def execImageLoadDone (t : Nat) (c : Nat) (s : State) : Host.Outcome State Fault Refusal := .next ((s.advance t).imageLoaded c)
/-- AUDIT_MIRROR (R192). -/
def execAuditMirror (t : Nat) (c : Nat) (s : State) : Host.Outcome State Fault Refusal := .next ((s.advance t).beginMirror c)
/-- AUDIT_ROUND (R192). -/
def execAuditRound (t : Nat) (c : Nat) (dmaBytes : Nat) (differs : Option Nat) (s : State) : Host.Outcome State Fault Refusal :=
  .next ((s.advance t).endAudit c dmaBytes differs)
/-- RELIEF_TAKEOVER (R195). -/
def execReliefTakeover (t : Nat) (c : Nat) (s : State) : Host.Outcome State Fault Refusal :=
  .next ((s.advance t).takeOverCore c)
/-- RELIEF_SELF_TEST (R194). -/
def execReliefSelfTest (t : Nat) (c : Nat) (ok : Bool) (s : State) : Host.Outcome State Fault Refusal :=
  .next ((s.advance t).selfTest c ok)

/-! ### Power domains (R34, R601) -/

/-- DOMAIN_POWER_UP (R601). -/
def execDomainPowerUp (t : Nat) (i : Nat) (s : State) : Host.Outcome State Fault Refusal := .next ((s.advance t).powerUp i)
/-- DOMAIN_POWER_DOWN (R34). -/
def execDomainPowerDown (t : Nat) (i : Nat) (s : State) : Host.Outcome State Fault Refusal := .next ((s.advance t).powerDown i)

end Sys2Proof.Machine
end

