-- ==== Sys2Proof/Machine/PortRows.lean ====
section
/-! DEFINITION. The commands of serial ports, rate converters, network ports and streams. -/

namespace Sys2Proof.Machine


/-! ### Serial ports (R299 to R316) -/

/-- SAP_FRAME_IN (R301). -/
def execSapFrameIn (t : Nat) (p : Nat) (f : SapFrame) (s : State) : Host.Outcome State Fault Refusal :=
  .next ((s.advance t).frameIn p f)
/-- SAP_MISSING_FRAME (R299). -/
def execSapMissingFrame (t : Nat) (p : Nat) (s : State) : Host.Outcome State Fault Refusal :=
  .next ((s.advance t).frameMissing p)
/-- SAP_FRAME_OUT (R302). -/
def execSapFrameOut (t : Nat) (p : Nat) (s : State) : Host.Outcome State Fault Refusal := .next ((s.advance t).frameOut p)
/-- GATE_TIMEOUT (R306). -/
def execGateTimeout (t : Nat) (p : Nat) (out : Bool) (slot : Nat) (s : State) : Host.Outcome State Fault Refusal :=
  .next ((s.advance t).gateTimeout p out slot)
/-- START_IN_EDGE (R308). -/
def execStartInEdge (e : Pulse) (s : State) : Host.Outcome State Fault Refusal := .next ((s.advance e.time).startEdge e.width)
/-- START_TRIGGER_FIRE (R308). -/
def execStartTriggerFire (t : Nat) (s : State) : Host.Outcome State Fault Refusal := .next ((s.advance t).fireTrigger)
/-- ASRC_GROUP_LOCK (R316). -/
def execAsrcGroupLock (t : Nat) (g : Nat) (rate : Nat) (s : State) : Host.Outcome State Fault Refusal :=
  .next ((s.advance t).asrcLock g rate)

/-! ### Network ports and streams (R327 to R358) -/

/-- FRAME_RECEIVE (R333). -/
def execFrameReceive (t : Nat) (p : Nat) (f : Frame) (s : State) : Host.Outcome State Fault Refusal :=
  .next ((s.advance t).frameReceive p f)
/-- STREAM_PACKET_RECEIVE (R349). -/
def execStreamPacketReceive (t : Nat) (leg i : Nat) (k : Packet) (s : State) : Host.Outcome State Fault Refusal :=
  .next ((s.advance t).packetReceive leg i k)
/-- ARP_ND_ICMP (R341). -/
def execArpNdIcmp (t : Nat) (p : Nat) (q : Neighbour) (s : State) : Host.Outcome State Fault Refusal :=
  .next ((s.advance t).neighbourAsk p q)
/-- FRAME_TRANSMIT (R334). -/
def execFrameTransmit (t : Nat) (p : Nat) (underrun : Bool) (s : State) : Host.Outcome State Fault Refusal :=
  .next ((s.advance t).frameTransmit p underrun)
/-- STREAM_PACKET_SEND (R354). -/
def execStreamPacketSend (t : Nat) (i n : Nat) (s : State) : Host.Outcome State Fault Refusal :=
  .next ((s.advance t).packetSend i n)
/-- ADDRESS_AGING (R329). -/
def execAddressAging (t : Nat) (mac : Nat) (s : State) : Host.Outcome State Fault Refusal :=
  .next ((s.advance t).ageAddress mac)
/-- PORT_M_SLOW_DOWN (R336). -/
def execPortMSlowDown (t : Nat) (s : State) : Host.Outcome State Fault Refusal := .next ((s.advance t).slowDown)
/-- PORT_M_RESTORE (R336). -/
def execPortMRestore (t : Nat) (s : State) : Host.Outcome State Fault Refusal := .next ((s.advance t).restoreM)
/-- PHY_LINK_CHANGE (R327). -/
def execPhyLinkChange (t phy : Nat) (link : Option Nat) (s : State) : Host.Outcome State Fault Refusal :=
  .next ((s.advance t).phyChange phy link)
/-- NET_PORT_LINK_CHANGE (R358). -/
def execNetPortLinkChange (t : Nat) (p : Nat) (up : Bool) (s : State) : Host.Outcome State Fault Refusal :=
  .next ((s.advance t).linkChange p up)

end Sys2Proof.Machine
end

