-- ==== Sys2Proof/Machine/TimeRows.lean ====
section
/-! DEFINITION. The commands of PTP, references, the DPLL, clocks and voltage. -/

namespace Sys2Proof.Machine


/-! ### PTP (R399 to R405) -/

/-- SYNC (R405). -/
def execSync (t : Nat) (p : Nat) (h : PtpHead) (origin : Nat) (twoStep : Bool) (s : State) : Host.Outcome State Fault Refusal :=
  .next ((s.advance t).sync p h origin twoStep)
/-- FOLLOW_UP (R402). -/
def execFollowUp (t : Nat) (p : Nat) (h : PtpHead) (origin : Nat) (s : State) : Host.Outcome State Fault Refusal :=
  .next ((s.advance t).followUp p h origin)
/-- ANNOUNCE (R405). -/
def execAnnounce (t : Nat) (p : Nat) (m : PtpAnnounce) (s : State) : Host.Outcome State Fault Refusal :=
  .next ((s.advance t).announce p m.head m.master)
/-- DELAY_REQ (R402). -/
def execDelayReq (t : Nat) (p : Nat) (h : PtpHead) (s : State) : Host.Outcome State Fault Refusal :=
  .next ((s.advance t).delayReq p h)
/-- DELAY_RESP (R402). -/
def execDelayResp (t : Nat) (p : Nat) (m : PtpDelay) (s : State) : Host.Outcome State Fault Refusal :=
  .next ((s.advance t).delayResp p m.head m.req m.stamp)
/-- PDELAY_REQ (R402). -/
def execPdelayReq (t : Nat) (p : Nat) (h : PtpHead) (s : State) : Host.Outcome State Fault Refusal :=
  .next ((s.advance t).pdelayReq p h)
/-- PDELAY_RESP (R402). -/
def execPdelayResp (t : Nat) (p : Nat) (m : PtpPdelay) (s : State) : Host.Outcome State Fault Refusal :=
  .next ((s.advance t).pdelayResp p m)
/-- PTP_MESSAGE_SEND (R402). -/
def execPtpMessageSend (t : Nat) (p : Nat) (m : PtpSend) (s : State) : Host.Outcome State Fault Refusal :=
  .next ((s.advance t).ptpSend p m)
/-- ANNOUNCE_TIMEOUT (R405). -/
def execAnnounceTimeout (t : Nat) (p : Nat) (s : State) : Host.Outcome State Fault Refusal :=
  .next ((s.advance t).announceTimeout p)
/-- SYNC_TIMEOUT (R405). -/
def execSyncTimeout (t : Nat) (p : Nat) (s : State) : Host.Outcome State Fault Refusal := .next ((s.advance t).syncTimeout p)

/-! ### References and the DPLL (R407 to R414) -/

/-- REF_EDGE (R407). -/
def execRefEdge (t : Nat) (e : RefTick) (s : State) : Host.Outcome State Fault Refusal :=
  .next ((s.advance t).refEdge e.code e.falling)
/-- REF_MISSING_PERIOD (R408). -/
def execRefMissingPeriod (t : Nat) (code : Nat) (s : State) : Host.Outcome State Fault Refusal :=
  .next ((s.advance t).refMissing code)
/-- REF_MEASURE_WINDOW (R408). -/
def execRefMeasureWindow (t : Nat) (code : Nat) (err : Int) (s : State) : Host.Outcome State Fault Refusal :=
  .next ((s.advance t).refWindow code err)
/-- CLASS_Q_QUALIFY (R409). -/
def execClassQQualify (t : Nat) (code : Nat) (s : State) : Host.Outcome State Fault Refusal :=
  .next ((s.advance t).classQQualify code)
/-- REF_REVERT (R410). -/
def execRefRevert (t : Nat) (i : Nat) (s : State) : Host.Outcome State Fault Refusal := .next ((s.advance t).refRevert i)
/-- DPLL_LOCK (R412). -/
def execDpllLock (t : Nat) (s : State) : Host.Outcome State Fault Refusal := .next ((s.advance t).dpllLock)
/-- PULSE_OUTPUT_EDGE (R414). -/
def execPulseOutputEdge (t : Nat) (o : Nat) (high : Bool) (s : State) : Host.Outcome State Fault Refusal :=
  .next ((s.advance t).pulseEdge o high)

/-! ### Clocks (R416 to R422) -/

/-- CLOCK_FAILURE (R418). -/
def execClockFailure (t : Nat) (k : ClockSource) (s : State) : Host.Outcome State Fault Refusal :=
  .next ((s.advance t).clockFailure k)
/-- CLOCK_RETURN (R421). -/
def execClockReturn (t : Nat) (k : ClockSource) (s : State) : Host.Outcome State Fault Refusal :=
  .next ((s.advance t).clockReturn k)
/-- REFERENCE_WAIT_EXPIRY (R421). -/
def execReferenceWaitExpiry (t : Nat) (s : State) : Host.Outcome State Fault Refusal := .next ((s.advance t).referenceExpiry)
/-- XO_JUDGEMENT (R416). -/
def execXoJudgement (t : Nat) (good : Bool) (s : State) : Host.Outcome State Fault Refusal := .next ((s.advance t).judgeXo good)
/-- AUDREF_JUDGEMENT (R416). -/
def execAudrefJudgement (t : Nat) (good : Bool) (s : State) : Host.Outcome State Fault Refusal :=
  .next ((s.advance t).judgeAudref good)
/-- PLL_LOCK (R417). -/
def execPllLock (t : Nat) (k : ClockSource) (s : State) : Host.Outcome State Fault Refusal := .next ((s.advance t).pllLock k)
/-- SGMII_CLOCK_FAILURE (R418). -/
def execSgmiiClockFailure (t : Nat) (s : State) : Host.Outcome State Fault Refusal := .next ((s.advance t).sgmiiFailure)

/-! ### Voltage (R424 to R426) -/

/-- DVFS_RAISE (R425). -/
def execDvfsRaise (t : Nat) (ack : Bool) (s : State) : Host.Outcome State Fault Refusal := .next ((s.advance t).dvfsRaise ack)
/-- DVFS_LOWER (R425). -/
def execDvfsLower (t : Nat) (ack : Bool) (s : State) : Host.Outcome State Fault Refusal := .next ((s.advance t).dvfsLower ack)
/-- DVFS_SETTLE (R426). -/
def execDvfsSettle (t : Nat) (s : State) : Host.Outcome State Fault Refusal := .next ((s.advance t).dvfsSettle)

end Sys2Proof.Machine
end

