-- ==== Sys2Proof/Machine/LinkRows.lean ====
section
/-! DEFINITION. The commands of coach links and of twin operation. -/

namespace Sys2Proof.Machine


/-! ### Coach links (R364 to R389) -/

/-- BLOCK_LOCK (R364). -/
def execBlockLock (t : Nat) (l : Nat) (locked : Bool) (s : State) : Host.Outcome State Fault Refusal :=
  .next ((s.advance t).setBlockLock l locked).linkJudged
/-- TIME_SECTION (R371). -/
def execTimeSection (t : Nat) (l : Nat) (x : TimeSection) (s : State) : Host.Outcome State Fault Refusal :=
  .next ((s.advance t).hearTime l x)
/-- TIME_SECTION_TIMEOUT (R374). -/
def execTimeSectionTimeout (t : Nat) (l : Nat) (s : State) : Host.Outcome State Fault Refusal :=
  .next ((s.advance t).sectionTimeout l).linkJudged
/-- COURIER_SECTION (R479). -/
def execCourierSection (t : Nat) (x : CourierSection) (s : State) : Host.Outcome State Fault Refusal :=
  .next ((s.advance t).courierSection x.bad x.items)
/-- SUMS_SECTION (R382). -/
def execSumsSection (t : Nat) (l r : Nat) (bad : List Nat) (sums : List (Nat × List Int)) (s : State) : Host.Outcome State Fault Refusal :=
  .next ((s.advance t).sumsSection l r bad sums)
/-- CHANNELS_SECTION (R378). -/
def execChannelsSection (t : Nat) (l r first : Nat) (bad : List Nat) (chans : List (List Int)) (s : State) : Host.Outcome State Fault Refusal :=
  .next ((s.advance t).channelsSection l r first bad chans)
/-- TUNNEL_SECTION (R389). -/
def execTunnelSection (t : Nat) (l : Nat) (bad : List Nat) (msgs : List (List Byte)) (s : State) : Host.Outcome State Fault Refusal :=
  .next ((s.advance t).tunnelSection l bad msgs)
/-- COURIER_BULK_SECTION (R479). -/
def execCourierBulkSection (t : Nat) (bad : List Nat) (data : List Byte) (s : State) : Host.Outcome State Fault Refusal :=
  .next ((s.advance t).courierBulk bad data)
/-- SECTION_SEND (R369). -/
def execSectionSend (t : Nat) (l : Nat) (s : State) : Host.Outcome State Fault Refusal := .next ((s.advance t).sendSection l)
/-- SUM_WAIT_EXPIRY (R383). -/
def execSumWaitExpiry (t : Nat) (b : Nat) (s : State) : Host.Outcome State Fault Refusal :=
  let s1 := s.advance t
  let s2 := s1.sumExpiry b
  .next (if s2.mix.sumGone = s1.mix.sumGone then s2 else s2.notePenalty 0)

/-! ### The courier (R476 to R482) -/

/-- HEARTBEAT (R479). -/
def execHeartbeat (t : Nat) (round played role health ref claim : Nat) (s : State) : Host.Outcome State Fault Refusal :=
  .next ((s.advance t).heartbeatItem round role claim)
/-- DIGEST (R482). -/
def execDigest (t : Nat) (round crc : Nat) (s : State) : Host.Outcome State Fault Refusal :=
  .next ((s.advance t).takeDigest round crc)
/-- ASRC_POSITIONS (R318). -/
def execAsrcPositions (t : Nat) (round : Nat) (groups : List (Nat × Nat × Nat)) (s : State) : Host.Outcome State Fault Refusal :=
  .next ((s.advance t).takeAsrc round groups)
/-- CHANGE (R479). -/
def execChange (t : Nat) (id eff fid : Nat) (writes : List (Nat × Val)) (s : State) : Host.Outcome State Fault Refusal :=
  .next ((s.advance t).changeItem eff fid writes)
/-- FORWARDED_REQUEST (R477). -/
def execForwardedRequest (t : Nat) (fid role : Nat) (r : Rec) (s : State) : Host.Outcome State Fault Refusal :=
  .next ((s.advance t).forwardedRequest fid role r)
/-- FORWARDED_RESPONSE (R477). -/
def execForwardedResponse (t : Nat) (fid : Nat) (r : Rec) (s : State) : Host.Outcome State Fault Refusal :=
  .next ((s.advance t).forwardedResponse fid r)
/-- IDENTITY (R476). -/
def execIdentity (t : Nat) (feature fw fmt fs b engine tg : Nat) (s : State) : Host.Outcome State Fault Refusal :=
  .next ((s.advance t).identity feature fw fmt fs b engine tg)

/-! ### Heartbeats, claim and handover (R475, R480 to R494) -/

/-- HB_PULSE (R484). -/
def execHbPulse (e : Pulse) (s : State) : Host.Outcome State Fault Refusal := .next ((s.advance e.time).hbPulse e.width)
/-- PATH_SILENT (R484). -/
def execPathSilent (t : Nat) (path : Nat) (s : State) : Host.Outcome State Fault Refusal :=
  .next ((s.advance t).pathSilent path)
/-- COURIER_WAIT_EXPIRY (R480). -/
def execCourierWaitExpiry (t : Nat) (round : Nat) (s : State) : Host.Outcome State Fault Refusal :=
  .next ((s.advance t).courierExpiry round)
/-- CLAIM_WINDOW (R488). -/
def execClaimWindow (t : Nat) (line : ClaimLine) (s : State) : Host.Outcome State Fault Refusal :=
  .next ((s.advance t).claimWindow line)
/-- HANDOVER (R492). -/
def execHandover (t : Nat) (s : State) : Host.Outcome State Fault Refusal := .next ((s.advance t).handover)
/-- DRIVER_ENABLE (R492). -/
def execDriverEnable (t : Nat) (s : State) : Host.Outcome State Fault Refusal := .next ((s.advance t).driverEnable)
/-- WATCHDOG_LAPSE (R483). -/
def execWatchdogLapse (t : Nat) (s : State) : Host.Outcome State Fault Refusal := .next ((s.advance t).watchdogLapse)
/-- ALONE_WAIT_EXPIRY (R475). -/
def execAloneWaitExpiry (t : Nat) (s : State) : Host.Outcome State Fault Refusal := .next ((s.advance t).aloneExpiry)
/-- PENALTY_EXPIRY (R487). -/
def execPenaltyExpiry (t : Nat) (bit : Nat) (s : State) : Host.Outcome State Fault Refusal :=
  .next ((s.advance t).penaltyExpiry bit)

/-! ### Resync (R498) -/

/-- RESYNC_SETTINGS_RECEIVED (R498). -/
def execResyncSettingsReceived (t : Nat) (settings : List (Nat × Val)) (s : State) : Host.Outcome State Fault Refusal :=
  .next ((s.advance t).resyncSettings settings)
/-- SNAPSHOT (R498). -/
def execSnapshot (t : Nat) (s : State) : Host.Outcome State Fault Refusal := .next ((s.advance t).snapshot)
/-- SNAPSHOT_RECEIVED (R498). -/
def execSnapshotReceived (t : Nat) (x : Snapshot) (s : State) : Host.Outcome State Fault Refusal :=
  .next ((s.advance t).snapshotReceived x)
/-- REPLAY_DONE (R498). -/
def execReplayDone (t : Nat) (s : State) : Host.Outcome State Fault Refusal := .next ((s.advance t).replayDone)
/-- RESYNC_VERIFY_DONE (R498). -/
def execResyncVerifyDone (t : Nat) (s : State) : Host.Outcome State Fault Refusal := .next ((s.advance t).verifyDone)

end Sys2Proof.Machine
end

