-- ==== Sys2Proof/Machine/SystemRows.lean ====
section
/-! DEFINITION. The commands of power stages, resets, boot, update and the TAP. -/

namespace Sys2Proof.Machine


/-! ### Power stages (R516 to R520) -/

/-- OVER_CURRENT (R518). -/
def execOverCurrent (t : Nat) (n : Nat) (s : State) : Host.Outcome State Fault Refusal := .next ((s.advance t).overCurrent n)
/-- BOOTSTRAP_CHARGE (R516). -/
def execBootstrapCharge (t : Nat) (n : Nat) (s : State) : Host.Outcome State Fault Refusal :=
  .next ((s.advance t).pscBootstrap n)
/-- SOFT_START_END (R516). -/
def execSoftStartEnd (t : Nat) (n : Nat) (s : State) : Host.Outcome State Fault Refusal := .next ((s.advance t).pscSoftEnd n)
/-- LEAD_TEST_DONE (R517). -/
def execLeadTestDone (t : Nat) (n mohm : Nat) (up : Bool) (s : State) : Host.Outcome State Fault Refusal :=
  .next ((s.advance t).pscTestDone n mohm up)
/-- PSC_RETRY (R520). -/
def execPscRetry (t : Nat) (n : Nat) (s : State) : Host.Outcome State Fault Refusal := .next ((s.advance t).pscRetry n)
/-- RETRY_EPISODE_END (R520). -/
def execRetryEpisodeEnd (t : Nat) (n : Nat) (s : State) : Host.Outcome State Fault Refusal :=
  .next ((s.advance t).pscEpisodeEnd n)
/-- SENSE_CLOCK_RETURN (R516). -/
def execSenseClockReturn (t : Nat) (n : Nat) (s : State) : Host.Outcome State Fault Refusal := .next ((s.advance t).pscClock n)

/-! ### Power, resets and faults (R534 to R541, R556) -/

/-- POWER_ON (R536). -/
def execPowerOn (t : Nat) (s : State) : Host.Outcome State Fault Refusal := .next ((s.advance t).powerOn)
/-- POWER_FAIL (R556). -/
def execPowerFail (t : Nat) (s : State) : Host.Outcome State Fault Refusal := .next ((s.advance t).powerFail)
/-- RESET_PIN (R536). -/
def execResetPin (e : Pulse) (s : State) : Host.Outcome State Fault Refusal := .next ((s.advance e.time).resetPin e.width)
/-- DEBUG_RESET (R536). -/
def execDebugReset (t : Nat) (s : State) : Host.Outcome State Fault Refusal := .next ((s.advance t).debugReset)
/-- CONTROL_WATCHDOG (R536). -/
def execControlWatchdog (t : Nat) (s : State) : Host.Outcome State Fault Refusal := .next ((s.advance t).controlLapse)
/-- FAULT_AUTO_RESET (R539). -/
def execFaultAutoReset (t : Nat) (s : State) : Host.Outcome State Fault Refusal := .next ((s.advance t).autoReset)
/-- WAKE (R540). -/
def execWake (e : Pulse) (s : State) : Host.Outcome State Fault Refusal := .next ((s.advance e.time).wakePin e.width)
/-- BOOT_COMPLETE (R541). -/
def execBootComplete (e : BootEnd) (s : State) : Host.Outcome State Fault Refusal :=
  .next ((s.advance e.time).bootComplete e.sizes e.trained e.flash)
/-- OVER_TEMPERATURE (R537). -/
def execOverTemperature (t : Nat) (temp : Int) (s : State) : Host.Outcome State Fault Refusal :=
  .next ((s.advance t).overTemp temp)
/-- SUPPLY_FAULT (R537). -/
def execSupplyFault (t : Nat) (v : Supply) (s : State) : Host.Outcome State Fault Refusal :=
  .next ((s.advance t).supplyLost v.rail v.volts)

/-! ### Settings and update (R544, R551 to R554) -/

/-- SETTINGS_AUTOSAVE (R544). -/
def execSettingsAutosave (t : Nat) (s : State) : Host.Outcome State Fault Refusal := .next ((s.advance t).autosave)
/-- SLOT_PROGRAMMED (R552). -/
def execSlotProgrammed (t : Nat) (s : State) : Host.Outcome State Fault Refusal := .next ((s.advance t).slotProgrammed)
/-- UPDATE_VERIFY_DONE (R552). -/
def execUpdateVerifyDone (e : SlotCheck) (s : State) : Host.Outcome State Fault Refusal := .next ((s.advance e.time).verifyEnds e.read)
/-- ACTIVATION_RAMP_DOWN_END (R554). -/
def execActivationRampDownEnd (t : Nat) (s : State) : Host.Outcome State Fault Refusal := .next ((s.advance t).rampDownEnd)
/-- ACTIVATION_RESTART (R553). -/
def execActivationRestart (e : SlotCheck) (s : State) : Host.Outcome State Fault Refusal := .next ((s.advance e.time).restartControl e.read)
/-- ACTIVATION_RESUME (R554). -/
def execActivationResume (t : Nat) (s : State) : Host.Outcome State Fault Refusal := .next ((s.advance t).resumeActivation)

/-! ### The TAP (R560) -/

/-- IDCODE (R560). -/
def execIdcode (t : Nat) (s : State) : Host.Outcome State Fault Refusal := .next ((s.advance t).readIdcode)
/-- JTAG_CHALLENGE (R560). -/
def execJtagChallenge (t : Nat) (s : State) : Host.Outcome State Fault Refusal := .next ((s.advance t).readChallenge)
/-- JTAG_TOKEN (R560). -/
def execJtagToken (t : Nat) (sig : List Byte) (scope : Byte) (s : State) : Host.Outcome State Fault Refusal :=
  .next ((s.advance t).takeToken sig scope)

end Sys2Proof.Machine
end

