-- ==== Sys2Proof/Machine/Dispatch.lean ====
section
/-! DEFINITION. The commands and their meanings: one arm per command. -/

namespace Sys2Proof.Machine

/-- The effect of a command on everything but the queue. -/
def exec (i : Instr) (s : State) : Host.Outcome State Fault Refusal :=
  match i with
  | .bopMessage t port host data => Sys2Proof.Machine.execBopMessage t port host data s
  | .sessionOpen t port slot nonce => Sys2Proof.Machine.execSessionOpen t port slot nonce s
  | .read t w r => Sys2Proof.Machine.execRead t w r s
  | .write t w r => Sys2Proof.Machine.execWrite t w r s
  | .writeAt t w r => Sys2Proof.Machine.execWriteAt t w r s
  | .subscribe t w r => Sys2Proof.Machine.execSubscribe t w r s
  | .envelopeOpen t w r => Sys2Proof.Machine.execEnvelopeOpen t w r s
  | .envelopeSeal t w r => Sys2Proof.Machine.execEnvelopeSeal t w r s
  | .envelopeDrop t w r => Sys2Proof.Machine.execEnvelopeDrop t w r s
  | .recall t w r => Sys2Proof.Machine.execRecall t w r s
  | .spiRead t addr typ len off => Sys2Proof.Machine.execSpiRead t addr typ len off s
  | .spiWrite t addr typ len off data => Sys2Proof.Machine.execSpiWrite t addr typ len off data s
  | .writeElement t w addr v => Sys2Proof.Machine.execWriteElement t w addr v s
  | .srcSignal t w p sig => Sys2Proof.Machine.execSrcSignal t w p sig s
  | .dstTarget t w d v => Sys2Proof.Machine.execDstTarget t w d v s
  | .dstPass t w d v => Sys2Proof.Machine.execDstPass t w d v s
  | .xpGain t w src d g => Sys2Proof.Machine.execXpGain t w src d g s
  | .stProgram t w bus n v => Sys2Proof.Machine.execStProgram t w bus n v s
  | .stOutPh t w bus n v => Sys2Proof.Machine.execStOutPh t w bus n v s
  | .ldStart t w l => Sys2Proof.Machine.execLdStart t w l s
  | .ldStop t w l => Sys2Proof.Machine.execLdStop t w l s
  | .ldReset t w l => Sys2Proof.Machine.execLdReset t w l s
  | .mClear t w p => Sys2Proof.Machine.execMClear t w p s
  | .sceneData t w n k => Sys2Proof.Machine.execSceneData t w n k s
  | .imgData t w c k => Sys2Proof.Machine.execImgData t w c k s
  | .imgActivate t w c => Sys2Proof.Machine.execImgActivate t w c s
  | .pendCancel t w idx => Sys2Proof.Machine.execPendCancel t w idx s
  | .coreRetire t w k => Sys2Proof.Machine.execCoreRetire t w k s
  | .coreRestore t w k => Sys2Proof.Machine.execCoreRestore t w k s
  | .clAuditEnable t w c v => Sys2Proof.Machine.execClAuditEnable t w c v s
  | .clClear t w c => Sys2Proof.Machine.execClClear t w c s
  | .jobClear t w c j pos => Sys2Proof.Machine.execJobClear t w c j pos s
  | .schedClear t w => Sys2Proof.Machine.execSchedClear t w s
  | .soClear t w => Sys2Proof.Machine.execSoClear t w s
  | .dispClear t w => Sys2Proof.Machine.execDispClear t w s
  | .logClear t w => Sys2Proof.Machine.execLogClear t w s
  | .bopClear t w => Sys2Proof.Machine.execBopClear t w s
  | .disagreeClear t w => Sys2Proof.Machine.execDisagreeClear t w s
  | .sessionClose t w => Sys2Proof.Machine.execSessionClose t w s
  | .keyValue t w slot k => Sys2Proof.Machine.execKeyValue t w slot k s
  | .keyRole t w slot v => Sys2Proof.Machine.execKeyRole t w slot v s
  | .spEnable t w p v => Sys2Proof.Machine.execSpEnable t w p v s
  | .shadowWrite t w p e v => Sys2Proof.Machine.execShadowWrite t w p e v s
  | .spApplyAt t w p a => Sys2Proof.Machine.execSpApplyAt t w p a s
  | .spClear t w p => Sys2Proof.Machine.execSpClear t w p s
  | .sapStartArm t w => Sys2Proof.Machine.execSapStartArm t w s
  | .sapStartDisarm t w => Sys2Proof.Machine.execSapStartDisarm t w s
  | .ringStop t w r => Sys2Proof.Machine.execRingStop t w r s
  | .ringStart t w r => Sys2Proof.Machine.execRingStart t w r s
  | .ringStartWithTrigger t w r => Sys2Proof.Machine.execRingStartWithTrigger t w r s
  | .agSource t w g bandwidth v => Sys2Proof.Machine.execAgSource t w g bandwidth v s
  | .agClear t w g => Sys2Proof.Machine.execAgClear t w g s
  | .rxEnable t w idx v => Sys2Proof.Machine.execRxEnable t w idx v s
  | .txEnable t w idx v => Sys2Proof.Machine.execTxEnable t w idx v s
  | .rxClear t w idx => Sys2Proof.Machine.execRxClear t w idx s
  | .txClear t w idx => Sys2Proof.Machine.execTxClear t w idx s
  | .portClear t w p => Sys2Proof.Machine.execPortClear t w p s
  | .txrThresholdReset t w p r => Sys2Proof.Machine.execTxrThresholdReset t w p r s
  | .clClearLink t w l => Sys2Proof.Machine.execClClearLink t w l s
  | .timeSet t w v => Sys2Proof.Machine.execTimeSet t w v s
  | .ptpProfile t w v => Sys2Proof.Machine.execPtpProfile t w v s
  | .refPrioWrite t w idx v => Sys2Proof.Machine.execRefPrioWrite t w idx v s
  | .dramEngineSegs t w v => Sys2Proof.Machine.execDramEngineSegs t w v s
  | .dramClear t w => Sys2Proof.Machine.execDramClear t w s
  | .dramWinData t w wr off len k => Sys2Proof.Machine.execDramWinData t w wr off len k s
  | .sramClear t w => Sys2Proof.Machine.execSramClear t w s
  | .thClear t w => Sys2Proof.Machine.execThClear t w s
  | .pdOn t w idx v => Sys2Proof.Machine.execPdOn t w idx v s
  | .twRank t w v => Sys2Proof.Machine.execTwRank t w v s
  | .twResync t w => Sys2Proof.Machine.execTwResync t w s
  | .twClear t w => Sys2Proof.Machine.execTwClear t w s
  | .pscOn t w n v => Sys2Proof.Machine.execPscOn t w n v s
  | .pscTest t w n => Sys2Proof.Machine.execPscTest t w n s
  | .pscUnlatch t w n => Sys2Proof.Machine.execPscUnlatch t w n s
  | .pscClear t w n => Sys2Proof.Machine.execPscClear t w n s
  | .requestDormant t w => Sys2Proof.Machine.execRequestDormant t w s
  | .requestConfigure t w => Sys2Proof.Machine.execRequestConfigure t w s
  | .requestRun t w => Sys2Proof.Machine.execRequestRun t w s
  | .requestService t w => Sys2Proof.Machine.execRequestService t w s
  | .resetRequest t w => Sys2Proof.Machine.execResetRequest t w s
  | .settingsSave t w => Sys2Proof.Machine.execSettingsSave t w s
  | .settingsFactory t w => Sys2Proof.Machine.execSettingsFactory t w s
  | .updData t w k => Sys2Proof.Machine.execUpdData t w k s
  | .updVerify t w => Sys2Proof.Machine.execUpdVerify t w s
  | .updActivate t w => Sys2Proof.Machine.execUpdActivate t w s
  | .updConfirm t w => Sys2Proof.Machine.execUpdConfirm t w s
  | .updAbort t w => Sys2Proof.Machine.execUpdAbort t w s
  | .secOwnerHash t w k => Sys2Proof.Machine.execSecOwnerHash t w k s
  | .secOwnerReq t w => Sys2Proof.Machine.execSecOwnerReq t w s
  | .secDebugOff t w => Sys2Proof.Machine.execSecDebugOff t w s
  | .ctlRemap t master v => Sys2Proof.Machine.execCtlRemap t master v s
  | .rgnWrite t via m idx reg v => Sys2Proof.Machine.execRgnWrite t via m idx reg v s
  | .slotNop k slot r => Sys2Proof.Machine.execSlotNop k slot r s
  | .mac k slot x_s an da db r => Sys2Proof.Machine.execMac k slot x_s an da db r s
  | .msu k slot x_s an da db r => Sys2Proof.Machine.execMsu k slot x_s an da db r s
  | .mpy k slot x_s an da db r => Sys2Proof.Machine.execMpy k slot x_s an da db r s
  | .mpyn k slot x_s an da db r => Sys2Proof.Machine.execMpyn k slot x_s an da db r s
  | .macr k slot x_s an da db r => Sys2Proof.Machine.execMacr k slot x_s an da db r s
  | .ftap k slot x_s an r => Sys2Proof.Machine.execFtap k slot x_s an r s
  | .adda k slot x_s an am r => Sys2Proof.Machine.execAdda k slot x_s an am r s
  | .suba k slot x_s an am r => Sys2Proof.Machine.execSuba k slot x_s an am r s
  | .clr k slot an r => Sys2Proof.Machine.execClr k slot an r s
  | .mova k slot an am r => Sys2Proof.Machine.execMova k slot an am r s
  | .xLoad k dn px m s0 s1 y => Sys2Proof.Machine.execXLoad k dn px m s0 s1 y s
  | .xStore k dn px m s0 s1 y => Sys2Proof.Machine.execXStore k dn px m s0 s1 y s
  | .yLoad k dn py m s0 s1 x => Sys2Proof.Machine.execYLoad k dn py m s0 s1 x s
  | .nop k w => Sys2Proof.Machine.execNop k w s
  | .endJob k => Sys2Proof.Machine.execEndJob k s
  | .mov k rd ra => Sys2Proof.Machine.execMov k rd ra s
  | .add k x_s rd ra rb => Sys2Proof.Machine.execAdd k x_s rd ra rb s
  | .sub k x_s rd ra rb => Sys2Proof.Machine.execSub k x_s rd ra rb s
  | .neg k x_s rd ra => Sys2Proof.Machine.execNeg k x_s rd ra s
  | .abs k x_s rd ra => Sys2Proof.Machine.execAbs k x_s rd ra s
  | .min k rd ra rb => Sys2Proof.Machine.execMin k rd ra rb s
  | .max k rd ra rb => Sys2Proof.Machine.execMax k rd ra rb s
  | .and k rd ra rb => Sys2Proof.Machine.execAnd k rd ra rb s
  | .or k rd ra rb => Sys2Proof.Machine.execOr k rd ra rb s
  | .xor k rd ra rb => Sys2Proof.Machine.execXor k rd ra rb s
  | .not k rd ra => Sys2Proof.Machine.execNot k rd ra s
  | .cmp k ra rb => Sys2Proof.Machine.execCmp k ra rb s
  | .asl k x_s rd ra sh => Sys2Proof.Machine.execAsl k x_s rd ra sh s
  | .asr k rd ra sh => Sys2Proof.Machine.execAsr k rd ra sh s
  | .asrr k rd ra sh => Sys2Proof.Machine.execAsrr k rd ra sh s
  | .lsl k rd ra sh => Sys2Proof.Machine.execLsl k rd ra sh s
  | .lsr k rd ra sh => Sys2Proof.Machine.execLsr k rd ra sh s
  | .ash k x_s rd ra rb => Sys2Proof.Machine.execAsh k x_s rd ra rb s
  | .ext k x_s rd an sh => Sys2Proof.Machine.execExt k x_s rd an sh s
  | .norm k rd an => Sys2Proof.Machine.execNorm k rd an s
  | .lda k an ra => Sys2Proof.Machine.execLda k an ra s
  | .ldag k an ra => Sys2Proof.Machine.execLdag k an ra s
  | .ldah k an ra => Sys2Proof.Machine.execLdah k an ra s
  | .ldal k an ra => Sys2Proof.Machine.execLdal k an ra s
  | .stag k rd an => Sys2Proof.Machine.execStag k rd an s
  | .stah k rd an => Sys2Proof.Machine.execStah k rd an s
  | .stal k rd an => Sys2Proof.Machine.execStal k rd an s
  | .sha k x_s an sh => Sys2Proof.Machine.execSha k x_s an sh s
  | .clra k an => Sys2Proof.Machine.execClra k an s
  | .divs k rd ra rb => Sys2Proof.Machine.execDivs k rd ra rb s
  | .mpyr k x_s rd ra rb => Sys2Proof.Machine.execMpyr k x_s rd ra rb s
  | .lg2 k rd ra => Sys2Proof.Machine.execLg2 k rd ra s
  | .ex2 k x_s rd ra => Sys2Proof.Machine.execEx2 k x_s rd ra s
  | .sty k pn rb m => Sys2Proof.Machine.execSty k pn rb m s
  | .jmp k c tgt => Sys2Proof.Machine.execJmp k c tgt s
  | .call k c tgt => Sys2Proof.Machine.execCall k c tgt s
  | .ret k c => Sys2Proof.Machine.execRet k c s
  | .loop k count body => Sys2Proof.Machine.execLoop k count body s
  | .loopv k dn body => Sys2Proof.Machine.execLoopv k dn body s
  | .leave k c => Sys2Proof.Machine.execLeave k c s
  | .ldi k rd imm => Sys2Proof.Machine.execLdi k rd imm s
  | .addi k x_s rd imm => Sys2Proof.Machine.execAddi k x_s rd imm s
  | .andi k rd imm => Sys2Proof.Machine.execAndi k rd imm s
  | .ori k rd imm => Sys2Proof.Machine.execOri k rd imm s
  | .xori k rd imm => Sys2Proof.Machine.execXori k rd imm s
  | .cmpi k rd imm => Sys2Proof.Machine.execCmpi k rd imm s
  | .ldia k an imm => Sys2Proof.Machine.execLdia k an imm s
  | .mpyri k x_s rd imm => Sys2Proof.Machine.execMpyri k x_s rd imm s
  | .roundPulse t => Sys2Proof.Machine.execRoundPulse t s
  | .roundStart t => Sys2Proof.Machine.execRoundStart t s
  | .phaseComplete t ph => Sys2Proof.Machine.execPhaseComplete t ph s
  | .jobStart t c j pos => Sys2Proof.Machine.execJobStart t c j pos s
  | .trayInputWrite t c j pos => Sys2Proof.Machine.execTrayInputWrite t c j pos s
  | .trayOutputRead t c j pos => Sys2Proof.Machine.execTrayOutputRead t c j pos s
  | .dmaTransfer t k ch x => Sys2Proof.Machine.execDmaTransfer t k ch x s
  | .dmaComplete t c ch => Sys2Proof.Machine.execDmaComplete t c ch s
  | .sourceAdd t passB p => Sys2Proof.Machine.execSourceAdd t passB p s
  | .passComplete t passB => Sys2Proof.Machine.execPassComplete t passB s
  | .rampEnd t src d => Sys2Proof.Machine.execRampEnd t src d s
  | .stripRampEnd t bus n e => Sys2Proof.Machine.execStripRampEnd t bus n e s
  | .morphEnd t bus n st => Sys2Proof.Machine.execMorphEnd t bus n st s
  | .outputPlay t o j => Sys2Proof.Machine.execOutputPlay t o j s
  | .reanchor t => Sys2Proof.Machine.execReanchor t s
  | .pendingArm t id => Sys2Proof.Machine.execPendingArm t id s
  | .commitPoint t id => Sys2Proof.Machine.execCommitPoint t id s
  | .changeApply t id => Sys2Proof.Machine.execChangeApply t id s
  | .envelopeTimeout t e => Sys2Proof.Machine.execEnvelopeTimeout t e s
  | .assemblyTimeout t src => Sys2Proof.Machine.execAssemblyTimeout t src s
  | .sessionTimeout t n => Sys2Proof.Machine.execSessionTimeout t n s
  | .subscriptionPeriod t sub => Sys2Proof.Machine.execSubscriptionPeriod t sub s
  | .publication t l => Sys2Proof.Machine.execPublication t l s
  | .backupSwitch t n => Sys2Proof.Machine.execBackupSwitch t n s
  | .imageTakeEffect t c => Sys2Proof.Machine.execImageTakeEffect t c s
  | .imageLoadDone t c => Sys2Proof.Machine.execImageLoadDone t c s
  | .auditMirror t c => Sys2Proof.Machine.execAuditMirror t c s
  | .auditRound t c dmaBytes differs => Sys2Proof.Machine.execAuditRound t c dmaBytes differs s
  | .reliefTakeover t c => Sys2Proof.Machine.execReliefTakeover t c s
  | .reliefSelfTest t c ok => Sys2Proof.Machine.execReliefSelfTest t c ok s
  | .domainPowerUp t idx => Sys2Proof.Machine.execDomainPowerUp t idx s
  | .domainPowerDown t idx => Sys2Proof.Machine.execDomainPowerDown t idx s
  | .sapFrameIn t p f => Sys2Proof.Machine.execSapFrameIn t p f s
  | .sapFrameOut t p => Sys2Proof.Machine.execSapFrameOut t p s
  | .gateTimeout t p out slot => Sys2Proof.Machine.execGateTimeout t p out slot s
  | .startInEdge e => Sys2Proof.Machine.execStartInEdge e s
  | .startTriggerFire t => Sys2Proof.Machine.execStartTriggerFire t s
  | .asrcGroupLock t g rate => Sys2Proof.Machine.execAsrcGroupLock t g rate s
  | .frameReceive t p f => Sys2Proof.Machine.execFrameReceive t p f s
  | .streamPacketReceive t leg idx k => Sys2Proof.Machine.execStreamPacketReceive t leg idx k s
  | .arpNdIcmp t p q => Sys2Proof.Machine.execArpNdIcmp t p q s
  | .frameTransmit t p underrun => Sys2Proof.Machine.execFrameTransmit t p underrun s
  | .streamPacketSend t idx n => Sys2Proof.Machine.execStreamPacketSend t idx n s
  | .addressAging t mac => Sys2Proof.Machine.execAddressAging t mac s
  | .portMSlowDown t => Sys2Proof.Machine.execPortMSlowDown t s
  | .portMRestore t => Sys2Proof.Machine.execPortMRestore t s
  | .phyLinkChange t phy link => Sys2Proof.Machine.execPhyLinkChange t phy link s
  | .sync t p h origin twoStep => Sys2Proof.Machine.execSync t p h origin twoStep s
  | .followUp t p h origin => Sys2Proof.Machine.execFollowUp t p h origin s
  | .announce t p m => Sys2Proof.Machine.execAnnounce t p m s
  | .delayReq t p h => Sys2Proof.Machine.execDelayReq t p h s
  | .delayResp t p m => Sys2Proof.Machine.execDelayResp t p m s
  | .pdelayReq t p h => Sys2Proof.Machine.execPdelayReq t p h s
  | .pdelayResp t p m => Sys2Proof.Machine.execPdelayResp t p m s
  | .ptpMessageSend t p m => Sys2Proof.Machine.execPtpMessageSend t p m s
  | .announceTimeout t p => Sys2Proof.Machine.execAnnounceTimeout t p s
  | .syncTimeout t p => Sys2Proof.Machine.execSyncTimeout t p s
  | .refEdge t e => Sys2Proof.Machine.execRefEdge t e s
  | .refMissingPeriod t code => Sys2Proof.Machine.execRefMissingPeriod t code s
  | .refMeasureWindow t code err => Sys2Proof.Machine.execRefMeasureWindow t code err s
  | .classQQualify t code => Sys2Proof.Machine.execClassQQualify t code s
  | .refRevert t idx => Sys2Proof.Machine.execRefRevert t idx s
  | .dpllLock t => Sys2Proof.Machine.execDpllLock t s
  | .pulseOutputEdge t o high => Sys2Proof.Machine.execPulseOutputEdge t o high s
  | .clockFailure t k => Sys2Proof.Machine.execClockFailure t k s
  | .clockReturn t k => Sys2Proof.Machine.execClockReturn t k s
  | .referenceWaitExpiry t => Sys2Proof.Machine.execReferenceWaitExpiry t s
  | .xoJudgement t good => Sys2Proof.Machine.execXoJudgement t good s
  | .audrefJudgement t good => Sys2Proof.Machine.execAudrefJudgement t good s
  | .pllLock t k => Sys2Proof.Machine.execPllLock t k s
  | .dvfsRaise t ack => Sys2Proof.Machine.execDvfsRaise t ack s
  | .dvfsLower t ack => Sys2Proof.Machine.execDvfsLower t ack s
  | .dvfsSettle t => Sys2Proof.Machine.execDvfsSettle t s
  | .blockLock t l locked => Sys2Proof.Machine.execBlockLock t l locked s
  | .timeSection t l x => Sys2Proof.Machine.execTimeSection t l x s
  | .timeSectionTimeout t l => Sys2Proof.Machine.execTimeSectionTimeout t l s
  | .courierSection t x => Sys2Proof.Machine.execCourierSection t x s
  | .sumsSection t l r bad sums => Sys2Proof.Machine.execSumsSection t l r bad sums s
  | .channelsSection t l r first bad chans => Sys2Proof.Machine.execChannelsSection t l r first bad chans s
  | .tunnelSection t l bad msgs => Sys2Proof.Machine.execTunnelSection t l bad msgs s
  | .courierBulkSection t bad data => Sys2Proof.Machine.execCourierBulkSection t bad data s
  | .sectionSend t l => Sys2Proof.Machine.execSectionSend t l s
  | .sumWaitExpiry t b => Sys2Proof.Machine.execSumWaitExpiry t b s
  | .heartbeat t round played role health ref claim => Sys2Proof.Machine.execHeartbeat t round played role health ref claim s
  | .digest t round crc => Sys2Proof.Machine.execDigest t round crc s
  | .asrcPositions t round groups => Sys2Proof.Machine.execAsrcPositions t round groups s
  | .change t id eff fid writes => Sys2Proof.Machine.execChange t id eff fid writes s
  | .forwardedRequest t fid role r => Sys2Proof.Machine.execForwardedRequest t fid role r s
  | .forwardedResponse t fid r => Sys2Proof.Machine.execForwardedResponse t fid r s
  | .identity t feature fw fmt fs b engine tg => Sys2Proof.Machine.execIdentity t feature fw fmt fs b engine tg s
  | .hbPulse e => Sys2Proof.Machine.execHbPulse e s
  | .pathSilent t path => Sys2Proof.Machine.execPathSilent t path s
  | .courierWaitExpiry t round => Sys2Proof.Machine.execCourierWaitExpiry t round s
  | .claimWindow t line => Sys2Proof.Machine.execClaimWindow t line s
  | .handover t => Sys2Proof.Machine.execHandover t s
  | .driverEnable t => Sys2Proof.Machine.execDriverEnable t s
  | .watchdogLapse t => Sys2Proof.Machine.execWatchdogLapse t s
  | .aloneWaitExpiry t => Sys2Proof.Machine.execAloneWaitExpiry t s
  | .resyncSettingsReceived t settings => Sys2Proof.Machine.execResyncSettingsReceived t settings s
  | .snapshot t => Sys2Proof.Machine.execSnapshot t s
  | .snapshotReceived t x => Sys2Proof.Machine.execSnapshotReceived t x s
  | .replayDone t => Sys2Proof.Machine.execReplayDone t s
  | .resyncVerifyDone t => Sys2Proof.Machine.execResyncVerifyDone t s
  | .dramRequest t q => Sys2Proof.Machine.execDramRequest t q s
  | .promotion t ch seq => Sys2Proof.Machine.execPromotion t ch seq s
  | .refresh t ch bank => Sys2Proof.Machine.execRefresh t ch bank s
  | .retrain t ch => Sys2Proof.Machine.execRetrain t ch s
  | .rowRedirect t ch row => Sys2Proof.Machine.execRowRedirect t ch row s
  | .postPackageRepair t ch row resource => Sys2Proof.Machine.execPostPackageRepair t ch row resource s
  | .patrolScrub t ch addr ecc => Sys2Proof.Machine.execPatrolScrub t ch addr ecc s
  | .bistRegion t island mem region fault => Sys2Proof.Machine.execBistRegion t island mem region fault s
  | .crossbarAccess t b => Sys2Proof.Machine.execCrossbarAccess t b s
  | .remapSwap t => Sys2Proof.Machine.execRemapSwap t s
  | .overCurrent t n => Sys2Proof.Machine.execOverCurrent t n s
  | .bootstrapCharge t n => Sys2Proof.Machine.execBootstrapCharge t n s
  | .softStartEnd t n => Sys2Proof.Machine.execSoftStartEnd t n s
  | .leadTestDone t n mohm up => Sys2Proof.Machine.execLeadTestDone t n mohm up s
  | .pscRetry t n => Sys2Proof.Machine.execPscRetry t n s
  | .retryEpisodeEnd t n => Sys2Proof.Machine.execRetryEpisodeEnd t n s
  | .penaltyExpiry t bit => Sys2Proof.Machine.execPenaltyExpiry t bit s
  | .powerOn t => Sys2Proof.Machine.execPowerOn t s
  | .resetPin e => Sys2Proof.Machine.execResetPin e s
  | .debugReset t => Sys2Proof.Machine.execDebugReset t s
  | .controlWatchdog t => Sys2Proof.Machine.execControlWatchdog t s
  | .faultAutoReset t => Sys2Proof.Machine.execFaultAutoReset t s
  | .wake e => Sys2Proof.Machine.execWake e s
  | .bootComplete e => Sys2Proof.Machine.execBootComplete e s
  | .overTemperature t temp => Sys2Proof.Machine.execOverTemperature t temp s
  | .supplyFault t v => Sys2Proof.Machine.execSupplyFault t v s
  | .settingsAutosave t => Sys2Proof.Machine.execSettingsAutosave t s
  | .slotProgrammed t => Sys2Proof.Machine.execSlotProgrammed t s
  | .updateVerifyDone e => Sys2Proof.Machine.execUpdateVerifyDone e s
  | .activationRampDownEnd t => Sys2Proof.Machine.execActivationRampDownEnd t s
  | .activationRestart e => Sys2Proof.Machine.execActivationRestart e s
  | .activationResume t => Sys2Proof.Machine.execActivationResume t s
  | .idcode t => Sys2Proof.Machine.execIdcode t s
  | .jtagChallenge t => Sys2Proof.Machine.execJtagChallenge t s
  | .jtagToken t sig scope => Sys2Proof.Machine.execJtagToken t sig scope s
  | .powerFail t => Sys2Proof.Machine.execPowerFail t s
  | .sapMissingFrame t p => Sys2Proof.Machine.execSapMissingFrame t p s
  | .netPortLinkChange t p up => Sys2Proof.Machine.execNetPortLinkChange t p up s
  | .sgmiiClockFailure t => Sys2Proof.Machine.execSgmiiClockFailure t s
  | .senseClockReturn t n => Sys2Proof.Machine.execSenseClockReturn t n s

end Sys2Proof.Machine
end

