-- ==== Sys2Proof/Safety.lean ====
section
/-! DEFINITION. What counts as a sound state, when a command completes, and frames: the terms in which claims are
stated. -/

namespace Sys2Proof.Machine

/-! ### Sound states -/

/-- The object dictionary is in its canonical form: strictly rising addresses, no entry equal to its default. -/
def State.dictWf (s : State) : Bool := Tab.wf (defaultVal s.variant) s.regs

/-- The user area of DRAM and the control SRAM are in their canonical form. -/
def State.memWf (s : State) : Bool := Memory.wf s.mem.dram && Memory.wf s.mem.sram

/-- A sound core (R169, R189, R223): at most 4 open loops, which `LD` counts, at most 16 return addresses, reserved bits
of SR 0, and X and Y in their canonical form, within 32,768 words (R164). -/
structure Core.Sound (c : Core) : Prop where
  depth : c.loops.length ≤ 4
  ld : (c.sr.extractLsb' 9 3).toNat = c.loops.length
  rsv : c.sr.extractLsb' 12 4 = 0
  ret : c.ret.length ≤ 16
  x : Tab.wf (fun _ => 0) c.x = true ∧ ∀ e ∈ c.x, e.1 < 32768
  y : Tab.wf (fun _ => 0) c.y = true ∧ ∀ e ∈ c.y, e.1 < 32768

/-- Every core is sound. -/
def State.CoresSound (s : State) : Prop := ∀ c j, (s.core c j).Sound

/-! ### DSP core instructions -/

/-- The core executes an instruction now: it is present and powered, and no lock of R181 holds the instruction. -/
def State.ready (s : State) (k : CoreId) (i : DspInsn) : Prop :=
  s.clusterUp k.c = true ∧ s.waits k.c k.j (s.core k.c k.j) i = false

/-- The next word of the program, and the places that the innermost loop goes to, lie in program memory (R189). -/
def Core.Inside (c : Core) : Prop :=
  c.pc.toNat + 1 < 8192 ∧ ∀ l ∈ c.loops, l.1 < 8192 ∧ l.2 + 1 < 8192

/-- The core stands at the end of its innermost loop (R223). -/
def Core.AtLoopEnd (c : Core) : Prop := ∃ st rest, c.loops = (st, c.pc.toNat) :: rest

/-- What an instruction may write: data registers, accumulators, pointers, bits of SR, words of X and Y. -/
structure Touch where
  d : List DReg := []
  a : List Acc := []
  p : List Ptr := []
  sr : List Nat := []
  x : List Nat := []
  y : List Nat := []
  /-- Whether it may write an N, L, B or LC register. -/
  other : Bool := false
deriving DecidableEq, Repr

/-- The data of a core but for what an instruction may write: registers, accumulators, pointers, the bits of SR below
`LD`, both memories, `JOB`, the program and the standing of its jobs. Cycles pass. -/
structure Core.KeepsData (c c' : Core) (w : Touch) : Prop where
  d : ∀ r, r ∉ w.d → c'.getD r = c.getD r
  a : ∀ n, n ∉ w.a → c'.getA n = c.getA n
  p : ∀ i, i ∉ w.p → c'.getP i = c.getP i
  nlb : w.other = false → c'.n = c.n ∧ c'.l = c.l ∧ c'.b = c.b
  sr : ∀ i, i < 9 → i ∉ w.sr → c'.flag i = c.flag i
  x : ∀ n, n ∉ w.x → c'.readX n = c.readX n
  y : ∀ n, n ∉ w.y → c'.readY n = c.readY n
  overflowed : w.a = [] → c'.overflowed = c.overflowed
  rest : c'.job = c.job ∧ c'.prog = c.prog ∧ c'.run = c.run ∧ c'.since = c.since ∧ c'.ended = c.ended ∧
    c'.halted = c.halted ∧ c'.ready = c.ready ∧ c'.handed = c.handed ∧ c'.used = c.used ∧ c'.libs = c.libs
  time : ∃ n, 0 < n ∧ c'.now = c.now + n ∧ c'.cyc = c.cyc + BitVec.ofNat 32 n

/-- `LD` counts the open loops, and the reserved bits of SR above it are as before. -/
def Core.ShowsLoops (c c' : Core) : Prop :=
  c'.loops.length ≤ 4 → (c'.sr.extractLsb' 9 3).toNat = c'.loops.length ∧ c'.sr.extractLsb' 12 4 = c.sr.extractLsb' 12 4

/-- The loops, their counters and SR from `LD` up are as before. -/
def Core.KeepsLoops (c c' : Core) : Prop :=
  c'.loops = c.loops ∧ c'.lc = c.lc ∧ c'.sr.extractLsb' 9 7 = c.sr.extractLsb' 9 7

/-- PC goes to the next instruction (R223): on by 1, or, at the end of the innermost loop, back to its start with the
loop counter down by 1 while more than 1 is left of it, and on past the loop, which closes, when not. -/
def Core.MovesOn (c c' : Core) : Prop :=
  c'.ret = c.ret ∧
  (¬ c.AtLoopEnd → c'.pc = c.pc + 1 ∧ c.KeepsLoops c') ∧
  ∀ st rest, c.loops = (st, c.pc.toNat) :: rest →
    let lv : Fin 4 := Fin.ofNat 4 rest.length
    if 1 < (c.lc.get lv).toNat then c'.pc = BitVec.ofNat 13 st ∧ c'.loops = c.loops ∧ c'.lc.get lv = c.lc.get lv - 1
    else c'.pc = c.pc + 1 ∧ c'.loops = rest ∧ c'.lc = c.lc ∧ c.ShowsLoops c'

/-- The frame of an instruction that does not branch. -/
def Core.Keeps (c c' : Core) (w : Touch) : Prop := c.KeepsData c' w ∧ c.MovesOn c'

/-- `Z` and `N` tell of a result (R218). -/
def Core.ShowsZN (c : Core) (r : Word) : Prop := c.fZ = decide (r = 0) ∧ c.fN = r.msb

/-- An exact integer `z` delivered to a data register with the flags of a sum (R218). -/
def Core.SumTo (c c' : Core) (sat : Bool) (rd : DReg) (z : Int) : Prop :=
  c'.getD rd = clip32 sat z ∧ c'.ShowsZN (clip32 sat z) ∧ c'.fV = out32 z ∧ c'.fSV = (c.fSV || (sat && out32 z))

/-- The new value of accumulator `an` by a MAC slot: `v` of its value before, which for slot 1 is the one that slot 0
left; where slot 1 writes the accumulator of slot 0, it starts from slot 0's result (R214). -/
def Core.SlotGives (c c' : Core) (slot : Fin 2) (r : Beside) (b : Bundle) (an : Acc) (v : BitVec 72 → BitVec 72) : Prop :=
  let m := macSlot c c none (bundleTap c b false) r.other
  if slot = 1 then c'.getA an = v (m.getA an)
  else if slotDest r.other = some an then
    c'.getA an = (macSlot c (c.setA an (v (c.getA an))) (some an) (bundleTap c b true) r.other).getA an
  else c'.getA an = v (c.getA an)

/-- The value of an accumulator operand `am` of a slot (R214). -/
def Core.slotSource (c : Core) (slot : Fin 2) (r : Beside) (b : Bundle) (am : Acc) : BitVec 72 :=
  if slot = 1 ∧ slotDest r.other = some am then (macSlot c c none (bundleTap c b false) r.other).getA am else c.getA am

/-- What a bundle may write. -/
def Core.bundleTouch (c : Core) (b : Bundle) : Touch where
  d := (bundleLoads c b).map (·.1)
  a := (slotDest b.s0).toList ++ (slotDest b.s1).toList
  p := (bundleSteps c b).map (·.1)
  sr := ((slotDest b.s0).toList ++ (slotDest b.s1).toList).map (fun n => 4 + n.val)
  x := (bundleXWrites c b).map (·.1)

/-- The core command answers the state in which its core alone changed, to one that a claim describes. -/
def CoreAnswers (i : Instr) (s : State) (k : CoreId) (p : Core → Prop) : Prop :=
  ∃ c', exec i s = .next (s.setCore k.c k.j c') ∧ p c'

/-! ### Records that write -/

/-- Beside the dictionary nothing differs but the note of a changed setting (R544), the note of a touched element (R277) and what waits
for the partner (R477). -/
def State.Beside (s u : State) : Prop :=
  { u with
    regs := s.regs
    sys := { u.sys with settingsDirty := s.sys.settingsDirty, autosaveAt := s.sys.autosaveAt }
    bop := { u.bop with touched := s.bop.touched }
    twin := { u.twin with courier := s.twin.courier } } = s

/-- Some elements take values, and nothing else differs. -/
structure State.Sets (s u : State) (l : List (Nat × Val)) : Prop where
  now : ∀ e ∈ l, u.val e.1 = e.2
  others : ∀ a, (∀ e ∈ l, e.1 ≠ a) → u.val a = s.val a
  rest : s.Beside u

/-- The flash stands as it was, but for a save of the settings that began less than 200 ms ago: its copy is valid or not (R544, R585). -/
def State.KeepsFlash (s u : State) : Prop :=
  (s.sys.saveAt.all (fun t => decide (t + 200000000 ≤ s.time.tick)) = true → u.flash = s.flash) ∧
  ∃ l, u.flash = { s.flash with settings := l } ∧
    l.map (fun c => { c with valid := true }) = s.flash.settings.map (fun c => { c with valid := true })

/-- Elements that go to 0. -/
def toZero (l : List Nat) : List (Nat × Val) := l.map (fun a => (a, .int 0))

/-- A write record of a value to an element that is executed here at once: its source may ask, no queued request holds it,
no ACTIVE has to execute it, and it passes the checks of R275. -/
structure State.Takes (s : State) (w : Who) (a : Nat) (v : Val) : Prop where
  source : s.sourceOn w.src = true
  alone : s.pickRequest w (fun q => q.todo.head? == some (writeRec w a v)) = none
  here : s.forActive w (writeRec w a v) = false
  form : malformed (writeRec w a v) = false
  addr : a < 2 ^ 32 ∧ typeOf a ≠ 14 ∧ decodeVal (typeOf a) (encodeVal (typeOf a) v) = v
  head : s.writeHead w.src a (typeOf a) = .ok
  tail : s.writeTail w.src a v = .ok

/-- A command at time t writes a value to an element with an effect: where the record is taken, its asker is answered OK
with an effective sample, and before that answer leaves, the effect stands. -/
def Writes (c : Instr) (s : State) (t : Nat) (w : Who) (a : Nat) (v : Val) (effect : State → State → Prop) : Prop :=
  (s.advance t).Takes w a v → ∃ u eff, effect (s.advance t) u ∧
    exec c s = .next (u.sendAnswer w (okRec (writeRec w a v) (typeOf a) (leBytes 8 eff)))

/-- A record of an operation that is executed here at once and is well formed. -/
structure State.Heeds (s : State) (op : Nat) (w : Who) (r : Rec) : Prop where
  source : s.sourceOn w.src = true
  alone : s.pickRequest w (fun q => q.todo.head? == some { r with op := op }) = none
  here : s.forActive { w with opId := r.opId } { r with op := op } = false
  form : malformed { r with op := op } = false

/-- A record command at time t that is heeded is answered with a record, and before that answer leaves, its effect
stands. -/
def Replies (c : Instr) (s : State) (t op : Nat) (w : Who) (r : Rec) (effect : State → State → Rec → Prop) : Prop :=
  (s.advance t).Heeds op w r → ∃ u a, effect (s.advance t) u a ∧ exec c s = .next (u.sendAnswer { w with opId := r.opId } a)

/-- A chunk of a DOMAIN element that is taken: its record is heeded and passes checks 1 to 5 of R275, and its place and
owner pass the checks of R264. -/
structure State.TakesPart (s : State) (w : Who) (a : Nat) (k : Chunk) : Prop where
  heeds : s.Heeds opWrite w (chunkRec w a k)
  addr : a < 2 ^ 32 ∧ typeOf a = 14
  fits : k.off < 2 ^ 32 ∧ k.total < 2 ^ 32
  head : s.writeHead w.src a 14 = .ok
  taken : ∃ x u, s.putChunk w a k.off k.total k.data = (.ok x, u)

/-- The bytes that an asker's chunks have gathered before one at offset `off`. -/
def State.gathered (s : State) (src : Src) (off : Nat) : List Byte :=
  if off = 0 then [] else ((s.liveAsms.find? (fun x => x.owner = ownerOf src)).map (·.data)).getD []

/-- Whether a chunk completes its value: over BOP the one that reaches the total, over the service SPI one of fewer than
256 bytes (R256, R264). -/
def partLasts (k : Chunk) (src : Src) : Prop := if src = .spi then k.data.length < 256 else k.off + k.data.length = k.total

/-- A command at time t writes a chunk: until the last it is gathered and no element changes; with the last the value
stands as an effect says. Either way it is answered OK. -/
def WritesPart (c : Instr) (s : State) (t : Nat) (w : Who) (a : Nat) (k : Chunk) (effect : State → State → List Byte → Prop) : Prop :=
  let b := s.advance t
  let whole := b.gathered w.src k.off ++ k.data
  b.TakesPart w a k → ∃ u eff, exec c s = .next (u.sendAnswer w (okRec (chunkRec w a k) 14 (leBytes 8 eff))) ∧
    (¬ partLasts k w.src → (∀ y, u.val y = b.val y) ∧ ∃ m ∈ u.bop.asms, m.owner = ownerOf w.src ∧ m.addr = a ∧ m.data = whole ∧
      m.last = b.time.tick) ∧
    (partLasts k w.src → effect b u whole)

end Sys2Proof.Machine
end

