-- ==== Sys2Proof/Certificates/Slice0/Obligations.lean ====
section
/-! DEFINITION. The statements for the provers. -/

open Sys2Proof Sys2Proof.Machine

/-! ### Encoding -/

/-- R203 to R219: the word of every well-formed core instruction decodes to that instruction, at every value of every
operand. -/
def Obligations.DecodeOfEncode : Prop := ∀ i : DspInsn, dspWf i = true → decodeDsp (encodeDsp i) = some i

/-- R204: a word decodes to at most one instruction, a well-formed one, whose word it is; every other word is a reserved
encoding. Unused fields read as reserved (log entry 10). -/
def Obligations.EncodeOfDecode : Prop := ∀ w : DspWord, ∀ i : DspInsn, decodeDsp w = some i → dspWf i = true ∧ encodeDsp i = w

/-! ### Sums, logic and shifts (R218, R219) -/

/-- R218, R219: ADD, SUB, NEG, ADDI to a data register and ASL deliver the exact integer result, wrapped or saturated,
with its flags, and change nothing else. -/
def Obligations.SumsDeliver : Prop := ∀ (s : State) (k : CoreId) (sat : Bool) (rd ra rb : DReg) (imm : Word) (sh : Fin 32),
  let c := s.core k.c k.j
  let x := c.getD ra
  let y := c.getD rb
  c.Inside →
  (s.ready k (.add sat rd ra rb) → CoreAnswers (.add k sat rd ra rb) s k (fun c' =>
    c.SumTo c' sat rd (x.toInt + y.toInt) ∧ c'.fC = decide (2 ^ 32 ≤ x.toNat + y.toNat) ∧
      c.Keeps c' { d := [rd], sr := [0, 1, 2, 3, 8] })) ∧
  (s.ready k (.sub sat rd ra rb) → CoreAnswers (.sub k sat rd ra rb) s k (fun c' =>
    c.SumTo c' sat rd (x.toInt - y.toInt) ∧ c'.fC = decide (x.toNat < y.toNat) ∧
      c.Keeps c' { d := [rd], sr := [0, 1, 2, 3, 8] })) ∧
  (s.ready k (.neg sat rd ra) → CoreAnswers (.neg k sat rd ra) s k (fun c' =>
    c.SumTo c' sat rd (-x.toInt) ∧ c'.fC = decide (x ≠ 0) ∧ c.Keeps c' { d := [rd], sr := [0, 1, 2, 3, 8] })) ∧
  (s.ready k (.addi sat (.d rd) imm) → CoreAnswers (.addi k sat (.d rd) imm) s k (fun c' =>
    c.SumTo c' sat rd ((c.getD rd).toInt + imm.toInt) ∧ c'.fC = decide (2 ^ 32 ≤ (c.getD rd).toNat + imm.toNat) ∧
      c.Keeps c' { d := [rd], sr := [0, 1, 2, 3, 8] })) ∧
  (s.ready k (.asl sat rd ra sh) → CoreAnswers (.asl k sat rd ra sh) s k (fun c' =>
    c.SumTo c' sat rd (x.toInt * (2 ^ sh.val : Nat)) ∧ (sh.val ≠ 0 → c'.fC = x.getLsbD (32 - sh.val)) ∧
      c.Keeps c' { d := [rd], sr := [0, 1, 2, 3, 8] }))

/-- R185, R186, R218, R219: ABS, ASH, EXT, MPYR and MPYRI deliver their exact result rounded half to even, wrapped or
saturated, with `Z`, `N`, `V` and `SV`, and change nothing else. -/
def Obligations.RoundedDeliver : Prop := ∀ (s : State) (k : CoreId) (sat : Bool) (rd ra rb : DReg) (an : Acc) (sh : BitVec 6) (imm : Word),
  let c := s.core k.c k.j
  let x := c.getD ra
  let y := c.getD rb
  let n := (y.setWidth 6).toInt
  let keeps (c' : Core) : Prop := c.Keeps c' { d := [rd], sr := [0, 1, 3, 8] }
  c.Inside →
  (s.ready k (.abs sat rd ra) → CoreAnswers (.abs k sat rd ra) s k (fun c' => c.SumTo c' sat rd |x.toInt| ∧ keeps c')) ∧
  (s.ready k (.ash sat rd ra rb) → CoreAnswers (.ash k sat rd ra rb) s k (fun c' =>
    c.SumTo c' sat rd (if 0 ≤ n then x.toInt * (2 ^ n.toNat : Nat) else roundShift x.toInt (-n).toNat) ∧ keeps c')) ∧
  (s.ready k (.ext sat rd an sh) → CoreAnswers (.ext k sat rd an sh) s k (fun c' =>
    c.SumTo c' sat rd (extValue (c.getA an) sh) ∧ keeps c')) ∧
  (s.ready k (.mpyr sat rd ra rb) → CoreAnswers (.mpyr k sat rd ra rb) s k (fun c' =>
    c.SumTo c' sat rd (roundShift (x.toInt * y.toInt) 31) ∧ keeps c')) ∧
  (s.ready k (.mpyri sat rd imm) → CoreAnswers (.mpyri k sat rd imm) s k (fun c' =>
    c.SumTo c' sat rd (roundShift ((c.getD rd).toInt * imm.toInt) 31) ∧ keeps c'))

/-- R218: MIN, MAX, ASRR and NORM set `Z` and `N` alone; ASR, LSL and LSR set `C` to the last bit moved out as well. -/
def Obligations.PicksAndShifts : Prop := ∀ (s : State) (k : CoreId) (rd ra rb : DReg) (an : Acc) (sh : Fin 32),
  let c := s.core k.c k.j
  let x := c.getD ra
  let y := c.getD rb
  let gives (c' : Core) (r : Word) (sr : List Nat) : Prop :=
    c'.getD rd = r ∧ c'.ShowsZN r ∧ c.Keeps c' { d := [rd], sr := sr }
  c.Inside →
  (s.ready k (.min rd ra rb) → CoreAnswers (.min k rd ra rb) s k (fun c' =>
    gives c' (BitVec.ofInt 32 (min x.toInt y.toInt)) [0, 1])) ∧
  (s.ready k (.max rd ra rb) → CoreAnswers (.max k rd ra rb) s k (fun c' =>
    gives c' (BitVec.ofInt 32 (max x.toInt y.toInt)) [0, 1])) ∧
  (s.ready k (.asrr rd ra sh) → CoreAnswers (.asrr k rd ra sh) s k (fun c' =>
    gives c' (BitVec.ofInt 32 (roundShift x.toInt sh.val)) [0, 1])) ∧
  (s.ready k (.norm rd an) → CoreAnswers (.norm k rd an) s k (fun c' => ∃ n : Int, -8 ≤ n ∧ n ≤ 31 ∧
    gives c' (BitVec.ofInt 32 n) [0, 1] ∧ (∀ m : Int, -8 ≤ m → m ≤ 31 → normFits (c.getA an).toInt m = true → m ≤ n) ∧
    normFits (c.getA an).toInt n = true)) ∧
  (s.ready k (.asr rd ra sh) → CoreAnswers (.asr k rd ra sh) s k (fun c' =>
    gives c' (x.sshiftRight sh.val) [0, 1, 2] ∧ (sh.val ≠ 0 → c'.fC = x.getLsbD (sh.val - 1)))) ∧
  (s.ready k (.lsl rd ra sh) → CoreAnswers (.lsl k rd ra sh) s k (fun c' =>
    gives c' (x <<< sh.val) [0, 1, 2] ∧ (sh.val ≠ 0 → c'.fC = x.getLsbD (32 - sh.val)))) ∧
  (s.ready k (.lsr rd ra sh) → CoreAnswers (.lsr k rd ra sh) s k (fun c' =>
    gives c' (x >>> sh.val) [0, 1, 2] ∧ (sh.val ≠ 0 → c'.fC = x.getLsbD (sh.val - 1))))

/-- R218, R219: AND, OR, XOR, NOT, ANDI, ORI and XORI deliver the bitwise result, set `Z` and `N`, clear `V`, and change
nothing else. -/
def Obligations.LogicDelivers : Prop := ∀ (s : State) (k : CoreId) (rd ra rb : DReg) (imm : Word),
  let c := s.core k.c k.j
  let x := c.getD ra
  let y := c.getD rb
  let gives (r : Word) (c' : Core) : Prop :=
    c'.getD rd = r ∧ c'.ShowsZN r ∧ c'.fV = false ∧ c.Keeps c' { d := [rd], sr := [0, 1, 3] }
  c.Inside →
  (s.ready k (.and rd ra rb) → CoreAnswers (.and k rd ra rb) s k (gives (x &&& y))) ∧
  (s.ready k (.or rd ra rb) → CoreAnswers (.or k rd ra rb) s k (gives (x ||| y))) ∧
  (s.ready k (.xor rd ra rb) → CoreAnswers (.xor k rd ra rb) s k (gives (x ^^^ y))) ∧
  (s.ready k (.not rd ra) → CoreAnswers (.not k rd ra) s k (gives (~~~x))) ∧
  (s.ready k (.andi rd imm) → CoreAnswers (.andi k rd imm) s k (gives (c.getD rd &&& imm))) ∧
  (s.ready k (.ori rd imm) → CoreAnswers (.ori k rd imm) s k (gives (c.getD rd ||| imm))) ∧
  (s.ready k (.xori rd imm) → CoreAnswers (.xori k rd imm) s k (gives (c.getD rd ^^^ imm)))

/-- R218, R219: CMP and CMPI set `Z`, `N`, `C` and `V` as a subtraction does and write no register. -/
def Obligations.ComparesSetFlags : Prop := ∀ (s : State) (k : CoreId) (ra rb : DReg) (imm : Word),
  let c := s.core k.c k.j
  let flags (x y : Word) (c' : Core) : Prop :=
    c'.fZ = decide (x = y) ∧ c'.fC = decide (x.toNat < y.toNat) ∧ (c'.fN != c'.fV) = decide (x.toInt < y.toInt) ∧
      c'.fV = out32 (x.toInt - y.toInt) ∧ c.Keeps c' { sr := [0, 1, 2, 3] }
  c.Inside →
  (s.ready k (.cmp ra rb) → CoreAnswers (.cmp k ra rb) s k (flags (c.getD ra) (c.getD rb))) ∧
  (s.ready k (.cmpi ra imm) → CoreAnswers (.cmpi k ra imm) s k (flags (c.getD ra) imm))

/-- R176, R183, R218, R219: LDA and LDIA place a word in `high` with its sign in `guard` and 0 in `low`; LDAG, LDAH and
LDAL load one part and leave the others; CLRA clears; STAG, STAH and STAL deliver a part and set no flag; SHA shifts,
saturates or wraps under R183, and sets `GVn` on overflow. -/
def Obligations.AccumulatorMoves : Prop := ∀ (s : State) (k : CoreId) (sat : Bool) (rd ra : DReg) (an : Acc) (sh : BitVec 6) (imm : Word),
  let c := s.core k.c k.j
  let old := c.getA an
  let gives (v : BitVec 72) (c' : Core) : Prop := c'.getA an = v ∧ c'.overflowed = c.overflowed ∧ c.Keeps c' { a := [an] }
  let gets (v : Word) (c' : Core) : Prop := c'.getD rd = v ∧ c.Keeps c' { d := [rd] }
  c.Inside →
  (s.ready k (.lda an ra) → CoreAnswers (.lda k an ra) s k (fun c' =>
    gives (accOfWord (c.getD ra)) c' ∧ (c'.getA an).toInt = (c.getD ra).toInt * 2 ^ 32)) ∧
  (s.ready k (.ldia an imm) → CoreAnswers (.ldia k an imm) s k (fun c' =>
    gives (accOfWord imm) c' ∧ (c'.getA an).toInt = imm.toInt * 2 ^ 32)) ∧
  (s.ready k (.ldag an ra) → CoreAnswers (.ldag k an ra) s k (fun c' =>
    gives (accParts ((c.getD ra).setWidth 8) (highOf old) (lowOf old)) c' ∧ highOf (c'.getA an) = highOf old ∧
      lowOf (c'.getA an) = lowOf old)) ∧
  (s.ready k (.ldah an ra) → CoreAnswers (.ldah k an ra) s k (fun c' =>
    gives (accParts (guardOf old) (c.getD ra) (lowOf old)) c' ∧ highOf (c'.getA an) = c.getD ra)) ∧
  (s.ready k (.ldal an ra) → CoreAnswers (.ldal k an ra) s k (fun c' =>
    gives (accParts (guardOf old) (highOf old) (c.getD ra)) c' ∧ lowOf (c'.getA an) = c.getD ra)) ∧
  (s.ready k (.clra an) → CoreAnswers (.clra k an) s k (gives 0)) ∧
  (s.ready k (.stag rd an) → CoreAnswers (.stag k rd an) s k (gets ((guardOf old).signExtend 32))) ∧
  (s.ready k (.stah rd an) → CoreAnswers (.stah k rd an) s k (gets (highOf old))) ∧
  (s.ready k (.stal rd an) → CoreAnswers (.stal k rd an) s k (gets (lowOf old))) ∧
  (s.ready k (.sha sat an sh) → CoreAnswers (.sha k sat an sh) s k (fun c' =>
    let z : Int := if 0 ≤ sh.toInt then old.toInt * (2 ^ sh.toInt.toNat : Nat) else roundShift old.toInt (-sh.toInt).toNat
    c'.getA an = clip72 sat z ∧ c'.flag (4 + an.val) = (c.flag (4 + an.val) || out72 z) ∧
      c.Keeps c' { a := [an], sr := [4 + an.val] }))

/-- R220 to R222: DIVS makes one division step; LG2 and EX2 deliver the bounds of their range and exact powers of two, and
set their flags. The digits that the manual leaves open elsewhere are free (log entry 3), and nothing is said of them. -/
def Obligations.SeriesSteps : Prop := ∀ (s : State) (k : CoreId) (sat : Bool) (rd ra rb : DReg),
  let c := s.core k.c k.j
  let r := c.getD rd
  let x := c.getD ra
  c.Inside →
  (s.ready k (.divs rd ra rb) → CoreAnswers (.divs k rd ra rb) s k (fun c' =>
    (r.msb = false → x.msb = false → rd ≠ rb →
      (c'.getD rd).toNat = (if x.toNat ≤ 2 * r.toNat then 2 * r.toNat - x.toNat else 2 * r.toNat) % 2 ^ 32 ∧
      c'.fC = decide (x.toNat ≤ 2 * r.toNat) ∧
      c'.getD rb = (c.getD rb <<< 1) + (if x.toNat ≤ 2 * r.toNat then 1 else 0)) ∧
    c.Keeps c' { d := [rd, rb], sr := [2] })) ∧
  (s.ready k (.lg2 rd ra) → CoreAnswers (.lg2 k rd ra) s k (fun c' =>
    c'.fV = decide (x.toInt ≤ 0) ∧ c'.ShowsZN (c'.getD rd) ∧ (x.toInt ≤ 0 → c'.getD rd = 0x80000000) ∧
    (∀ n : Nat, n < 31 → x = BitVec.ofNat 32 (2 ^ n) → (c'.getD rd).toInt = ((n : Int) - 31) * 2 ^ 26) ∧
    c.Keeps c' { d := [rd], sr := [0, 1, 3] })) ∧
  (s.ready k (.ex2 sat rd ra) → CoreAnswers (.ex2 k sat rd ra) s k (fun c' =>
    c'.fV = decide (0 ≤ x.toInt) ∧ c'.fSV = (c.fSV || (sat && decide (0 ≤ x.toInt))) ∧ c'.ShowsZN (c'.getD rd) ∧
    (0 ≤ x.toInt → c'.getD rd = 0x7FFFFFFF) ∧
    (∀ n : Nat, 1 ≤ n → n ≤ 31 → x.toInt = -(n : Int) * 2 ^ 26 → c'.getD rd = BitVec.ofNat 32 (2 ^ (31 - n))) ∧
    c.Keeps c' { d := [rd], sr := [0, 1, 3, 8] }))

/-! ### Registers (R210, R177) -/

/-- R210: the register that each number names; a register that is written reads back what it holds of the value: all 32 bits
of a data register, bits [15:0] of a 16-bit register, zero-extended (`N` sign-extended), and of SR the bits below `LD`, with
`LD` and the reserved bits as before; every other register reads as before. `CYC` and `JOB` are read only, and no other
number names a register. -/
def Obligations.RegisterWrites : Prop := ∀ (c : Core) (r q : Reg) (v cyc : Word),
  (∀ n : Nat, regOf n = some r ↔ (match r with
    | .d i => n = i.val
    | .p i => n = 0x10 + i.val
    | .n i => n = 0x18 + i.val
    | .l i => n = 0x20 + i.val
    | .b i => n = 0x28 + i.val
    | .lc i => n = 0x30 + i.val
    | .sr => n = 0x34
    | .cyc => n = 0x35
    | .job => n = 0x36)) ∧
  (regWritable r = false ↔ r = .cyc ∨ r = .job) ∧
  (regWritable r = true → (c.writeReg r v).readReg cyc r = (match r with
    | .d _ => v
    | .n _ => (v.setWidth 16).signExtend 32
    | .sr => ((v &&& 0x1FF#32) ||| (c.sr.setWidth 32 &&& 0xFE00#32))
    | _ => (v.setWidth 16).setWidth 32)) ∧
  (regWritable r = true → q ≠ r → (c.writeReg r v).readReg cyc q = c.readReg cyc q)

/-- R210, R218, R219: MOV, LDI and ADDI to a register that is no data register write it under R210, set no flag of their
own, and change nothing else. `CYC` as a source counts the instruction that reads it (log entry 11). -/
def Obligations.RegisterMoves : Prop := ∀ (s : State) (k : CoreId) (rd ra : Reg) (imm : Word),
  let c := s.core k.c k.j
  c.Inside → regWritable rd = true →
  (s.ready k (.mov rd ra) → CoreAnswers (.mov k rd ra) s k (fun c' => ∃ n : Nat, 0 < n ∧ c'.cyc = c.cyc + BitVec.ofNat 32 n ∧
    (c.writeReg rd (c.readReg c'.cyc ra)).Keeps c' {})) ∧
  (s.ready k (.ldi rd imm) → CoreAnswers (.ldi k rd imm) s k (fun c' => (c.writeReg rd imm).Keeps c' {})) ∧
  ((∀ i, rd ≠ .d i) → s.ready k (.addi false rd imm) → CoreAnswers (.addi k false rd imm) s k (fun c' =>
    (c.writeReg rd (c.readReg c'.cyc rd + imm)).Keeps c' {}))

/-! ### Bundles (R205 to R217) -/

/-- R174, R175, R183, R213, R214: on every core that is ready and stands inside its program, MAC, MSU, MPY, MPYN and MACR complete,
in either slot, beside any other slot and any moves: `exec` answers the next state in which the core alone changed, with the exact
result of the product of the data registers as they stood before, brought to 72 bits under R183, in the accumulator, `GVn` set on
overflow, and all else as it was. Slot 1 starts from the accumulator that slot 0 leaves. MACR's overflow is judged on the rounded
result (log entry 90: the model's choice). -/
def Obligations.ProductSlots : Prop := ∀ (s : State) (k : CoreId) (slot : Fin 2) (sat : Bool) (an : Acc) (da db : DReg) (r : Beside),
  let c := s.core k.c k.j
  let p := product (c.getD da) (c.getD db)
  let gives (o : SlotOp) (z : BitVec 72 → Int) (c' : Core) : Prop :=
    let b := bundleOf slot o r
    let old := if slot = 1 then (macSlot c c none (bundleTap c b false) r.other).getA an else c.getA an
    c.SlotGives c' slot r b an (fun a => clip72 sat (z a)) ∧ (out72 (z old) = true → c'.flag (4 + an.val) = true) ∧
      c.Keeps c' (c.bundleTouch b)
  c.Inside →
  (s.ready k (.f1 (bundleOf slot (.mac sat an da db) r)) →
    ∃ c', exec (.mac k slot sat an da db r) s = .next (s.setCore k.c k.j c') ∧ gives (.mac sat an da db) (fun a => a.toInt + p) c') ∧
  (s.ready k (.f1 (bundleOf slot (.msu sat an da db) r)) →
    ∃ c', exec (.msu k slot sat an da db r) s = .next (s.setCore k.c k.j c') ∧ gives (.msu sat an da db) (fun a => a.toInt - p) c') ∧
  (s.ready k (.f1 (bundleOf slot (.mpy sat an da db) r)) →
    ∃ c', exec (.mpy k slot sat an da db r) s = .next (s.setCore k.c k.j c') ∧ gives (.mpy sat an da db) (fun _ => p) c') ∧
  (s.ready k (.f1 (bundleOf slot (.mpyn sat an da db) r)) →
    ∃ c', exec (.mpyn k slot sat an da db r) s = .next (s.setCore k.c k.j c') ∧ gives (.mpyn sat an da db) (fun _ => -p) c') ∧
  (s.ready k (.f1 (bundleOf slot (.macr sat an da db) r)) →
    ∃ c', exec (.macr k slot sat an da db r) s = .next (s.setCore k.c k.j c') ∧
      gives (.macr sat an da db) (fun a => roundShift (a.toInt + p) 32 * 2 ^ 32) c')

/-- R213, R214: ADDA and SUBA combine two accumulators, MOVA copies one, CLR clears one, and a slot NOP does nothing, in
either slot and beside anything; slot 1 sees the accumulator that slot 0 wrote. -/
def Obligations.AccumulatorSlots : Prop := ∀ (s : State) (k : CoreId) (slot : Fin 2) (sat : Bool) (an am : Acc) (r : Beside),
  let c := s.core k.c k.j
  let gives (o : SlotOp) (v : Bundle → BitVec 72 → BitVec 72) (c' : Core) : Prop :=
    let b := bundleOf slot o r
    c.SlotGives c' slot r b an (v b) ∧ c.Keeps c' (c.bundleTouch b)
  let m (b : Bundle) : Int := (c.slotSource slot r b am).toInt
  c.Inside →
  (s.ready k (.f1 (bundleOf slot (.adda sat an am) r)) →
    CoreAnswers (.adda k slot sat an am r) s k (gives (.adda sat an am) (fun b a => clip72 sat (a.toInt + m b)))) ∧
  (s.ready k (.f1 (bundleOf slot (.suba sat an am) r)) →
    CoreAnswers (.suba k slot sat an am r) s k (gives (.suba sat an am) (fun b a => clip72 sat (a.toInt - m b)))) ∧
  (s.ready k (.f1 (bundleOf slot (.mova an am) r)) →
    CoreAnswers (.mova k slot an am r) s k (gives (.mova an am) (fun b _ => c.slotSource slot r b am))) ∧
  (s.ready k (.f1 (bundleOf slot (.clr an) r)) → CoreAnswers (.clr k slot an r) s k (gives (.clr an) (fun _ _ => 0))) ∧
  (s.ready k (.f1 (bundleOf slot .nop r)) → CoreAnswers (.slotNop k slot r) s k (fun c' =>
    (slotDest r.other = none → ∀ n, c'.getA n = c.getA n) ∧ c.Keeps c' (c.bundleTouch (bundleOf slot .nop r))))

/-- R216, R217: an FTAP multiplies the words that its X and Y pointers address, adds the product to its accumulator, puts
the X word one place on (in the arithmetic of the pointer), and moves both pointers; it does so in either slot. -/
def Obligations.TapSlots : Prop := ∀ (s : State) (k : CoreId) (slot : Fin 2) (sat : Bool) (an : Acc) (r : Beside)
    (pa pb pc pd : Ptr) (mx my : Mod),
  let c := s.core k.c k.j
  let b := bundleOf slot (.ftap sat an) r
  let px := if slot = 0 then pa else pb
  let py := if slot = 0 then pc else pd
  let word := c.readX (wordAt (c.getP px))
  r.mv = .ftap pa pb mx pc pd my → c.Inside → s.ready k (.f1 b) →
  CoreAnswers (.ftap k slot sat an r) s k (fun c' =>
    c.SlotGives c' slot r b an (fun a => clip72 sat (a.toInt + product word (c.readY (wordAt (c.getP py))))) ∧
    c.Keeps c' (c.bundleTouch b) ∧
    (slot = 1 ∨ slotTap r.other = false ∨ c.tapNext pa ≠ c.tapNext pb → c'.readX (c.tapNext px) = word) ∧
    (slotTap r.other = false → px ≠ py → c'.getP px = c.modPtr px mx ∧ c'.getP py = c.modPtr py my))

/-- R165, R166, R172, R207, R211, R215: X_LOAD and Y_LOAD bring the word that a pointer addresses as it stood before the
bundle, X_STORE writes one, STY writes Y; each pointer then moves by its modify code, and no other word changes. Where both
moves load one register, or modify one pointer, the Y move's value stands; a code of no change modifies none. -/
def Obligations.MemoryMoves : Prop := ∀ (s : State) (k : CoreId) (dn : DReg) (px : Ptr) (m : Mod) (s0 s1 : SlotOp) (x : XMove) (y : YMove),
  let c := s.core k.c k.j
  let w := wordAt (c.getP px)
  let yPtr (i : Ptr) : Prop := ∃ d mm, y = .load d i mm ∧ mm ≠ .keep
  let xPtr (i : Ptr) : Prop := ∃ d mm, (x = .load d i mm ∨ x = .store d i mm) ∧ mm ≠ .keep
  let yDst (i : DReg) : Prop := ∃ p mm, y = .load i p mm
  c.Inside →
  (s.ready k (.f1 ⟨s0, s1, .normal (.load dn px m) y⟩) → CoreAnswers (.xLoad k dn px m s0 s1 y) s k (fun c' =>
    (¬ yDst dn → c'.getD dn = c.readX w) ∧ (¬ yPtr px → c'.getP px = c.modPtr px m) ∧
    c.Keeps c' (c.bundleTouch ⟨s0, s1, .normal (.load dn px m) y⟩))) ∧
  (s.ready k (.f1 ⟨s0, s1, .normal (.store dn px m) y⟩) → CoreAnswers (.xStore k dn px m s0 s1 y) s k (fun c' =>
    c'.readX w = c.getD dn ∧ (∀ n, n ≠ w → c'.readX n = c.readX n) ∧ (¬ yPtr px → c'.getP px = c.modPtr px m) ∧
    c.Keeps c' (c.bundleTouch ⟨s0, s1, .normal (.store dn px m) y⟩))) ∧
  (s.ready k (.f1 ⟨s0, s1, .normal x (.load dn px m)⟩) → CoreAnswers (.yLoad k dn px m s0 s1 x) s k (fun c' =>
    c'.getD dn = c.readY w ∧ (m ≠ .keep ∨ ¬ xPtr px → c'.getP px = c.modPtr px m) ∧
    (∀ d mm, x = .load d px mm ∨ x = .store d px mm → m = .keep → c'.getP px = c.modPtr px mm) ∧
    c.Keeps c' (c.bundleTouch ⟨s0, s1, .normal x (.load dn px m)⟩))) ∧
  (s.ready k (.sty px dn m) → CoreAnswers (.sty k px dn m) s k (fun c' =>
    c'.readY w = c.getD dn ∧ c'.getP px = c.modPtr px m ∧ c.Keeps c' { p := [px], y := [w] }))

/-- R172, R211: the codes 0 to 3 name no change and a step of +1, of −1 and of the `N` register of the same pointer; where
its `L` register is 0 the pointer wraps at 16 bits, and otherwise a step leaves it in the `min(L, 32768)` places from `B`
on. -/
def Obligations.PointersMove : Prop := ∀ (c : Core) (i : Ptr) (p l b : BitVec 16) (n : Int),
  (c.modPtr i (modOf 0) = c.getP i ∧
    c.modPtr i (modOf 1) = stepPtr (c.getP i) (c.l.get i) (c.b.get i) 1 ∧
    c.modPtr i (modOf 2) = stepPtr (c.getP i) (c.l.get i) (c.b.get i) (-1) ∧
    c.modPtr i (modOf 3) = stepPtr (c.getP i) (c.l.get i) (c.b.get i) (c.n.get i).toInt) ∧
  (l = 0 → ((stepPtr p l b n).toNat : Int) = (p.toNat + n) % 65536) ∧
  (l ≠ 0 → ∃ q : Nat, q < min l.toNat 32768 ∧ (q : Int) = ((p.toNat : Int) - b.toNat + n) % (min l.toNat 32768 : Nat) ∧
    (stepPtr p l b n).toNat = (b.toNat + q) % 65536)

/-! ### Program flow (R189, R223 to R227) -/

/-- R212, R218, R225: JMP, CALL, RET and LEAVE go where they say when their condition holds and to the next instruction
when it does not; CALL saves the address after it, RET takes the newest one off, LEAVE closes the innermost loop. None
touches data. -/
def Obligations.BranchesGo : Prop := ∀ (s : State) (k : CoreId) (cc : Cond) (tgt : BitVec 13),
  let c := s.core k.c k.j
  let passes (c' : Core) : Prop := c.holds cc = false → c.MovesOn c'
  c.Inside →
  (s.ready k (.jmp cc tgt) → CoreAnswers (.jmp k cc tgt) s k (fun c' => c.KeepsData c' {} ∧ passes c' ∧
    (c.holds cc = true → c'.pc = tgt ∧ c'.ret = c.ret ∧ c.KeepsLoops c'))) ∧
  (s.ready k (.call cc tgt) → (c.holds cc = true → c.ret.length < 16) → CoreAnswers (.call k cc tgt) s k (fun c' =>
    c.KeepsData c' {} ∧ passes c' ∧
    (c.holds cc = true → c'.pc = tgt ∧ c'.ret = (c.pc + 1) :: c.ret ∧ c.KeepsLoops c'))) ∧
  (s.ready k (.ret cc) → (c.holds cc = true → c.ret ≠ []) → CoreAnswers (.ret k cc) s k (fun c' =>
    c.KeepsData c' {} ∧ passes c' ∧
    (c.holds cc = true → c.ret = c'.pc :: c'.ret ∧ c.KeepsLoops c'))) ∧
  (s.ready k (.leave cc) → CoreAnswers (.leave k cc) s k (fun c' => c.KeepsData c' {} ∧ passes c' ∧
    (c.holds cc = true → ∀ st en rest, c.loops = (st, en) :: rest →
      c'.pc.toNat = en + 1 ∧ c'.loops = rest ∧ c'.lc = c.lc ∧ c'.ret = c.ret ∧ c.ShowsLoops c')))

/-- R223: LOOP and LOOPV open a loop over the next instructions at the level that is free, with the count in its loop
counter; with a count of 0 they go past the body. -/
def Obligations.LoopsOpen : Prop := ∀ (s : State) (k : CoreId) (count : BitVec 16) (dn : DReg) (body : BitVec 13),
  let c := s.core k.c k.j
  let lv : Fin 4 := Fin.ofNat 4 c.loops.length
  let opens (n : BitVec 16) (c' : Core) : Prop := c.KeepsData c' {} ∧ c'.ret = c.ret ∧
    (n = 0 → c'.pc.toNat = c.pc.toNat + body.toNat + 1 ∧ c.KeepsLoops c') ∧
    (n ≠ 0 → c'.pc = c.pc + 1 ∧ c'.loops = (c.pc.toNat + 1, c.pc.toNat + body.toNat) :: c.loops ∧
      c'.lc.get lv = n ∧ (∀ i, i ≠ lv → c'.lc.get i = c.lc.get i) ∧ c.ShowsLoops c')
  c.loops.length < 4 → c.pc.toNat + body.toNat + 1 < 8192 →
  (s.ready k (.loop count body) → CoreAnswers (.loop k count body) s k (opens count)) ∧
  (s.ready k (.loopv dn body) → CoreAnswers (.loopv k dn body) s k (opens ((c.getD dn).setWidth 16)))

/-- R51, R171, R218, R227: a NOP takes a cycle and goes on; END ends the job that runs: its 32 pointer registers stand in its
context block, halfwords in pairs, its cycles are recorded for the round, an open number of them spent waiting (log entry 3), and the
core runs no job. -/
def Obligations.NopAndEnd : Prop := ∀ (s : State) (k : CoreId) (pos : Nat) (jb : Job),
  let c := s.core k.c k.j
  (c.Inside → s.ready k .nop → CoreAnswers (.nop k (encodeDsp .nop)) s k (fun c' => c.Keeps c' {})) ∧
  (s.ready k .endJob → c.run = none → CoreAnswers (.endJob k) s k (fun c' => c.KeepsData c' {} ∧ c'.pc = c.pc)) ∧
  (s.ready k .endJob → c.run = some pos → s.jobAt k.c (c.service k.j) pos = some jb →
    ∃ u, exec (.endJob k) s = .next u ∧ (u.core k.c k.j).run = none ∧ (u.core k.c k.j).ended = pos :: c.ended ∧
      (∀ i, i < 16 → (u.core k.c k.j).readX ((jb.xAt + i) % 32768) = (pairWords c.contextWords).getD i 0) ∧
      (u.core k.c k.j).d = c.d ∧ (u.core k.c k.j).a = c.a ∧ (u.core k.c k.j).y = c.y ∧
      ∃ wait, Tab.get 0 (u.core k.c k.j).used pos = c.now + 17 + wait)

/-- R189 to R191: a reserved word, a fifth loop, a call with 16 return addresses, a return without one and a step past the
program each halt the job that runs, with the cause and PC in its objects; the core audits next, and the job's registers
and memories stay but for its outputs, which are zero. Stated for a service core. R181: an instruction that would touch a
word that a transfer locks waits: nothing changes. -/
def Obligations.ExceptionsHaltAndLocksWait : Prop := ∀ (s : State) (k : CoreId) (pos : Nat) (w : DspWord) (n : BitVec 16) (body tgt : BitVec 13)
    (i : Instr) (d : DspInsn),
  let c := s.core k.c k.j
  let halts (code : Nat) (u : State) : Prop :=
    (u.core k.c k.j).run = none ∧ (u.core k.c k.j).halted = pos :: c.halted ∧ (u.core k.c k.j).d = c.d ∧
    (u.core k.c k.j).a = c.a ∧ (u.core k.c k.j).y = c.y ∧
    u.nat (El.jobState k.c k.j pos) = 2 ∧ u.nat (El.jobException k.c k.j pos) = code ∧
    u.nat (El.jobExcPc k.c k.j pos) = c.pc.toNat ∧
    u.nat (El.coreExceptions k.c k.j) = min (s.nat (El.coreExceptions k.c k.j) + 1) (2 ^ 32 - 1) ∧
    (u.cluster k.c).auditNext = some k.j.val
  (dspOf i = some (k, d) → s.waits k.c k.j c d = true → exec i s = .next s) ∧
  (k.j ≠ 8 → c.run = some pos → s.clusterUp k.c = true →
    (decodeDsp w = none → ∃ u, exec (.nop k w) s = .next u ∧ halts 1 u) ∧
    (4 ≤ c.loops.length → ∃ u, exec (.loop k n body) s = .next u ∧ halts 2 u) ∧
    (16 ≤ c.ret.length → ∃ u, exec (.call k .al tgt) s = .next u ∧ halts 3 u) ∧
    (c.ret = [] → ∃ u, exec (.ret k .al) s = .next u ∧ halts 3 u) ∧
    (c.loops = [] → c.pc.toNat = 8191 → ∃ u, exec (.nop k (encodeDsp .nop)) s = .next u ∧ halts 4 u))

/-- Every command of a DSP core keeps every core sound (R164, R169, R189, R223): open loops and return addresses within
their bounds, `LD` the count of loops, reserved bits of SR 0, and memories in their canonical form. -/
def Obligations.CoresStaySound : Prop := ∀ (i : Instr) (s u : State) (k : CoreId) (rest : List Instr),
  ((∃ d, dspOf i = some (k, d)) ∨ ∃ w, i = .nop k w) → s.pending = i :: rest → s.CoresSound → step s = .next u → u.CoresSound

/-! ### The queue, reset, and words -/

/-- A step takes the command at the front of the queue and is that command's effect on the state with the queue's rest; with
no command waiting the block idles (log entry 2: the model's choice). -/
def Obligations.StepRunsFront : Prop := ∀ (c : Instr) (rest : List Instr) (s : State),
  (s.pending = c :: rest → step s = exec c { s with pending := rest }) ∧ (s.pending = [] → step s = .next s)

/-- R244, R532, R536, R549: after reset the engine is in BOOT, every element reads its default, no session, envelope, change
or key stands, no command waits, memory lists nothing, and every core is sound. What a core holds before its domain first
powers up is the model's (log entry 6), and that unwritten memory reads 0 (log entry 78). -/
def Obligations.ResetStands : Prop :=
  State.reset.mode = 2 ∧ (∀ a, State.reset.val a = defaultVal .ivm7424 a) ∧ State.reset.pending = [] ∧
  State.reset.bop.sessions = [] ∧ State.reset.disp.changes = [] ∧ State.reset.disp.envs = [] ∧
  State.reset.dictWf = true ∧ State.reset.memWf = true ∧ State.reset.CoresSound

/-! ### Commands that write an element: counters and logs -/

/-- R52, R158, R200, R247, R251, R286, R361, R362, R501: a clear of scheduling, Dispatcher, cluster, disagreement, log, BOP, stream or
twin counters sets each of them to 0, empties the log, and changes no other element; that of the Dispatcher waits for its
effective sample while rounds run. -/
def Obligations.CountersClear : Prop := ∀ (s : State) (t : Nat) (w : Who) (c i : Nat),
  let clears (x : Instr) (a : Nat) (l : List Nat) : Prop := Writes x s t w a (.int 1) (fun b u => b.Sets u (toZero l))
  clears (.schedClear t w) El.schedClear [El.lagMax, El.lateRounds, El.repeatedSmp, El.shedRounds, El.catchups] ∧
  ((s.advance t).roundsRun = false → clears (.dispClear t w) El.dispClear
    [El.dispPendingMax, El.dispLate, El.dispRefusedPast, El.dispWithdrawn, El.dispMoved, El.envDiscarded]) ∧
  (c < 8 → clears (.clClear t w c) (El.clClear c) (clusterCounters c)) ∧
  clears (.disagreeClear t w) El.disagreeClear [El.disagreeCount] ∧
  Writes (.logClear t w) s t w El.logClear (.int 1) (fun b u => u.bop.log = [] ∧ ∀ a, u.val a = b.val a) ∧
  clears (.bopClear t w) El.bopClear [El.bopTagFails, El.bopStale, El.bopBad, El.bopBusy, El.bopForeign] ∧
  (i < 512 → clears (.rxClear t w i) (El.rxClear i) (rxCounters i)) ∧
  (i < 512 → clears (.txClear t w i) (El.txClear i) [El.txPacketsA i, El.txPacketsB i]) ∧
  clears (.twClear t w) El.twClear [El.twTakeovers, El.twMismatches]

/-- R319, R323, R358, R360, R392, R469, R473, R563: a clear of a port's, group's, link's or memory's counters sets each of them to 0,
a threshold returns to 256, the largest temperature and power become the present ones, and no other element changes. -/
def Obligations.UnitCountersClear : Prop := ∀ (s : State) (t : Nat) (w : Who) (p r : Nat),
  let clears (x : Instr) (a : Nat) (l : List Nat) : Prop := Writes x s t w a (.int 1) (fun b u => b.Sets u (toZero l))
  (p < 24 → clears (.spClear t w p) (El.spClear p) [El.spSlips p, El.spErrors p]) ∧
  (p < 32 → clears (.agClear t w p) (El.agClear p) [El.agLocks p, El.agUnlocks p]) ∧
  (p < 3 → clears (.portClear t w p) (El.portClear p) (portCounters p)) ∧
  (p < 3 → r < 64 → Writes (.txrThresholdReset t w p r) s t w (El.txrThresholdReset p r) (.int 1) (fun b u =>
    b.Sets u [(El.txrThreshold p r, .int 256)])) ∧
  (p < 4 → clears (.clClearLink t w p) (El.lkClear p) [El.lkCrcErr p, El.lkLate p, El.lkTunnelDrops p]) ∧
  clears (.dramClear t w) El.dramClear ((List.range 4).flatMap dcCounters) ∧
  clears (.sramClear t w) El.sramClear [El.bistRegions, El.sramCe, El.fabDecodeErr, El.fabDenied] ∧
  Writes (.thClear t w) s t w El.thClear (.int 1) (fun b u => u.int El.dieTempMax = u.int El.dieTemp ∧
    u.nat El.pwrEstMax = u.nat El.pwrEst ∧
    ∀ a, a ∉ [El.dieTemp, El.dieTempMax, El.pwrEst, El.pwrEstMax] → u.val a = b.val a)

/-! ### Commands that write an element: audio and power stages -/

/-- R75, R76, R81, R85, R109, R111, R116, R130, R137, R139, R262: where no rounds run, a write of the Sorting Office, of a crosspoint, a
strip, a meter or a loudness meter takes effect at once, as a value, with no ramp. -/
def Obligations.AudioWritesApply : Prop := ∀ (s : State) (t : Nat) (w : Who) (p d n v l : Nat) (bus : Bool) (sig g : Word) (a : Word) (x : Val),
  let b := s.advance t
  b.roundsRun = false →
  (p < 2048 → Writes (.srcSignal t w p sig) s t w (El.srcSignal p) (.int sig.toNat) (fun b u =>
    b.Sets u [(El.srcSignal p, .int sig.toNat)])) ∧
  (d < 1024 → Writes (.dstTarget t w d sig) s t w (El.dstTarget d) (.int sig.toNat) (fun b u =>
    b.Sets u [(El.dstTarget d, .int sig.toNat)])) ∧
  (d < 1024 → Writes (.dstPass t w d v) s t w (El.dstPass d) (.int v) (fun b u => b.Sets u [(El.dstPass d, .int v)])) ∧
  (p < 2048 → d < 1024 → Writes (.xpGain t w p d g) s t w (El.xpGain p d) (.int g.toInt) (fun b u =>
    u.int (El.xpGain p d) = g.toInt ∧ Tab.get 0 u.mix.inEffect (El.xpGain p d) = g.toInt ∧
    (u.xramp (El.xpGain p d)).moving = false ∧ ∀ y, y ≠ El.xpGain p d → u.val y = b.val y)) ∧
  (n < 1024 → Writes (.stProgram t w bus n v) s t w (El.stProgram bus n) (.int v) (fun b u => u.nat (El.stProgram bus n) = v ∧
    (∀ e, e < 0xF8 → e ∉ [0, 1, 2, 3, 0x44] →
      u.val (addrOf (stripArea bus) n e) = defaultVal b.variant (addrOf (stripArea bus) n e)) ∧
    ∀ y, ¬ (areaOf y = stripArea bus ∧ (objectOf y = n ∨ objectOf y = n + 1)) → u.val y = b.val y)) ∧
  (n < 1024 → Writes (.stOutPh t w bus n v) s t w (El.stOutPh bus n) (.int v) (fun b u =>
    b.Sets u [(El.srcSignal v, .int (sigStrip bus n))])) ∧
  (l < 256 → Writes (.ldStart t w l) s t w (El.ldRun l) (.int 1) (fun b u => b.Sets u [(El.ldRun l, .int 1)])) ∧
  (l < 256 → Writes (.ldStop t w l) s t w (El.ldRun l) (.int 0) (fun b u => b.Sets u [(El.ldRun l, .int 0)])) ∧
  (l < 256 → Writes (.ldReset t w l) s t w (El.ldRun l) (.int 2) (fun _ u => u.nat (El.ldRun l) = 0 ∧
    u.int (El.ldMomentary l) = minusInf ∧ u.int (El.ldShort l) = minusInf ∧ u.int (El.ldIntegrated l) = minusInf ∧
    u.nat (El.ldRange l) = 0 ∧ u.int (El.ldTpMax l) = minusInf ∧ u.nat (El.ldTime l) = 0)) ∧
  (p < 0xC00 → Writes (.mClear t w p) s t w (El.mClear p) (.int 1) (fun b u => u.int (El.mHold p) = minusInf ∧
    u.nat (El.mClips p) = 0 ∧ ∀ y, y ≠ El.mHold p → y ≠ El.mClips p → u.val y = b.val y)) ∧
  Writes (.soClear t w) s t w El.soClear (.int 1) (fun b u => b.Sets u (toZero [El.rdInUseMax, El.rdRefusals])) ∧
  ((areaOf a.toNat = 0x00 ∨ areaOf a.toNat = 0x1F ∨ (isStrip a.toNat = true ∧ elementOf a.toNat ∉ [1, 2, 3, 0x44])) →
    Writes (.writeElement t w a x) s t w a.toNat x (fun b u => b.Sets u [(a.toNat, x)]))

/-- R47, R133, R139, R262: while rounds run, a write of an audio element, of a power stage, of the Dispatcher or of an image activation that finds room is answered with its
effective sample, the one of R47 or, where a morph of its stage is in the way, a later one, and waits for it as a committed
change: until then no element outside the Dispatcher's own reads differently. -/
def Obligations.WritesWait : Prop := ∀ (s : State) (t : Nat) (w : Who) (p d n v c : Nat) (bus : Bool) (sig g a : Word) (x : Val) (resv : List Resv),
  let b := s.advance t
  let waits (i : Instr) (y : Nat) (z : Val) : Prop :=
    let q := b.shapeOf [] none y z
    let eff := b.clearSample [q] b.effective (isDirect y)
    b.Takes w y z → isDelayed y = true → (areaOf y = 0x1D → z.toNat = 1) →
    reserveAll b.mix.resv b.roundB eff b.disp.nextId [q] = .ok resv →
    ∃ (u : State) (ch : Change), exec i s = .next (u.sendAnswer w (okRec (writeRec w y z) (typeOf y) (leBytes 8 eff))) ∧ b.effective ≤ eff ∧
      u.disp.changes = b.disp.changes ++ [ch] ∧ ch.eff = eff ∧ ch.committed = true ∧ ch.writes = [q] ∧ q.addr = y ∧ q.val = z ∧
      ∀ k, areaOf k ≠ 0x1C → u.val k = b.val k
  b.roundsRun = true →
  waits (.srcSignal t w p sig) (El.srcSignal p) (.int sig.toNat) ∧ waits (.dstTarget t w d sig) (El.dstTarget d) (.int sig.toNat) ∧
  waits (.dstPass t w d v) (El.dstPass d) (.int v) ∧ waits (.xpGain t w p d g) (El.xpGain p d) (.int g.toInt) ∧
  waits (.stOutPh t w bus n v) (El.stOutPh bus n) (.int v) ∧
  waits (.ldStart t w n) (El.ldRun n) (.int 1) ∧ waits (.ldStop t w n) (El.ldRun n) (.int 0) ∧
  waits (.ldReset t w n) (El.ldRun n) (.int 2) ∧ waits (.mClear t w n) (El.mClear n) (.int 1) ∧
  waits (.soClear t w) El.soClear (.int 1) ∧ waits (.pscOn t w n v) (El.pscOn n) (.int v) ∧
  waits (.pscTest t w n) (El.pscTest n) (.int 1) ∧ waits (.pscUnlatch t w n) (El.pscUnlatch n) (.int 1) ∧
  waits (.pscClear t w n) (El.pscClear n) (.int 1) ∧ waits (.dispClear t w) El.dispClear (.int 1) ∧ waits (.imgActivate t w c) (El.imgActivate c) (.int 1) ∧
  waits (.writeElement t w a x) a.toNat x

/-- R517, R521, R529: where no rounds run, a write of 1 to `psc_on` of a channel that nothing holds leaves it 1, a write of 0 leaves the channel
off with nothing pending, `psc_unlatch` releases a latched channel, and `psc_clear` clears its two counters. A write of 0 releases
no latch. -/
def Obligations.PowerStageWrites : Prop := ∀ (s : State) (t : Nat) (w : Who) (n : Nat),
  let b := s.advance t
  let off (u : State) : Prop := u.nat (El.pscOn n) = 0 ∧ (u.pscCh n).step = 0 ∧ (u.pscCh n).shut = 0 ∧ (u.pscCh n).nextRetry = none ∧
    u.nat (El.pscState n) = 0
  b.roundsRun = false → b.followsPsc = false → n < 32 →
  ((b.pscCh n).shut = 0 → b.nat (El.pscOn n) = 0 →
    Writes (.pscOn t w n 1) s t w (El.pscOn n) (.int 1) (fun _ u => u.nat (El.pscOn n) = 1 ∧ (u.pscCh n).step = (b.pscCh n).step)) ∧
  ((b.pscCh n).shut ≠ 2 → Writes (.pscOn t w n 0) s t w (El.pscOn n) (.int 0) (fun _ u => off u)) ∧
  ((b.pscCh n).shut = 2 → Writes (.pscOn t w n 0) s t w (El.pscOn n) (.int 0) (fun _ u =>
    u.nat (El.pscOn n) = 0 ∧ (u.pscCh n).shut = 2 ∧ u.nat (El.pscState n) = 5)) ∧
  ((b.pscCh n).shut = 2 → Writes (.pscUnlatch t w n) s t w (El.pscUnlatch n) (.int 1) (fun _ u => off u)) ∧
  Writes (.pscClear t w n) s t w (El.pscClear n) (.int 1) (fun b u => b.Sets u (toZero [El.pscCutCycles n, El.pscShutdowns n]))

/-! ### Commands that write an element: ports and streams -/

/-- R297, R303, R304, R307, R312, R321, R324: what a write to a serial port, to the start trigger, to a ring or to a
rate-converter group does at once. A mask or gate goes to the shadow; a new `sp_apply_at` loses no shadow write; a ring
restarts with both indices 0; a changed group reacquires. -/
def Obligations.SerialWritesApply : Prop := ∀ (s : State) (t : Nat) (w : Who) (p v r g : Nat) (e : Fin 4) (x : Word) (bandwidth : Bool),
  let m := addrOf 0x08 p ([0x0A, 0x0B, 0x0D, 0x0E].getD e.val 0)
  let ag := if bandwidth then El.agBandwidth g else El.agSource g
  let ring (i : Instr) (k : Nat) : Prop := Writes i s t w (El.ringRun r) (.int k) (fun b u =>
    u.nat (El.ringRun r) = k ∧ u.nat (El.ringState r) = 0 ∧ (k ≠ 0 → u.nat (El.ringWr r) = 0 ∧ u.nat (El.ringRd r) = 0) ∧
    ∀ y, y ∉ [El.ringRun r, El.ringState r, El.ringWr r, El.ringRd r] → u.val y = b.val y)
  p < 24 → r < 256 → g < 32 →
  Writes (.spEnable t w p v) s t w (El.spEnable p) (.int v) (fun _ u => u.nat (El.spEnable p) = v ∧
    (v = 0 → u.nat (El.spState p) = 0 ∧ (u.sapPort p).locked = false ∧ (u.sapPort p).driven = [])) ∧
  Writes (.shadowWrite t w p e x) s t w m (.int x.toNat) (fun b u => u.nat m = x.toNat ∧
    (u.sapPort p).writes = (b.sapPort p).writes ++ [(b.governs p, elementOf m, x.toNat)] ∧
    (u.sapPort p).cut = (b.sapPort p).cut ∧ ∀ y, y ≠ m → u.val y = b.val y) ∧
  Writes (.spApplyAt t w p v) s t w (El.spApplyAt p) (.int v) (fun b u => u.nat (El.spApplyAt p) = v ∧
    (u.sapPort p).cut.length + (u.sapPort p).writes.length = (b.sapPort p).cut.length + (b.sapPort p).writes.length ∧
    ∀ y, y ≠ El.spApplyAt p → u.val y = b.val y) ∧
  Writes (.sapStartArm t w) s t w El.sapStartArm (.int 1) (fun b u => u.nat El.sapStartState = 1 ∧ u.sap.edgeAt = none ∧
    ∀ y, y ≠ El.sapStartState → u.val y = b.val y) ∧
  Writes (.sapStartDisarm t w) s t w El.sapStartArm (.int 0) (fun b u =>
    u.nat El.sapStartState = (if b.nat El.sapStartState = 1 then 0 else b.nat El.sapStartState) ∧
    ∀ y, y ≠ El.sapStartState → u.val y = b.val y) ∧
  ring (.ringStop t w r) 0 ∧ ring (.ringStart t w r) 1 ∧ ring (.ringStartWithTrigger t w r) 2 ∧
  Writes (.agSource t w g bandwidth v) s t w ag (.int v) (fun b u => u.nat ag = v ∧
    (if b.roundsRun then g ∈ u.sap.asrcReset else u.nat (El.agState g) = 1))

/-- R346, R354, R361, R362: an enabled receive stream waits for packets; a disabled one holds none. An enabled transmit stream sends its
first packet at the first multiple of P at or after the effective sample; `tx_state` tells whether the engine drives. -/
def Obligations.StreamWritesApply : Prop := ∀ (s : State) (t : Nat) (w : Who) (i : Nat),
  let b := s.advance t
  i < 512 →
  (b.on (El.rxEnable i) = false → Writes (.rxEnable t w i 1) s t w (El.rxEnable i) (.int 1) (fun _ u =>
    u.nat (El.rxEnable i) = 1 ∧ u.nat (El.rxState i) = 1 ∧ Tab.get RxStream.fresh u.net.rx i = RxStream.fresh)) ∧
  Writes (.rxEnable t w i 0) s t w (El.rxEnable i) (.int 0) (fun _ u =>
    u.nat (El.rxEnable i) = 0 ∧ u.nat (El.rxState i) = 0 ∧ Tab.get RxStream.fresh u.net.rx i = RxStream.fresh) ∧
  (b.on (El.txEnable i) = false → Writes (.txEnable t w i 1) s t w (El.txEnable i) (.int 1) (fun b u =>
    u.nat (El.txEnable i) = 1 ∧ u.nat (El.txState i) = (if b.drives then 1 else 2) ∧
    Tab.get 0 u.net.txNext i = ceilDiv b.reported (b.txP i))) ∧
  Writes (.txEnable t w i 0) s t w (El.txEnable i) (.int 0) (fun _ u =>
    u.nat (El.txEnable i) = 0 ∧ u.nat (El.txState i) = 0 ∧ u.nat (El.txWireRate i) = 0)

/-! ### Commands that write an element: system -/

/-- R265, R397, R398, R410, R440, R497, R500, R535: a slot takes its role, and a write to a slot ends the sessions of that slot; PTP time is
set; a profile brings its defaults; a written priority table reselects where it has to; the engine segments, the rank, and a
new attempt at resync stand at once; a power request waits for its boundary while rounds run. -/
def Obligations.SystemWritesApply : Prop := ∀ (s : State) (t : Nat) (w : Who) (slot v i : Nat),
  let b := s.advance t
  let p := profileDefaults v
  (slot < 32 → Writes (.keyRole t w slot v) s t w (El.keyRole slot) (.int v) (fun b u => u.nat (El.keyRole slot) = v ∧
    (Tab.wf (fun _ => none) b.bop.sessions = true →
      ∀ n x, b.session n = some x → x.slot = slot → u.session n = none))) ∧
  Writes (.timeSet t w v) s t w El.timeSet (.int v) (fun b u => u.time.clk = nsOfTime80 v * 65536 ∧ ∀ y, u.val y = b.val y) ∧
  Writes (.ptpProfile t w v) s t w El.ptpProfile (.int v) (fun _ u => u.nat El.ptpProfile = v ∧ u.nat El.ptpDomain = p.1 ∧
    ∀ k, k < 3 → u.int (El.ptpLogSync k) = p.2.1 ∧ u.int (El.ptpLogAnnounce k) = p.2.2.1 ∧
      u.int (El.ptpLogDelay k) = p.2.2.2.1 ∧ u.nat (El.ptpAnnounceTo k) = p.2.2.2.2) ∧
  (i < 8 → Writes (.refPrioWrite t w i v) s t w (El.refPrio i) (.int v) (fun b u => u.nat (El.refPrio i) = v ∧
    let q := b.setN (El.refPrio i) v
    ∀ c, (q.partnerLeads = false ∨ b.nat El.refSelected ≠ 0x43) → (b.nat El.refSelected = 0 ∨ q.prioTable.contains (b.nat El.refSelected) = false) → q.firstQualified = some c →
      u.nat El.refSelected = c)) ∧
  Writes (.dramEngineSegs t w v) s t w El.dramEngineSegs (.int v) (fun b u => u.nat El.dramEngineSegs = v ∧
    u.nat El.dramRetain = engineMask v ∧ u.mem.mapDirty = true ∧ (b.nat El.dramUserSize ≠ 0 → u.nat El.dramUserSize = u.userSize)) ∧
  (i < 20 → Writes (.pdOn t w i v) s t w (El.pdOn i) (.int v) (fun b u => u.nat (El.pdOn i) = v ∧
    (b.roundsRun = true → u.nat (El.pdState i) = b.nat (El.pdState i) ∧
      ((i, v == 1) ∈ u.sys.pdWait ↔ ¬ ((v == 1) = (b.nat (El.pdState i) != 0)))) ∧
    (b.roundsRun = false → v = 1 → b.nat (El.pdState i) = 0 → b.upWaits i = false → b.sys.pdWait = [] → u.nat (El.pdState i) = 1))) ∧
  Writes (.twRank t w v) s t w El.twRank (.int v) (fun b u => b.Sets u [(El.twRank, .int v)]) ∧
  (b.mode = 8 → b.nat El.twRole = 2 ∨ b.nat El.twRole = 6 → Writes (.twResync t w) s t w El.twResync (.int 1) (fun _ u =>
    u.nat El.twRole = 2 ∧ u.nat El.twResyncAttempts = 1 ∧ u.twin.resyncStep = 1 ∧ u.twin.verified = 0 ∧ u.twin.bulk = []))

/-- R126, R146, R195, R197, R198, R200, R237, R239: what a write to a cluster, a core or a job does, and a cancellation. Audits that
a write stops go on to the next boundary while rounds run.
`core_retire` makes the core the one that a takeover retires, `core_restore` removes its repair, an activation with no rounds
loads the staged image, and a cancelled change leaves its slot. -/
def Obligations.ClusterWritesApply : Prop := ∀ (s : State) (t : Nat) (w : Who) (k : CoreId) (c v j pos i : Nat),
  let b := s.advance t
  Writes (.coreRetire t w k) s t w (El.coreRetire k.c k.j) (.int 1) (fun b u =>
    (u.cluster k.c).forced = some k.j.val ∧ ∀ y, u.val y = b.val y) ∧
  Writes (.coreRestore t w k) s t w (El.coreRestore k.c k.j) (.int 1) (fun b u =>
    u.flash.repair = b.flash.repair.filter (fun r => r ≠ .core k.c k.j) ∧ ∀ y, u.val y = b.val y) ∧
  (c < 8 → Writes (.clAuditEnable t w c v) s t w (El.clAuditEnable c) (.int v) (fun b u => u.nat (El.clAuditEnable c) = v ∧
    (b.nat (El.clReliefState c) ≤ 1 → u.nat (El.clReliefState c) =
      if v ≠ 0 then 0 else if b.roundsRun then b.nat (El.clReliefState c) else 1))) ∧
  (c < 8 → j < 8 → pos < 64 → Writes (.jobClear t w c j pos) s t w (El.jobClear c j pos) (.int 1) (fun _ u =>
    u.nat (El.jobCyclesMax c j pos) = 0 ∧ u.nat (El.jobOverflowRounds c j pos) = 0)) ∧
  (c < 8 → b.roundsRun = false → ∀ im, b.staged c = some im →
    Writes (.imgActivate t w c) s t w (El.imgActivate c) (.int 1) (fun _ u => (u.cluster c).image = some im ∧
      (u.cluster c).loading = false ∧ u.nat (El.imgState c) = 2 ∧ u.nat (El.imgActiveCrc c) = im.crc)) ∧
  (i < 256 → ∀ ch, b.inSlot i = some ch → ch.committed = false →
    Writes (.pendCancel t w i) s t w (El.pendCancel i) (.int 1) (fun b u => (∀ x ∈ u.disp.changes, x.id ≠ ch.id) ∧ i ∈ u.disp.freed ∧
      u.nat El.dispWithdrawn = min (b.nat El.dispWithdrawn + 1) (2 ^ 32 - 1)))

/-! ### Modes, settings, update and security -/

/-- R532, R533, R536, R540, R562: a mode request changes the mode as it names, and a reset request runs BOOT with cause 3, with the keys
and the flash as they were, but for a save of the settings that it may cut short. A run request with `tw_enable` 1 begins joining. -/
def Obligations.ModeRequestsGo : Prop := ∀ (s : State) (t : Nat) (w : Who),
  let b := s.advance t
  let asks (i : Instr) (v : Nat) (p : State → Prop) : Prop := Writes i s t w El.modeRequest (.int v) (fun _ u => p u)
  asks (.requestDormant t w) 1 (fun u => u.mode = 1 ∧ u.bop.sessions = [] ∧ u.disp.changes = []) ∧
  asks (.requestConfigure t w) 4 (fun u => u.mode = 4) ∧
  (b.on El.twEnable = false → asks (.requestRun t w) 5 (fun u => u.mode = 5)) ∧
  (b.on El.twEnable = true → asks (.requestRun t w) 5 (fun u => u.mode = 8 ∧ u.nat El.twRole = 1)) ∧
  asks (.requestService t w) 10 (fun u => u.mode = 10) ∧
  Writes (.resetRequest t w) s t w El.resetRequest (.int 1) (fun b u => u.mode = 2 ∧ u.nat El.resetCause = 3 ∧
    u.nat El.modePrev = b.mode ∧ b.KeepsFlash u ∧ u.bop.keys = b.bop.keys ∧ u.pending = b.pending)

/-- R544, R545, R550 to R555, R558: a save stands in the settings copies with all that differs from its default; a factory reset posts
SETTINGS_RESET; verification, activation, confirmation and abort of an update set its state; the two one-way fuses blow. -/
def Obligations.FlashCommandsAct : Prop := ∀ (s : State) (t : Nat) (w : Who),
  let b := s.advance t
  let acts (i : Instr) (a : Nat) (p : State → State → Prop) : Prop := Writes i s t w a (.int 1) p
  acts (.settingsSave t w) El.settingsSave (fun b u => u.sys.settingsDirty = false ∧ ∃ c rest, u.flash.settings = c :: rest ∧
    c.valid = true ∧ c.vals = b.settings ∧ u.nat El.settingsSeq = c.seq) ∧
  acts (.settingsFactory t w) El.settingsFactory (fun _ u => ∃ n, u.bop.log.getLast? = some n ∧ n.code = nSettingsReset ∧
    n.params.getD 0 0 = 3) ∧
  acts (.updVerify t w) El.updVerify (fun b u => b.Sets u [(El.updState, .int 3)]) ∧
  (b.mode = 5 → acts (.updActivate t w) El.updActivate (fun _ u => u.mode = 5 ∧ u.sys.actStep = 1 ∧ u.sys.actFrom = 5)) ∧
  (b.mode ≠ 5 → acts (.updActivate t w) El.updActivate (fun b u => u.mode = 9 ∧ u.sys.actStep = 2 ∧ u.sys.actFrom = b.mode)) ∧
  acts (.updConfirm t w) El.updConfirm (fun b u => u.nat El.updState = 0 ∧ u.nat El.rollbackCount = u.flash.fuses ∧
    b.flash.fuses ≤ u.flash.fuses) ∧
  acts (.updAbort t w) El.updAbort (fun b u => b.Sets u [(El.updState, .int 0)]) ∧
  acts (.secOwnerReq t w) El.secOwnerReq (fun _ u => u.flash.ownerReq = true ∧ bitOf (u.nat El.secFuses) 1 = true) ∧
  acts (.secDebugOff t w) El.secDebugOff (fun _ u => u.flash.debugOff = true ∧ bitOf (u.nat El.secFuses) 2 = true ∧
    u.nat El.dbgState = 3)

/-! ### Chunks of DOMAIN elements (R256, R264) -/

/-- R152, R235, R262, R264, R265, R454, R472, R552, R558: chunks of a scene, an image, a key, the DRAM window, an update and the owner hash are gathered
in order and take effect with the last one, a scene at its effective sample while rounds run; a read of the window delivers the
bytes of user memory at `dram_win_addr`, or OUT_OF_RANGE where one of its blocks cannot be corrected. -/
def Obligations.DomainWrites : Prop := ∀ (s : State) (t : Nat) (w : Who) (n c slot : Nat) (k : Chunk) (len : Nat),
  let b := s.advance t
  (n < 4096 → WritesPart (.sceneData t w n k) s t w (El.sceneData n) k (fun _ u x =>
    if b.roundsRun then ∃ ch, u.disp.changes = b.disp.changes ++ [ch] ∧ b.effective ≤ ch.eff ∧ ch.committed = true ∧
      ch.writes.map (fun q => (q.addr, q.val)) = [(El.sceneData n, .bytes x)] ∧ u.val (El.sceneData n) = b.val (El.sceneData n)
    else u.val (El.sceneData n) = .bytes x ∧ u.nat (El.sceneLength n) = x.length ∧ u.nat (El.sceneCrc n) = field x 12 4)) ∧
  (c < 8 → WritesPart (.imgData t w c k) s t w (El.imgData c) k (fun _ u x =>
    u.val (El.imgData c) = .bytes x ∧ u.nat (El.imgState c) = (if x = [] then 0 else 1) ∧ u.nat (El.imgCrc c) = field x 12 4)) ∧
  (slot < 32 → WritesPart (.keyValue t w slot k) s t w (El.keyValue slot) k (fun b u x => u.nat (El.keyState slot) = 1 ∧
    (if w.src = .spi then u.key slot = x else Config.keyUnwrap (b.keyOf w.src) x = some (u.key slot)))) ∧
  WritesPart (.dramWinData t w true n len k) s t w El.dramWinData k (fun b u x =>
    u.mem.dram = writeCells b.mem.dram (b.nat El.dramWinAddr) (x.take (b.mappedEnd - b.nat El.dramWinAddr)) ∧
    ∀ y, u.val y = b.val y) ∧
  (b.Heeds opRead w ⟨opRead, 14, w.opId, 0, 0, BitVec.ofNat 32 El.dramWinData, leBytes 4 n ++ leBytes 2 len⟩ →
    b.readHead w.src El.dramWinData 14 = .ok → n ≤ 65536 → len ≤ b.chunkRoom → len < 65536 → n + len ≤ 65536 →
    b.nat El.dramWinAddr + n + len ≤ b.mappedEnd →
    let at_ := b.nat El.dramWinAddr + n
    let q : Rec := ⟨opRead, 14, w.opId, 0, 0, BitVec.ofNat 32 El.dramWinData, leBytes 4 n ++ leBytes 2 len⟩
    (b.lostIn at_ len = none → ∃ u : State, u.regs = b.regs ∧ u.mem.dram = b.mem.dram ∧
      exec (.dramWinData t w false n len k) s = .next (u.sendAnswer w (okRec q 14
        (leBytes 4 n ++ leBytes 4 65536 ++ b.dramRead at_ len)))) ∧
    (b.lostIn at_ len ≠ none → b.placeOf at_ ≠ none → ∃ u : State, u.mem.dram = b.mem.dram ∧
      exec (.dramWinData t w false n len k) s = .next (u.sendAnswer w (refusal q .outOfRange)))) ∧
  WritesPart (.updData t w k) s t w El.updData k (fun _ u x => u.nat El.updState = 1 ∧ u.nat El.updFail = 0 ∧
    u.nat El.updProgress = 0 ∧ u.sys.updImage = x) ∧
  WritesPart (.secOwnerHash t w k) s t w El.secOwnerHash k (fun _ u x => u.flash.ownerHash = some x ∧
    bitOf (u.nat El.secFuses) 0 = true)

/-! ### Messages, sessions and records -/

/-- R257, R266, R267, R268, R269, R275: a message with a wrong frame is counted and dropped; a request in a session with a right tag and a
new `seq` waits in the queue; an opening with a used slot opens the lowest free session with the slot's role; a session that
closes, or hears nothing for `sess_timeout`, is gone with its subscriptions. -/
def Obligations.SessionsLive : Prop := ∀ (s : State) (t : Nat) (w : Who) (port host slot nonce n : Nat) (d : Udp),
  let b := s.advance t
  let m := d.data
  let ended (u : State) : Prop := u.session n = none ∧ u.nat (El.sessState (n - 1)) = 0 ∧ ∀ e ∈ u.subList, e.2.owner ≠ n
  (b.hears port = true → b.isBop port d = true → frameOk m = false →
    ∃ u, exec (.bopMessage t port host d) s = .next u ∧ u.nat El.bopBad = min (b.nat El.bopBad + 1) (2 ^ 32 - 1) ∧
      u.bop = b.bop ∧ ∀ y, y ≠ El.bopBad → u.val y = b.val y) ∧
  (∀ x r rest, let h := headOf m
    b.hears port = true → b.isBop port d = true → frameOk m = true → h.flags = 0 → h.session = n → (h.engine = 0xFFFF ∨ h.engine = b.nat El.engineNumber) →
    m.length ≤ b.nat El.bopMaxMsg → b.bop.queue.length < 256 → b.session n = some x → tagGood (b.key x.slot) x.salt m = true →
    x.hi < h.seq → x.cache.find? (fun e => e.1 = h.seq) = none → messageRecs m = some (r :: rest) →
    ∃ u y, exec (.bopMessage t port host d) s = .next u ∧
      u.bop.queue = b.bop.queue ++ [⟨.session n, port, host, h.seq, r :: rest, [], false⟩] ∧
      u.session n = some y ∧ y.hi = h.seq ∧ y.last = b.time.tick ∧ u.nat (El.sessSeq (n - 1)) = h.seq) ∧
  (∀ k, b.hears port = true → b.slotUsed slot = true → 4 ≤ b.mode → b.mode ≤ 11 → b.hostClosed = false → b.freeSession = some k →
    ∃ u x, exec (.sessionOpen t port slot nonce) s = .next u ∧ u.session k = some x ∧ x.slot = slot ∧ x.port = port ∧
      x.role = b.nat (El.keyRole slot) ∧ x.hi = 0 ∧ x.salt.length = 8 ∧ x.cache = [] ∧ u.nat (El.sessState (k - 1)) = 1 ∧
      u.nat (El.sessSlot (k - 1)) = slot) ∧
  (w.src = .session n → (b.session n).isSome = true → b.Takes w El.sessionClose (.int 1) →
    ∃ u, exec (.sessionClose t w) s = .next u ∧ ended u) ∧
  (∀ x, b.session n = some x → x.last + b.nat El.sessTimeout * 1000000000 ≤ b.time.tick →
    ∃ u, exec (.sessionTimeout t n) s = .next u ∧ ended u)

/-- R242, R253, R260, R262, R275: a READ that its element allows is answered with the value and changes nothing but a reading that it takes; a
WRITE to an element of area 00 that passes every check takes its value; one that fails is answered with its status and
changes nothing. -/
def Obligations.ReadsAndWrites : Prop := ∀ (s : State) (t : Nat) (w : Who) (r : Rec) (st : Status),
  let a := r.addr.toNat
  let v := decodeVal r.typ r.body
  let same (b u : State) : Prop := ∀ y, u.val y = b.val y
  (typeOf a ≠ 14 → (s.advance t).readHead w.src a r.typ = .ok → Replies (.read t w r) s t opRead w r (fun b u x =>
    u = b.takeReading a ∧ (isThermal a = false → isLoad a = false → a ≠ El.updProgress → u = b) ∧
    x = okRec { r with op := opRead } (typeOf a) (encodeVal (typeOf a) (u.readVal (sessionOf w.src) a)))) ∧
  (st ≠ .ok → (s.advance t).readHead w.src a r.typ = st → Replies (.read t w r) s t opRead w r (fun b u x =>
    u = b ∧ x = refusal { r with op := opRead } st)) ∧
  (typeOf a ≠ 14 → r.typ = typeOf a → bitOf r.oflags 3 = false → areaOf a = 0 → (s.advance t).writeHead w.src a r.typ = .ok →
    (s.advance t).writeTail w.src a v = .ok → Replies (.write t w r) s t opWrite w r (fun b u x =>
      b.Sets u [(a, v)] ∧ x = okRec { r with op := opWrite } r.typ (leBytes 8 b.reported))) ∧
  (st ≠ .ok → bitOf r.oflags 3 = false → (s.advance t).writeHead w.src a r.typ = st → Replies (.write t w r) s t opWrite w r (fun b u x =>
    u = b ∧ x = refusal { r with op := opWrite } st)) ∧
  (st ≠ .ok → typeOf a ≠ 14 → bitOf r.oflags 3 = false → (s.advance t).writeHead w.src a r.typ = .ok →
    (s.advance t).writeTail w.src a v = st → areaOf a ≠ 0x1D → a ≠ El.updData → Replies (.write t w r) s t opWrite w r (fun b u x =>
      same b u ∧ u.disp = b.disp ∧ x = refusal { r with op := opWrite } st))

/-- R70, R71, R72, R142, R147, R263: a WRITE_AT of a sample that lies far enough ahead, and no more than an hour, waits for exactly that
sample, and its answer reports the sample twice: resolved and effective. -/
def Obligations.WriteAtWaits : Prop := ∀ (s : State) (t : Nat) (w : Who) (r : Rec) (n : Nat) (resv : List Resv),
  let a := r.addr.toNat
  let v := decodeVal r.typ (r.body.drop (markBytes r))
  let b := s.advance t
  b.writeHead w.src a r.typ = .ok → r.typ ≠ 14 → takesMark a = true → b.valueStatus w.src a v = .ok → b.stateStatus a v = .ok →
  b.markOf { r with op := opWriteAt } 0 = .ok (some n) → bitOf r.oflags 3 = false → b.roundsRun = true → b.effective ≤ n →
  b.tooFar n = false → b.pendingAts < 4096 → (isDirect a = true → b.roundUp n = n) →
  b.clearSample [b.shapeOf [] none a v] n (isDirect a) = n →
  reserveAll b.mix.resv b.roundB n b.disp.nextId [b.shapeOf [] none a v] = .ok resv →
  Replies (.writeAt t w r) s t opWriteAt w r (fun b u x =>
    x = okRec { r with op := opWriteAt } r.typ (leBytes 8 n ++ leBytes 8 n) ∧
    (∃ ch ∈ u.disp.changes, ch.id = b.disp.nextId ∧ ch.kind = .writeAt ∧ ch.eff = n ∧ ch.mark = some n ∧
      ch.writes = [b.shapeOf [] none a v] ∧ ch.committed = false) ∧ u.val a = b.val a)

/-- R276, R278: SUBSCRIBE in a session gives the lowest free number a subscription of the session, and a cancel ends one of its own. A kind 1
subscription sends, and is due again a period later; a publication list that sends starts its next period, and one whose
last message has not left counts a merged period. -/
def Obligations.SubscriptionsRun : Prop := ∀ (s : State) (t : Nat) (w : Who) (r : Rec) (n k l : Nat) (x : Sub),
  let b := s.advance t
  let kind := field r.body 0 1
  w.src = .session n →
  (field r.body 1 1 = 0 → b.subStatus { r with op := opSubscribe } kind (field r.body 2 2) (field r.body 4 2) = .ok → b.freeSub = some k →
    (b.subList.filter (fun e => e.2.owner = n)).length < 256 → Replies (.subscribe t w r) s t opSubscribe w r (fun _ u z =>
      z = okRec { r with op := opSubscribe } r.typ (leBytes 2 k) ∧ ∃ y, u.sub k = some y ∧ y.owner = n ∧ y.kind = kind ∧
        y.addr = r.addr.toNat ∧ y.period = field r.body 2 2 ∧ y.areas = field r.body 6 4)) ∧
  (field r.body 1 1 = 1 → b.sub (field r.body 10 2) = some x → x.owner = n → Replies (.subscribe t w r) s t opSubscribe w r (fun _ u z =>
      z = okRec { r with op := opSubscribe } r.typ (leBytes 2 (field r.body 10 2)) ∧ u.sub (field r.body 10 2) = none)) ∧
  (b.sub k = some x → x.kind = 1 → b.anchored = true → x.due < b.rounds.nextPulse → ∃ u, exec (.subscriptionPeriod t k) s = .next u ∧
    u.sub k = some { x with due := b.roundIssued + x.period }) ∧
  (l < 16 → b.nat (El.pubPeriod l) ≠ 0 → b.anchored = true → (b.pub l).since + b.nat (El.pubPeriod l) ≤ b.roundIssued →
    ∃ u, exec (.publication t l) s = .next u ∧ (u.pub l).since = b.roundIssued ∧
      (if (b.pub l).sent.any b.waitsToLeave then u.nat (El.pubMerged l) = min (b.nat (El.pubMerged l) + 1) (2 ^ 32 - 1)
      else (u.pub l).peaks = [] ∧ (u.pub l).truePeaks = [] ∧ (u.pub l).grs = []))

/-- R154, R155, R156: an envelope opens for its source where fewer than 16 are open and fewer than 4 of its own; sealed where no rounds
run, its writes apply at once and it is gone; sealed while they run, it waits in a pending slot as a change; a drop removes
it, and so do 10 s without a write. -/
def Obligations.EnvelopesLive : Prop := ∀ (s : State) (t : Nat) (w : Who) (r : Rec) (e : Nat) (x : Env) (mark : Option Nat) (i eff : Nat) (v : State),
  let b := s.advance t
  let me : Who := { w with opId := r.opId }
  let ws := x.writes.map (fun q => (q.addr, q.val))
  let q : Rec := { r with op := opSeal }
  let e1 := field r.body 0 1
  isGroup w.src = false →
  (b.nextEnvNum = some e → b.openEnvs.length < 16 → (b.openEnvs.filter (fun y => y.2.owner = ownerOf w.src)).length < 4 →
    Replies (.envelopeOpen t w r) s t opOpen w r (fun b u a => a = okRec { r with op := opOpen } 0 (leBytes 1 e) ∧
      u.env e = some ⟨false, ownerOf w.src, [], b.time.tick⟩)) ∧
  (b.env e1 = some x → x.owner = ownerOf w.src → x.sealed = false →
    Replies (.envelopeDrop t w r) s t opDrop w r (fun _ u a => a = okRec { r with op := opDrop } 0 [] ∧ u.env e1 = none)) ∧
  (b.env e1 = some x → x.owner = ownerOf w.src → x.sealed = false → b.markOf q 1 = .ok none → b.wholeStatus ws none (bitOf r.oflags 2) = none →
    b.roundsRun = false → Replies (.envelopeSeal t w r) s t opSeal w r (fun b u a =>
      a = okRec q 0 (leBytes 1 0xFF ++ leBytes 8 b.reported) ∧ u.env e1 = none ∧
      ∀ y, y ∉ [El.dispPending, El.dispPendingMax, El.dispArmed, El.envOpen] → (∀ n, y ≠ El.sessEnvelopes n) →
        u.val y = (b.takeNow (b.shapeAll none ws)).val y)) ∧
  (b.env e1 = some x → x.owner = ownerOf w.src → x.sealed = false → b.markOf q 1 = .ok mark → b.wholeStatus ws mark (bitOf r.oflags 2) = none →
    b.roundsRun = true → b.acceptSlot .envelope me (b.shapeAll none ws) mark (bitOf r.oflags 2) none (some e1) = (.ok (i, eff), v) →
    Replies (.envelopeSeal t w r) s t opSeal w r (fun _ u a => a = okRec q 0 (leBytes 1 i ++ leBytes 8 eff) ∧
      u.env e1 = some { x with sealed := true } ∧
      ∃ ch ∈ u.disp.changes, ch.slot = some i ∧ ch.eff = eff ∧ ch.envelope = some e1 ∧ ch.kind = .envelope)) ∧
  (b.env e = some x → x.sealed = false → x.last + 10000000000 ≤ b.time.tick → ∃ u, exec (.envelopeTimeout t e) s = .next u ∧
    u.env e = none ∧ u.nat El.envDiscarded = min (b.nat El.envDiscarded + 1) (2 ^ 32 - 1))

/-- R139, R153, R160: a recall of a stored scene by a role that may recall applies at once, as values, where no rounds run; while they run it
waits in a pending slot, and its scene reads `scene_state` 2. -/
def Obligations.RecallsWait : Prop := ∀ (s : State) (t : Nat) (w : Who) (r : Rec) (mark : Option Nat) (i eff : Nat) (v : State),
  let b := s.advance t
  let me : Who := { w with opId := r.opId }
  let n := field r.body 0 2
  let ovr := field r.body 2 2
  let ws := sceneWrites (b.val (El.sceneData n)).toBytes
  let q : Rec := { r with op := opRecall }
  let len : Option Nat := if ovr = 0xFFFF then none else some ovr
  n < 4096 → (b.val (El.sceneData n)).toBytes ≠ [] → 2 ≤ b.roleOf w.src → overrideOk ovr = true → bitOf r.oflags 3 = false →
  b.markOf q 4 = .ok mark → b.wholeStatus ws mark (bitOf r.oflags 2) = none →
  (b.roundsRun = false → mark = none → Replies (.recall t w r) s t opRecall w r (fun b u a =>
    a = okRec q 0 (leBytes 1 0xFF ++ leBytes 8 b.reported) ∧ ∀ y, u.val y = (b.takeNow (b.shapeAll len ws)).val y)) ∧
  (b.roundsRun = true → b.acceptSlot .recall me (b.shapeAll len ws) mark (bitOf r.oflags 2) (some n) none = (.ok (i, eff), v) →
    Replies (.recall t w r) s t opRecall w r (fun _ u a => a = okRec q 0 (leBytes 1 i ++ leBytes 8 eff) ∧
      u.nat (El.sceneState n) = 2 ∧ ∃ ch ∈ u.disp.changes, ch.slot = some i ∧ ch.eff = eff ∧ ch.scene = some n ∧ ch.kind = .recall))

/-- R255, R256, R264, R466, R467: the service SPI reads and writes an element that it reaches, and its answer stands for the next transaction; an
assembly without a chunk for 10 s is gone; a master within its rights asks for the swap of the windows, and writes a region
register that is not locked. -/
def Obligations.ServiceAndFabric : Prop := ∀ (s : State) (t : Nat) (a : Word) (len off : Nat) (data : List Byte) (src : Src) (m via i reg : Nat) (v : Word),
  let b := s.advance t
  let n := a.toNat
  let ty := typeOf n
  (b.sourceOn .spi = true → b.readHead .spi n ty = .ok → ty ≠ 14 → 0 < tyBytes ty → len = tyBytes ty → len ≤ 256 →
    ∃ u, exec (.spiRead t a ty len off) s = .next u ∧ u.bop.spi = (0, encodeVal ty ((b.takeReading n).readVal 0 n)) ∧
      ∀ y, u.val y = (b.takeReading n).val y) ∧
  (b.sourceOn .spi = true → b.writeHead .spi n ty = .ok → ty ≠ 14 → 1 ≤ len → len = tyBytes ty → len ≤ 256 → data.length = len →
    b.mode ≠ 7 → b.mode ≠ 8 → areaOf n = 0 → b.writeTail .spi n (decodeVal ty data) = .ok →
    ∃ u, exec (.spiWrite t a ty len off data) s = .next u ∧ u.bop.spi = (0, []) ∧ u.val n = decodeVal ty data ∧
      ∀ y, y ≠ n → u.val y = b.val y) ∧
  (∃ u, exec (.assemblyTimeout t src) s = .next u ∧ (∀ k ∈ u.bop.asms, k ∈ b.bop.asms ∧ (k.owner = src → b.time.tick < k.last + 10000000000)) ∧
    ∀ k ∈ b.bop.asms, k.owner ≠ src → k ∈ u.bop.asms) ∧
  (b.domainUp 1 = true → m < 15 → b.mayWriteReg m 0 = true → v.getLsbD 0 = true → b.mem.remap = false →
    ∃ u, exec (.ctlRemap t m v) s = .next u ∧ u.mem.remapBusy = true ∧ u.mem.remap = false ∧ u.mem.xbarOut = (0, [])) ∧
  (b.domainUp 1 = true → via < 15 → m < 15 → i < 16 → reg < 3 → b.mayWriteReg via (0x1000 + 0x100 * m + 0x10 * i + 4 * reg) = true →
    ∃ u, exec (.rgnWrite t via m i reg v) s = .next u ∧
      u.rgn m i reg = (if bitOf (b.rgn m i 2) 4 then b.rgn m i reg else (v &&& rgnMask reg).toNat))

/-- R268 to R273: an answer leaves every element as it was but the counter of frames that found no room. -/
def Obligations.AnswersTouchNothing : Prop := ∀ (s : State) (w : Who) (a : Rec) (y : Nat),
  (∀ l, y ≠ El.lkTunnelDrops l) → y ≠ El.portTxDrops 2 → (s.sendAnswer w a).val y = s.val y

/-! ### Rounds, jobs and the sorting of a round -/

/-- R42, R44, R52, R57, R65: a pulse opens the next interval, in which the tray of the round before plays, and puts its round last among
those that wait; the first of these begins when none is being computed; phases complete in order; a re-anchoring moves the
timeline's index by its jump; an output plays the sample that is due. A round that waits 3 rd to begin ends in FAULT. -/
def Obligations.RoundsGoOn : Prop := ∀ (s : State) (t k j : Nat) (rest : List Nat) (o : Output) (w : StepWait) (sense : List (Bool × Bool)),
  let b := s.advance t
  let r := b.rounds
  let mayBegin : Prop := b.courierWaits k = false ∧ ¬ (b.mode = 8 ∧ b.twin.resyncStep = 2) ∧
    ∀ c, c < b.variant.clusters → b.reliefHolds c k = false
  (b.anchored = true → b.domainUp 0x13 = true → r.startIdx + r.interval ≤ b.sampleNow → b.roundsRun = true → r.waiting = [] →
    ∃ q : State, exec (.roundPulse t) s = .next (({ q with rounds := { q.rounds with
        live := [], waiting := q.rounds.waiting ++ [r.nextPulse] } } : State).boundary r.nextPulse) ∧
      q.rounds.nextPulse = r.nextPulse + 1 ∧ q.rounds.startIdx = r.startIdx + r.interval ∧ q.rounds.interval = b.roundB ∧
      q.rounds.playing = r.last ∧ q.rounds.waiting = []) ∧
  (r.current = none → r.waiting = k :: rest → b.roundsRun = true → mayBegin →
    (b.mode = 8 ∨ b.time.tick - Tab.get 0 r.pulseAt k < b.lagLimit) →
    ∃ u, exec (.roundStart t) s = .next u ∧ u.rounds.current = some k ∧ u.rounds.waiting = rest ∧ u.rounds.phase = 0 ∧
      u.nat El.roundNow = roundIdx k ∧ u.nat El.timelineNow = b.firstSample k) ∧
  (r.current = none → r.waiting = k :: rest → b.roundsRun = true → mayBegin → b.mode ≠ 8 → 5 ≤ b.mode → b.mode ≤ 10 →
    b.lagLimit ≤ b.time.tick - Tab.get 0 r.pulseAt k →
    ∃ u, exec (.roundStart t) s = .next u ∧ u.mode = 11 ∧ u.nat El.faultCause = 1) ∧
  (∀ p, r.current = some k → r.phase + 1 = p → p < 4 →
    (match p with | 1 => b.jobsDone k false | 2 => decide (1 ≤ r.passes) | _ => b.jobsDone k true) = true →
    ∃ u, exec (.phaseComplete t p) s = .next u ∧ u.rounds = { r with phase := p } ∧
      u.nat (El.phaseEnd (p - 1)) = min (b.rd256 (b.time.tick - Tab.get 0 r.pulseAt k)) 65535) ∧
  (r.current = some k → r.phase = 3 → 2 ≤ r.passes →
    ∃ u, exec (.phaseComplete t 4) s = .next u ∧ u.rounds.current = none ∧ u.rounds.phase = 0 ∧ u.rounds.waiting = r.waiting) ∧
  (r.step = some w → r.last = some k → b.anchored = true → Tab.get 0 r.pulseAt k = b.time.tick →
    ∃ u, exec (.reanchor t) s = .next u ∧ u.rounds.step = none ∧
      (u.rounds.startIdx : Int) = max 0 ((b.firstSample k : Int) + b.jumpOf w.deltaNs) ∧ u.nat El.anchorState = 1 ∧
      u.int El.lastStep = satStep w.deltaNs ∧ u.nat El.stepCount = min (b.nat El.stepCount + 1) (2 ^ 32 - 1)) ∧
  (let key := outKey o
    let start := max (Tab.get 0 r.played key) r.startIdx
    let idx := start + (j + b.roundB - start % b.roundB) % b.roundB
    b.roundsRun = true → j < b.roundB → b.tgtStatus key = .ok → b.domainUp (outDomain o) = true → idx < r.startIdx + r.interval →
    idx ≤ b.sampleNow → r.xfade.left = 0 → b.sys.actStep = 0 →
    ∃ u, exec (.outputPlay t o ⟨j, sense⟩) s = .next u ∧ Tab.get 0 u.rounds.played key = idx + 1 ∧
      (Tab.get [] u.rounds.lastOut key).head? = some (b.dueSample o idx) ∧ ((∀ n, o ≠ .psc n) → u.regs = b.regs))

/-- R162, R171, R178, R179, R181, R182: a job starts with its context on a core, its entry in PC and everything else 0; its inputs are in the
in-tray before; its outputs go to MIX, zero from a halted job; a DMA transfer within its job's rights takes its channel, and
frees it when it is done. Strip jobs run their standard program. -/
def Obligations.JobsAndTransfers : Prop := ∀ (s : State) (t : Nat) (k : CoreId) (c j pos ch : Nat) (x : Section) (jb : Job) (d : DmaXfer) (m : Dma),
  let b := s.advance t
  let sv := b.scheduleOf c j
  (b.sectionOf c sv = some x → b.jobAt c sv pos = some jb → b.mayStart c j pos x jb = true →
    ∃ u, exec (.jobStart t c j pos) s = .next u ∧ (b.inAudit c j = false → u.nat (El.jobState c sv pos) = 1) ∧
      (jb.strip = none → (u.core c j).run = some pos ∧ (u.core c j).pc = BitVec.ofNat 13 jb.entry ∧
        (∀ r, (u.core c j).getD r = 0) ∧ (∀ a, (u.core c j).getA a = 0) ∧ (u.core c j).sr = 0 ∧ (u.core c j).loops = [] ∧
        (u.core c j).x = (b.core c j).x ∧ (u.core c j).y = (b.core c j).y ∧ (u.core c j).prog = (b.core c j).prog) ∧
      (jb.strip ≠ none → pos ∈ (u.core c j).ended)) ∧
  (b.sectionOf c sv = some x → b.jobAt c sv pos = some jb → b.rounds.current ≠ none → b.clusterRuns c b.workRound = true →
    b.inAudit c j = false →
    (b.openRound = true → (b.core c j).ready.contains pos = false → b.phaseOpen jb.phase3 = true →
      ∃ u k1, exec (.trayInputWrite t c j pos) s = .next u ∧ u.regs = b.regs ∧ u.core c j = { k1 with ready := pos :: k1.ready } ∧
        k1 = (jb.ins.map (fun i => (i.off, sampleWords (b.jobInputSamples jb i)))).foldl
          (fun (m : Core) (i : Nat × List Word) => m.writeXs (inTrayBase x.tin x.tout (b.half c j) + i.1) i.2) (b.core c j)) ∧
    (jb.strip = none → (b.core c j).halted.contains pos = true →
      ∃ u, exec (.trayOutputRead t c j pos) s = .next u ∧ u.regs = b.regs ∧ ∀ o ∈ jb.outs, Tab.get [] u.mix.sig (sigJob o.idx) = b.zeros) ∧
    (jb.strip = none → (b.core c j).halted.contains pos = false → b.nat (El.jobState c sv pos) ≠ 3 → (b.core c j).ended.contains pos = true →
      exec (.trayOutputRead t c j pos) s = .next ((jb.outs.foldl (fun (q : State) o => q.setSignal (sigJob o.idx)
        (((b.core c j).readXs (outTrayBase x.tout (b.half c j) + o.off) b.roundB).map BitVec.toInt)) b).setCore c j
        { b.core c j with handed := pos :: (b.core c j).handed }))) ∧
  (let sv := (b.core k.c k.j).service k.j;
    b.clusterUp k.c = true → ownsChannel sv ch = true → (b.core k.c k.j).run = some pos → b.jobAt k.c sv pos = some jb →
    xferAllowed jb d = true → b.inAudit k.c k.j = false → Tab.get none (b.cluster k.c).dma ch = none →
    ∃ u a, exec (.dmaTransfer t k ch d) s = .next u ∧ Tab.get none (u.cluster k.c).dma ch = some ⟨sv, d, pos, a⟩ ∧ u.regs = b.regs ∧
      u.dsp.cores = b.dsp.cores) ∧
  (Tab.get none (b.cluster c).dma ch = some m → b.jobAt c m.core m.pos ≠ none →
    ∃ u, exec (.dmaComplete t c ch) s = .next u ∧ Tab.get none (u.cluster c).dma ch = none ∧
      (m.xfer.src ≠ .dram → u.regs = b.regs))

/-- R93, R97, R98, R134, R135: a source enters its pass once; a pass completes in order once every source has been added; a
ramp that reached its length rests at its target, and strip ramps and morphs end as they are due. -/
def Obligations.MixGoesOn : Prop := ∀ (s : State) (t : Nat) (passB : Bool) (p k src d n e : Nat) (bus : Bool) (st : Stage),
  let b := s.advance t
  let added (q : State) : List Nat := if passB then q.mix.addedB else q.mix.addedA
  (p < b.cap b.variant.sources → p ∉ added b → b.sourceReady passB p = true →
    ∃ u, exec (.sourceAdd t passB p) s = .next u ∧ added u = p :: added b ∧ u.regs = b.regs ∧
      ∀ d, b.inPass passB d = true → d < b.cap b.variant.dests → b.accOf d ≠ [] →
        u.accOf d = addLists (b.accOf d) (b.contribution (El.xpGain p d) (b.lineSample (b.rounds.current.getD 0)) (b.sourceFor p d))) ∧
  (b.rounds.current = some k → b.rounds.passes = (if passB then 1 else 0) → b.passReady k passB = true →
    ∃ q u : State, exec (.passComplete t passB) s = .next u ∧ q.rounds.passes = b.rounds.passes + 1 ∧
      u = if b.domainUp 0x0A = true ∧ passB = true then q.noteDigest (roundIdx k) else q) ∧
  (let a := El.xpGain src d;
    src < 2048 → d < 512 → (b.xramp a).moving = true → (b.xramp a).start + (b.xramp a).len < b.computedTo →
    ∃ u, exec (.rampEnd t src d) s = .next u ∧ (u.xramp a).moving = false ∧
      Tab.get 0 u.mix.inEffect a = Tab.get 0 b.mix.incoming a ∧ u.regs = b.regs) ∧
  (∀ key r l, key ∈ gainKeys e → Tab.get [] (b.strip bus n).ramps key = r :: l → r.moving = true →
    r.start + r.len < b.computedTo →
    ∃ u, exec (.stripRampEnd t bus n e) s = .next u ∧ Tab.get [] (u.strip bus n).ramps key = r.stop :: l ∧ u.regs = b.regs) ∧
  (∃ u, exec (.morphEnd t bus n st) s = .next u ∧ u.regs = b.regs ∧
    (u.strip bus n).morphsOf (stageNum st) = ((b.strip bus n).morphsOf (stageNum st)).map (fun m =>
      { m with ended := m.ended || decide (m.start + m.len ≤ b.computedTo) }))

/-! ### Changes, images and audits -/

/-- R93, R132, R133, R144, R145, R146, R148, R237, R517: a change that qualifies is armed; at its commit point it is committed, or withdrawn where
its checks fail now; on its sample its writes take effect and it is gone; an input strip moves to its backup; a staged image
takes effect with its activation, and its load ends r rounds later. -/
def Obligations.ChangesTakeEffect : Prop := ∀ (s : State) (t id c n : Nat) (ch : Change) (w : CWrite) (k : Nat) (im : Image),
  let b := s.advance t
  (b.change id = some ch → b.roundsRun = true → b.mayArm ch = true →
    ∃ u, exec (.pendingArm t id) s = .next u ∧ ∃ d ∈ u.disp.changes, d.id = id ∧ d.armed = true ∧ d.eff = ch.eff ∧ d.writes = ch.writes) ∧
  (b.change id = some ch → b.roundsRun = true → ch.pending = true → ch.eff / b.roundB ≤ b.roundIssued + 1 →
    (b.commitStatus ch = .ok → ∃ u, exec (.commitPoint t id) s = .next u ∧ (∀ i, ch.slot = some i → u.nat (El.pendState i) = 3) ∧
      ∃ d ∈ u.disp.changes, d.id = id ∧ d.committed = true ∧ d.eff = ch.eff ∧ d.writes = ch.writes) ∧
    (b.commitStatus ch ≠ .ok → ∃ u, exec (.commitPoint t id) s = .next u ∧ ∀ d ∈ u.disp.changes, d.id ≠ id)) ∧
  (b.change id = some ch → b.rounds.current = some k → b.roundsRun = true → ch.kind ≠ .activate → ch.committed = true →
    k < 2 ^ 64 → b.changeDue k ch = true → b.rounds.phase = 0 → ch.writes = [w] → ch.scene = none → b.shedWrite w = false →
    b.disp.changes.any (fun x => x.kind != .activate && x.committed && b.changeDue k x && x.before ch) = false →
    ∃ u, exec (.changeApply t id) s = .next u ∧ (∀ d ∈ u.disp.changes, d.id ≠ id) ∧
      (areaOf w.addr = 0x1A → w.addr ≠ El.soClear → u.val w.addr = w.val) ∧
      (isXp w.addr = true → u.int w.addr = w.val.toInt ∧
        (if w.len = 0 then Tab.get 0 u.mix.inEffect w.addr = w.val.toInt
        else (u.xramp w.addr).moving = true ∧ (u.xramp w.addr).start = ch.eff ∧ (u.xramp w.addr).len = w.len)) ∧
      (n < 32 → w.addr = El.pscTest n → w.val = .int 1 → b.pscStateOk (El.pscTest n) (.int 1) = .ok → (u.pscCh n).step = 6)) ∧
  ((b.strip false n).onBackup = false → (b.strip false n).backupAt ≠ none → n < b.variant.strips →
    ∃ u, exec (.backupSwitch t n) s = .next u ∧ (u.strip false n).onBackup = true ∧ u.regs = b.regs) ∧
  (c < 8 → b.activation c = some ch → b.roundsRun = true → b.changeDue b.workRound ch = true → b.rounds.phase = 0 →
    (b.cluster c).taken.orElse (fun _ => b.staged c) = some im →
    ∃ u, exec (.imageTakeEffect t c) s = .next u ∧ (u.cluster c).image = some im ∧ (u.cluster c).loading = true ∧
      (b.staged c = some im → u.nat (El.imgState c) = 2) ∧ u.nat (El.imgActiveCrc c) = im.crc ∧ ∀ d ∈ u.disp.changes, d.id ≠ ch.id) ∧
  ((b.cluster c).loading = true → (b.cluster c).loadUntil ≤ b.lineUp b.workRound →
    ∃ u, exec (.imageLoadDone t c) s = .next u ∧ (u.cluster c).loading = false ∧ (u.cluster c).image = (b.cluster c).image ∧ u.regs = b.regs)

/-- R32, R34, R191, R192, R193, R194, R195, R197, R198, R601: an audit mirrors the core that is due, and, once the relief core has done that core's
jobs, ends with a pass, or, where a job differs, with a core that waits for its retirement; a takeover retires that core for good and the relief core carries its schedule; a failed
self-test retires the relief core; a domain powers up and down in the order of its dependencies. -/
def Obligations.AuditsAndDomains : Prop := ∀ (s : State) (t c i dma : Nat) (j job : Nat) (differs : Option Nat),
  let b := s.advance t
  let x := b.cluster c
  (c < 8 → b.auditsRun c = true → x.auditing = false → x.retiring = none →
    ∃ u, exec (.auditMirror t c) s = .next u ∧ (u.cluster c).auditing = true ∧
      (u.cluster c).auditCore = (x.forced.orElse (fun _ => x.auditNext)).getD x.auditCore ∧
      u.nat (El.clAuditCore c) = (u.cluster c).auditCore) ∧
  (c < 8 → x.auditCore < 8 → x.auditing = true → x.audited ≠ none → b.reliefDone c = true → dma + x.replayTop ≤ 262144 →
    let found := (b.firstDiffers c).orElse (fun _ => differs)
    ∃ u, exec (.auditRound t c dma differs) s = .next u ∧ (u.cluster c).auditing = false ∧
      u.nat (El.clAudits c) = min (b.nat (El.clAudits c) + 1) (2 ^ 32 - 1) ∧
      (if found = none ∧ x.forced ≠ some x.auditCore then (u.cluster c).auditCore = (x.auditCore + 1) % 8 ∧
        u.nat (El.coreAuditsPassed c x.auditCore) = min (b.nat (El.coreAuditsPassed c x.auditCore) + 1) (2 ^ 32 - 1)
      else ∃ n, (u.cluster c).retiring = some (x.auditCore, n) ∧ (∀ d, found = some d → n = d))) ∧
  (c < 8 → j < 8 → x.retiring = some (j, job) → b.rounds.current = none → b.clusterUp c = true →
    ∃ u, exec (.reliefTakeover t c) s = .next u ∧ u.nat (El.coreState c j) = 1 ∧ u.nat (El.coreState c 8) = 3 ∧
      u.nat (El.coreCarries c 8) = j ∧ u.nat (El.coreRetiredAt c j) = b.firstSample b.rounds.nextRound ∧ u.nat (El.clReliefState c) = 2 ∧
      u.flash.repair = .core c j :: b.flash.repair ∧ u.carried c = some j) ∧
  (c < 8 → b.auditsRun c = true → x.auditing = false →
    (∃ u, exec (.reliefSelfTest t c false) s = .next u ∧ u.nat (El.clReliefState c) = 3 ∧ u.nat (El.coreState c 8) = 1) ∧
    exec (.reliefSelfTest t c true) s = .next b) ∧
  (2 ≤ i → i < 20 → b.nat (El.pdState i) = 1 → b.needsUp i = true →
    ∃ u, exec (.domainPowerUp t i) s = .next u ∧ u.nat (El.pdState i) = 2) ∧
  (2 ≤ i → i < 20 → (i + 32, false) ∈ b.sys.pdWait → b.needersDown i = true →
    ∃ u, exec (.domainPowerDown t i) s = .next u ∧ u.nat (El.pdState i) = 0)

/-! ### Serial ports and rate converters -/

/-- R295, R299, R300, R301, R302, R306, R308, R315, R316, R317: a slave port locks on its 16th good frame and slips on a bad or a missing one;
a port in lock hands its frame to the input steps, and drives what left the out-tray 8 samples earlier on the slots of its
mask; a gate whose wait is over moves; the start trigger registers its edge and fires; a rate converter group locks after 20 ms. -/
def Obligations.SerialGoesOn : Prop := ∀ (s : State) (t p slot g rate n width : Nat) (f : SapFrame) (out : Bool),
  let b := s.advance t
  let x := b.sapPort p
  let slips (u : State) : Prop := (u.sapPort p).locked = false ∧ u.nat (El.spState p) = 4 ∧
    u.nat (El.spSlips p) = min (b.nat (El.spSlips p) + 1) (2 ^ 32 - 1)
  (b.portOn p = true → b.isSlave p = true →
    (x.locked = false → 15 ≤ x.goodFrames → b.frameGood p f = true →
      ∃ u, exec (.sapFrameIn t p f) s = .next u ∧ (u.sapPort p).locked = true ∧
        u.nat (El.spState p) = if b.nat (El.spEnable p) = 2 then 2 else 3) ∧
    (x.locked = false → x.goodFrames < 15 → b.frameGood p f = true →
      ∃ u, exec (.sapFrameIn t p f) s = .next u ∧ (u.sapPort p).locked = false ∧ (u.sapPort p).goodFrames = x.goodFrames + 1) ∧
    (x.locked = true → b.frameGood p f = false → ∃ u, exec (.sapFrameIn t p f) s = .next u ∧ slips u) ∧
    (x.locked = true → ∃ u, exec (.sapMissingFrame t p) s = .next u ∧ slips u)) ∧
  (b.portData p = true → b.anchored = true → (b.isSlave p = false ∨ b.frameGood p f = true) →
    ∃ q : State, exec (.sapFrameIn t p f) s = .next (q.inputSteps p b.sampleNow (b.captured p f)) ∧ q.rounds = b.rounds ∧ q.mem = b.mem ∧
      (x.startWait = true → q.nat (El.spStartSample p) = b.sampleNow)) ∧
  (b.portData p = true → b.anchored = true → x.writes = [] → x.cut = [] →
    ∃ u, exec (.sapFrameOut t p) s = .next u ∧ (u.sapPort p).driven = b.drivenSlots p x.txMask ∧
      (b.drives = true → slot < 32 → slot < b.nat (El.spSlots p) → bitOf x.txMask slot = true → bitOf x.txOn slot = true →
        x.gate (32 + slot) = ⟨32, true, 0, false, (x.gate (32 + slot)).prevY⟩ →
        let key := 3 * 2 ^ 28 + 32 * p + slot
        let y := b.playedBack key (Tab.get 0 b.rounds.played key - 1 - (b.sampleNow - 8))
        Tab.get 0 (u.sapPort p).dout slot = outSample (b.wordBits p) y / (2 ^ (32 - b.wordBits p) : Nat))) ∧
  (b.portOn p = true → b.portData p = false →
    ∃ u, exec (.sapFrameOut t p) s = .next u ∧ (u.sapPort p).dout = [] ∧ (u.sapPort p).driven = b.drivenSlots p 0) ∧
  (let k := (if out then 32 else 0) + slot;
    slot < 32 → (x.gate k).pos ≠ (x.gate k).goal → (x.gate k).moving = false → 0 < b.gateWait p → b.gateWait p ≤ (x.gate k).waited →
    ∃ u, exec (.gateTimeout t p out slot) s = .next u ∧ (u.sapPort p).gate k = { x.gate k with moving := true } ∧ u.regs = b.regs) ∧
  (b.nat El.sapStartState = 1 → b.nat El.sapStartSrc = 1 → b.sap.edgeAt = none → 100 ≤ width →
    exec (.startInEdge ⟨t, width⟩) s = .next { b with sap := { b.sap with edgeAt := some b.smpClk } }) ∧
  (b.fireSample = some n → b.anchored = true → n ≤ b.sampleNow →
    ∃ u, exec (.startTriggerFire t) s = .next u ∧ u.nat El.sapStartState = 2 ∧ u.nat El.sapStartSample = n ∧
      ∀ q ∈ b.startSet, u.nat (El.spEnable q) = 1 ∧ (b.portLocked q = true → u.nat (El.spStartSample q) = n)) ∧
  (b.asrcFollows = false → g < 32 → 800000 ≤ rate → rate ≤ 38400000 → b.nat (El.agState g) = 1 → Tab.get 0 b.sap.asrcSince g + 20000000 ≤ b.time.tick →
    ∃ u, exec (.asrcGroupLock t g rate) s = .next u ∧ u.nat (El.agState g) = 2 ∧ u.nat (El.agRate g) = rate % 2 ^ 32 ∧
      u.nat (El.agLocks g) = min (b.nat (El.agLocks g) + 1) (2 ^ 32 - 1) ∧
      ∃ e, e < 2 ∧ u.nat (El.agRatio g) = (rate * 2 ^ 32 / (b.fs * 100) + e) % 2 ^ 64)

/-! ### Network ports and streams -/

/-- R327, R329, R332, R333, R334, R336, R341, R349, R351, R354, R358: a frame is counted, learned, delivered and forwarded, or dropped with its
count; a port sends the frame that is next, and sends it again after an underrun with a higher threshold; an aged address
is forgotten; a packet of a stream counts and is placed, and a packet that is due leaves; port M slows down and comes back. -/
def Obligations.NetGoesOn : Prop := ∀ (s : State) (t p r i leg n m phy mbit : Nat) (f : Frame) (k : Packet) (q : Neighbour) (x : TxItem)
    (rest : List TxItem) (up : Bool),
  let b := s.advance t
  let up1 (u : State) (a bits : Nat) : Prop := u.nat a = min (b.nat a + 1) (2 ^ bits - 1)
  (b.netUp p = true →
    (f.len < 64 → exec (.frameReceive t p f) s = .next (b.inc (El.portRunts p))) ∧
    (9216 < f.len → ∃ u, exec (.frameReceive t p f) s = .next u ∧ up1 u (El.portOversize p) 32 ∧ u.net = b.net) ∧
    (64 ≤ f.len → f.len ≤ 9216 → f.fcsOk = false →
      ∃ u, exec (.frameReceive t p f) s = .next u ∧ up1 u (El.portFcsErr p) 32 ∧ u.net = b.net) ∧
    (64 ≤ f.len → f.len ≤ 9216 → f.fcsOk = true → b.vlanOk p f.vlan = false → exec (.frameReceive t p f) s = .next b) ∧
    (64 ≤ f.len → f.len ≤ 9216 → f.fcsOk = true → b.vlanOk p f.vlan = true →
      ∃ u, exec (.frameReceive t p f) s = .next u ∧ up1 u (El.portRxFrames p) 64 ∧
        (b.addressed p f = true → b.rxRing p f.kind = some r → Tab.get 0 (b.netPort p).rx r < 512 →
          Tab.get 0 (u.netPort p).rx r = Tab.get 0 (b.netPort p).rx r + 1) ∧
        (b.nat El.netMode = 1 → p < 2 → (b.net.learned.filter (fun e => e.1 ≠ f.srcMac)).length < 1024 →
          u.learnedOn f.srcMac = some p) ∧
        (b.switches p = true → b.forwards p f = true → f.dst ≠ f.srcMac → up1 u El.swForwarded 64 ∧
          Tab.get [] (u.netPort (1 - p)).tx (b.forwardRing f) = Tab.get [] (b.netPort (1 - p)).tx (b.forwardRing f) ++ [.forward f (b.ingress p)]))) ∧
  (let c := b.countCredit p;
    b.netUp p = true → b.nat (El.portLink p) = 1 → ¬ (p < 2 ∧ b.lanesIdle = true) → c.nextRing p = some r → Tab.get [] (b.netPort p).tx r = x :: rest →
    (∃ u, exec (.frameTransmit t p false) s = .next u ∧ (u.netPort p).sent = some (c.leaving p x) ∧ Tab.get [] (u.netPort p).tx r = rest ∧
      up1 u (El.portTxFrames p) 64) ∧
    (r = 1 ∨ r = 2 → b.nat (El.txrThreshold p r) < x.bytes →
      ∃ u, exec (.frameTransmit t p true) s = .next u ∧ (Tab.get [] (u.netPort p).tx r).head? = some x ∧
        u.nat (El.txrThreshold p r) = min 9216 (b.nat (El.txrThreshold p r) + 256) ∧ up1 u (El.txrUnderruns p r) 32 ∧
        up1 u (El.portTxUnderruns p) 32 ∧ ∃ z, u.bop.log.getLast? = some z ∧ z.code = nTxUnderrun ∧
          z.params = [p, r, min 9216 (b.nat (El.txrThreshold p r) + 256)])) ∧
  (∃ u, exec (.addressAging t m) s = .next u ∧ u.nat El.swLearned = u.net.learned.length ∧ ∀ e, e ∈ u.net.learned ↔
    e ∈ b.net.learned ∧ ¬ (e.1 = m ∧ e.2.2 + b.nat El.swAge * 1000000000 ≤ b.time.tick)) ∧
  (let port := if b.nat El.netMode = 1 ∧ b.netUp 0 = false then 1 else leg;
    leg < 2 → i < 512 → b.on (El.rxEnable i) = true → b.netUp port = true → bitOf (b.nat (El.rxLegs i)) leg = true →
    b.rxMatches leg i k = true →
    (b.rxChecks i k = false → ∃ u, exec (.streamPacketReceive t leg i k) s = .next u ∧ up1 u (El.rxOther i) 32) ∧
    (b.rxChecks i k = true → b.nat (El.rxDomain i) = 0 → b.anchored = true → ∃ q : State,
      (let m0 := b.indexOf k.ts (b.nat (El.rxRtpOffset i)) + (b.nat (El.rxLinkOffset i) : Int)
      exec (.streamPacketReceive t leg i k) s = .next (k.samples.zipIdx.foldl (fun (v : State) e => v.placeInstant i (m0 + e.2) e.1) q)) ∧
      q.nat (El.rxState i) = 2 ∧ up1 q (if leg = 0 then El.rxPacketsA i else El.rxPacketsB i) 32 ∧ q.rounds = b.rounds ∧
      (q.rxStream i).box = (b.rxStream i).box)) ∧
  (b.netUp p = true → b.answers p q = true → p < 2 →
    ∃ u, exec (.arpNdIcmp t p q) s = .next u ∧ u.regs = b.regs ∧
      Tab.get [] (u.netPort p).tx 2 = Tab.get [] (b.netPort p).tx 2 ++ [.neighbour q]) ∧
  (let per := b.txP i;
    let packetIs (l : Nat) (z : MediaPacket) : Prop := z.stream = i ∧ z.leg = l ∧ z.dscp = b.nat (El.txDscp i) ∧
      z.seq = (n + b.nat (El.txSeqBase i)) % 65536 ∧ z.ts = (n * per + b.nat (El.txRtpOffset i)) % 2 ^ 32 ∧ z.samples = b.packetSamples i n;
    (b.roundsRun = true ∨ b.drives = true) → i < 512 → b.on (El.txEnable i) = true → b.domainUp 0x0D = true → n = b.nextPacket i → n * per + per - 1 ≤ b.sampleNow →
    (b.sends (n * per + per - 1) = true → b.nat El.netMode = 0 → ∃ u, exec (.streamPacketSend t i n) s = .next u ∧ u.nextPacket i = n + 1 ∧
      u.nat (El.txState i) = (if b.drives then 1 else 2) ∧ ∀ l, l < 2 → bitOf (b.nat (El.txLegs i)) l = true →
        up1 u (if l = 0 then El.txPacketsA i else El.txPacketsB i) 32 ∧ ∃ z, packetIs l z ∧
        Tab.get [] (u.netPort l).tx (b.nat (El.txRing i)) = Tab.get [] (b.netPort l).tx (b.nat (El.txRing i)) ++ [.media z]) ∧
    (b.sends (n * per + per - 1) = false → ∃ u, exec (.streamPacketSend t i n) s = .next u ∧ u.nextPacket i = n + 1 ∧
      u.nat (El.txState i) = (if b.drives then 1 else 2) ∧ ∀ l, u.netPort l = b.netPort l)) ∧
  (b.netUp 2 = true → b.on (El.portEco 2) = true → b.nat (El.portLink 2) = 1 → b.nat (El.portRateNow 2) = 1000 → b.on (El.ptpEnable 2) = false →
    (b.netPort 2).lowSince + 60000000000 ≤ b.time.tick →
    (b.netPort 2).restoredAt = 0 ∨ (b.netPort 2).restoredAt + 600000000000 ≤ b.time.tick →
    ∃ u, exec (.portMSlowDown t) s = .next u ∧ u.nat (El.portLink 2) = 2 ∧ (u.netPort 2).slowed = true) ∧
  (b.netUp 2 = true → (b.netPort 2).slowed = true →
    ∃ u, exec (.portMRestore t) s = .next u ∧ u.nat (El.portLink 2) = 2 ∧ (u.netPort 2).slowed = false) ∧
  (b.domainUp 0x0E = true → phy = b.nat (El.portPhyAddr 2) → ∃ u, exec (.phyLinkChange t phy (if up then some mbit else none)) s = .next u ∧
    u.nat (El.portLink 2) = (if up then 1 else 0) ∧ u.nat (El.portRateNow 2) = if up = false then 0 else
      if fixedSpeed (b.nat (El.portSpeed 2)) = 0 then mbit else fixedSpeed (b.nat (El.portSpeed 2))) ∧
  (phy ≠ b.nat (El.portPhyAddr 2) → exec (.phyLinkChange t phy (if up then some mbit else none)) s = .next b) ∧
  (p < 2 → b.netUp p = true → exec (.netPortLinkChange t p up) s =
    .next ((b.setN (El.portLink p) (if up then 1 else 0)).setN (El.portRateNow p) (if up then b.lineRate p / 1000 else 0)))

/-! ### PTP, references and clocks -/

/-- R398, R400, R401, R402, R404, R405, R409: a complete Sync of the followed master gives the offset and the state SLAVE, a complete delay
answer the mean path delay, each with its quotient in ns open to either neighbour (log entry 3); requests are answered and
messages sent on ring 0; a master heard stands among those that compete; a loss of the master is counted. -/
def Obligations.PtpGoesOn : Prop := ∀ (s : State) (t p origin req stamp seq : Nat) (h : PtpHead) (data : PtpMaster) (got t0 : Int)
    (msg : PtpSend) (twoStep : Bool),
  let b := s.advance t
  let x := b.ptpPort p
  let timed (i : Instr) (forth : Int) : Prop :=
    let off := forth - psTime (b.int (El.ptpAsym p)) - x.delay
    ∃ (u : State) (o : Int), exec i s = .next u ∧ (o * 65536 - off).natAbs < 65536 ∧
      u.nat (El.ptpState p) = 9 ∧ u.int (El.ptpOffset p) = satI32 o ∧ (u.ptpPort p).offsets = (off :: x.offsets).take 8 ∧
      (u.ptpPort p).pending = none ∧ (u.ptpPort p).lastSync = b.time.tick
  let delays (i : Instr) (sum : Int) : Prop := ∃ (u : State) (d : Int), exec i s = .next u ∧ (d * 65536 - sum / 2).natAbs < 65536 ∧
    u.nat (El.ptpMeanDelay p) = min d.toNat (2 ^ 32 - 1) ∧ (u.ptpPort p).delay = sum / 2 ∧ (u.ptpPort p).reqAt = none
  let queued (u : State) (y : PtpFrame) : Prop := p < 2 → b.nat El.netMode = 0 → u.regs = b.regs ∧
    Tab.get [] (u.netPort p).tx 0 = Tab.get [] (b.netPort p).tx 0 ++ [.ptp y]
  let sends (i : Instr) (y : PtpFrame) : Prop := exec i s = .next (b.ptpEnqueue p y) ∧ queued (b.ptpEnqueue p y) y
  let loses (u : State) : Prop := u.nat (El.ptpLosses p) = min (b.nat (El.ptpLosses p) + 1) (2 ^ 32 - 1)
  (b.fromMaster p h = true →
    timed (.sync t p h origin false) (b.ingress p - h.corr - (origin : Int) * 65536) ∧
    (∃ u, exec (.sync t p h origin true) s = .next u ∧ (u.ptpPort p).pending = some (h.seq, b.ingress p - h.corr) ∧
      u.regs = b.regs) ∧
    (x.pending = some (h.seq, got) → timed (.followUp t p h origin) (got - h.corr - (origin : Int) * 65536))) ∧
  (b.ptpHears p h = true →
    (let m : PtpMaster := { data with portId := h.src };
      ∃ u, exec (.announce t p ⟨h, data⟩) s = .next u ∧ (m, b.time.tick) ∈ (u.ptpPort p).foreign ∧
        (∀ f ∈ (u.ptpPort p).foreign, f.1.portId = h.src → f = (m, b.time.tick)) ∧
        (b.nat (El.ptpState p) = 9 → x.master.map (·.portId) = some h.src → x.master.map (·.gmId) ≠ some data.gmId → loses u)) ∧
    (b.nat El.ptpProfile ≠ 2 → b.nat (El.ptpState p) = 6 → sends (.delayReq t p h)
      { b.ptpFrame p .delayResp h.seq (b.int (El.ptpLogDelay p)) with
        corr := h.corr - b.ingress p % 65536, req := h.src, got := b.ingress p }) ∧
    (b.nat El.ptpProfile = 2 → sends (.pdelayReq t p h)
      { b.ptpFrame p .pdelayResp h.seq 127 with corr := h.corr, req := h.src, got := b.ingress p })) ∧
  (x.reqAt = some t0 → b.answersReq p h req = true →
    (b.nat El.ptpProfile ≠ 2 → b.fromMaster p h = true →
      delays (.delayResp t p ⟨h, req, stamp⟩) (x.forth + ((stamp : Int) * 65536 - t0 - h.corr))) ∧
    (b.nat El.ptpProfile = 2 →
      delays (.pdelayResp t p ⟨h, req, stamp, false, false⟩) (b.ingress p - t0 - h.corr) ∧
      (∃ u, exec (.pdelayResp t p ⟨h, req, stamp, true, false⟩) s = .next u ∧ u.regs = b.regs ∧
        (u.ptpPort p).answer = some (b.ingress p - t0 - h.corr, (stamp : Int) * 65536)) ∧
      (∀ w, x.answer = some w →
        delays (.pdelayResp t p ⟨h, req, stamp, twoStep, true⟩) (w.1 - ((stamp : Int) * 65536 - w.2) - h.corr)))) ∧
  (b.ptpOn p = true →
    (b.ptpMay p msg = true → seq = Tab.get 0 x.seqs (sendPlace msg) → ∃ u z, exec (.ptpMessageSend t p msg) s = .next u ∧
      Tab.get 0 (u.ptpPort p).seqs (sendPlace msg) = (seq + 1) % 65536 ∧ queued u z ∧ z.kind = sendKind msg ∧ z.seq = seq ∧
      z.domain = b.nat El.ptpDomain ∧ z.src = b.clockId * 65536 + p + 1 ∧ z.dscp = b.nat El.ptpDscp ∧ z.clock = b.announced p) ∧
    (b.nat (El.ptpState p) = 9 → x.lastAnnounce + b.nat (El.ptpAnnounceTo p) * logNs (b.int (El.ptpLogAnnounce p)) ≤ b.time.tick →
      ∃ u, exec (.announceTimeout t p) s = .next u ∧ loses u ∧ ∀ f ∈ (u.ptpPort p).foreign, some f.1.portId ≠ x.master.map (·.portId)) ∧
    (b.nat (El.ptpState p) = 9 → x.lastSync + 3 * logNs (b.int (El.ptpLogSync p)) ≤ b.time.tick →
      ∃ u, exec (.syncTimeout t p) s = .next u ∧ loses u ∧ u.nat (El.ptpState p) = 8 ∧ (u.ptpPort p).qualified = false))

/-- R407, R408, R409, R410, R412, R414: an edge enters the mean of the last 16 and steers the DPLL where it is selected; a reference qualifies
after its time, and is rejected by its error or its missing periods; a higher entry takes over; the DPLL locks; a pulse
output rises on its grid and falls after its high time. The steered frequency is open within the pull range (log entry 3). -/
def Obligations.ReferencesGoOn : Prop := ∀ (s : State) (t c i o since : Nat) (err : Int) (high : Bool),
  let b := s.advance t
  let x := b.href c
  let st := b.nat (El.hrefState c)
  (isHref c = true → b.refStatus c = .ok → b.hrefUsable c = true →
    let e := b.edgePhase c
    let l := (e :: (if st = 0 then [] else x.edges)).take 16
    ∃ (u : State) (m : Int), exec (.refEdge t ⟨c, (b.nat (El.hrefEdge c) == 1)⟩) s = .next u ∧ (m * (l.length * 65536 : Nat) - l.sum).natAbs < l.length * 65536 ∧
      u.int (El.hrefPhase c) = satI32 m ∧ (u.href c).edges = l ∧ (u.href c).missing = 0 ∧ (st = 0 → u.nat (El.hrefState c) = 1) ∧
      (b.nat El.refSelected = c → (u.int El.dpllFreq).natAbs ≤ 100000 ∧
        (b.nat El.timeState = 2 → 10000 * 65536 < e.natAbs → u.nat El.timeState = 1))) ∧
  (isHref c = true → st = 1 ∨ st = 2 →
    (2 * x.missing + 3) * (b.hrefPeriod c).1 ≤ 2 * (b.time.tick - x.lastEdge) * (b.hrefPeriod c).2 →
    ∃ u, exec (.refMissingPeriod t c) s = .next u ∧ (u.href c).missing = x.missing + 1 ∧
      u.nat (El.hrefState c) = if b.nat (El.hrefMissing c) ≤ x.missing + 1 then 3 else st) ∧
  (isHref c = true → b.refStatus c = .ok → st ≠ 0 →
    (b.nat (El.hrefReject c) * 1000 < err.natAbs → ∃ u, exec (.refMeasureWindow t c err) s = .next u ∧
      u.nat (El.hrefState c) = 3 ∧ u.int (El.hrefFreqErr c) = satI32 err) ∧
    (err.natAbs ≤ b.nat (El.hrefReject c) * 1000 → err.natAbs ≤ b.nat (El.hrefAccept c) * 1000 → b.hrefUsable c = true → st ≠ 2 →
      x.goodSince.getD (max (b.time.tick - b.windowNs c) x.missedAt) + b.nat (El.hrefAcceptTime c) * 1000000000 ≤ b.time.tick →
      ∃ u, exec (.refMeasureWindow t c err) s = .next u ∧ u.nat (El.hrefState c) = 2 ∧ u.int (El.hrefFreqErr c) = satI32 err)) ∧
  (since + 2000000000 ≤ b.time.tick →
    let stands (u : State) : Prop := u.qualified c = true ∧
      (b.nat El.refSelected = 0 → b.prioTable.contains c = true → u.nat El.refSelected ≠ 0 ∧ u.nat El.timeState = 1)
    (isPtpRef c = true → (b.ptpPort (c - 0x30)).qualified = false → b.ptpMeets (c - 0x30) = true →
      (b.ptpPort (c - 0x30)).goodSince = some since → ∃ u, exec (.classQQualify t c) s = .next u ∧ stands u) ∧
    (isCoachRef c = true → b.refs.coachOk.contains (c - 0x40) = false → b.coachMeets (c - 0x40) = true →
      b.coachSince (c - 0x40) = some since → ∃ u, exec (.classQQualify t c) s = .next u ∧ stands u)) ∧
  (i < 8 → b.mayRevert i = true →
    ∃ u, exec (.refRevert t i) s = .next u ∧ u.nat El.refSelected = b.nat (El.refPrio i) ∧ u.nat El.timeState = 1 ∧
      u.nat El.refSwitches = min (b.nat El.refSwitches + 1) (2 ^ 32 - 1)) ∧
  (b.refs.lockSince = some since → b.nat El.timeState = 1 → since + 10000000000 ≤ b.time.tick →
    ∃ u, exec (.dpllLock t) s = .next u ∧ u.nat El.timeState = 2) ∧
  (o < 5 → b.mode ≠ 3 → (b.pulse o).high = !high → b.pulseDue o high = true →
    ∃ u, exec (.pulseOutputEdge t o high) s = .next u ∧ (u.pulse o).high = high ∧ (u.pulse o).edgeAt = b.time.clk ∧
      (high = true → u.regs = b.regs ∧ (u.pulse o).driven = true ∧ (u.pulse o).fallAt = b.time.clk + b.highNs o * 65536))

/-- R416 to R422, R425, R426, R427: a failed clock in use takes the engine to SAFE_HOLD with its cause, or counts a failed start; once
every clock in use is good and the reference is back, or 5 s passed, the engine returns; a raise of the voltage settles
before the point follows, a lower point comes first, and a missing acknowledge stops the sequencer. -/
def Obligations.ClocksGoOn : Prop := ∀ (s : State) (t : Nat) (k : ClockSource) (good ack : Bool) (x : Safe) (pt at_ : Nat),
  let b := s.advance t
  let bit (u : State) (i : Nat) : Bool := bitOf (u.nat El.clkState) i
  (b.clockUsed k = false → ∃ u, exec (.clockFailure t k) s = .next u ∧ bit u (clockBit k) = false ∧ u.mode = b.mode) ∧
  (b.clockUsed k = true → 4 ≤ b.mode → ∃ u, exec (.clockFailure t k) s = .next u ∧ u.mode = 3 ∧ bit u (clockBit k) = false ∧
    u.nat El.clkSafeCause = clockCode k ∧ u.drives = false ∧ (b.disp.changes = [] → u.roundsRun = false ∧
      u.nat El.clkSafeCount = min (b.nat El.clkSafeCount + 1) (2 ^ 32 - 1))) ∧
  (b.clockUsed k = true → b.mode = 2 → b.refs.clockFails < 3 → ∃ u, exec (.clockFailure t k) s = .next u ∧
    u.refs.clockFails = b.refs.clockFails + 1 ∧ u.nat El.clkState = 0 ∧
    (b.refs.clockFails = 2 → u.nat El.bootStatus = b.startCode k)) ∧
  (let q := b.setClk (b.goodBits k) true;
    b.mode = 3 → b.refs.safe = some x → x.returned = false → (∀ c ∈ clockSources, q.clockUsed c = true → q.clockGood c = true) →
    (x.ref = 0 → x.back = 4 ∨ x.back = 5 →
      ∃ u, exec (.clockReturn t k) s = .next u ∧ bit u (clockBit k) = true ∧ u.mode = x.back ∧ u.refs.safe = none) ∧
    (x.ref ≠ 0 → b.qualified x.ref = false → ∃ u, exec (.clockReturn t k) s = .next u ∧ bit u (clockBit k) = true ∧ u.mode = 3 ∧
      u.refs.safe = some { x with returned := true, waitFrom := b.time.tick })) ∧
  (b.mode = 3 → b.refs.safe = some x → x.returned = true → x.waitFrom + 5000000000 ≤ b.time.tick → x.back = 4 ∨ x.back = 5 →
    ∃ u, exec (.referenceWaitExpiry t) s = .next u ∧ u.mode = x.back ∧ u.refs.safe = none) ∧
  (b.mode = 2 → b.startsOn = true → ∃ u, exec (.xoJudgement t true) s = .next u ∧ bit u 0 = true ∧ u.mode = 2) ∧
  (b.mode = 2 → b.refs.clockFails = 2 → ∃ u, exec (.xoJudgement t false) s = .next u ∧ u.nat El.bootStatus = 0x31) ∧
  (2 ≤ b.mode → b.mode ≠ 3 → b.clockGood .xo = true → (b.mode = 2 → b.startsOn = true ∧ b.pllsLocked = true) →
    ∃ u, exec (.audrefJudgement t true) s = .next u ∧ bit u 1 = true ∧
    (b.nat El.clkBase = 1 → bit u 2 = true)) ∧
  (2 ≤ b.mode → b.mode ≠ 3 → b.clockGood .xo = true → k ≠ .xo → k ≠ .audref →
    (b.mode = 2 → b.startsOn = true ∧ (k = .dpll → b.dpllMay = true)) →
    ∃ u, exec (.pllLock t k) s = .next u ∧ bit u (clockBit k) = true ∧ u.mode = b.mode) ∧
  (∃ u, exec (.sgmiiClockFailure t) s = .next u ∧ b.Sets u [(El.portLink 2, .int 0), (El.portRateNow 2, .int 0)]) ∧
  (let p := b.nat El.dvfsPoint;
    b.nat El.dvfsState = 0 → b.refs.raise = none → b.roundsRun = true → b.needsPoint3 = false →
    (0 < b.clustersUp → p < 3 → p < b.nat El.dvfsMax → 0 < b.nat El.lagNow ∨ 218 ≤ b.nat (El.phaseEnd 3) ∨ p < b.nat El.dvfsMin →
      (b.nat El.dvfsIf ≠ 1 ∨ ack = true → ∃ u, exec (.dvfsRaise t ack) s = .next u ∧ u.regs = b.regs ∧
        u.refs.raise = some (b.fitFrom (p + 1), b.time.tick + b.nat El.dvfsSettle * 1000)) ∧
      (b.nat El.dvfsIf = 1 → ∃ u, exec (.dvfsRaise t false) s = .next u ∧ u.nat El.dvfsState = 2 ∧ u.nat El.dvfsPoint = p ∧
        u.nat El.dvfsErrors = min (b.nat El.dvfsErrors + 1) (2 ^ 32 - 1))) ∧
    (b.refs.lowSince + 1000000000 ≤ b.time.tick ∨ b.nat El.dvfsMax < p → b.nat El.dvfsMin < p → b.pathsFit (p - 1) = true →
      (b.nat El.dvfsIf ≠ 1 ∨ ack = true → ∃ u, exec (.dvfsLower t ack) s = .next u ∧ u.nat El.dvfsPoint = p - 1 ∧
        u.nat El.dvfsChanges = min (b.nat El.dvfsChanges + 1) (2 ^ 32 - 1)) ∧
      (b.nat El.dvfsIf = 1 → ∃ u, exec (.dvfsLower t false) s = .next u ∧ u.nat El.dvfsState = 2 ∧ u.nat El.dvfsPoint = p))) ∧
  (b.refs.raise = some (pt, at_) → at_ ≤ b.time.tick → (b.roundsRun = true → at_ ≤ b.lastPulse) →
    ∃ u, exec (.dvfsSettle t) s = .next u ∧ u.nat El.dvfsPoint = pt ∧ u.refs.raise = none ∧
      u.nat El.dvfsChanges = min (b.nat El.dvfsChanges + 1) (2 ^ 32 - 1))

/-! ### Coach links and the courier -/

/-- R364, R367, R369, R371, R372, R374, R375, R376, R378, R382, R383, R389: a link goes down without its lock or its time sections; a time
section gives delay and offset, each with its half open (log entry 3), and the state of the link; sums and channels in time
enter their rounds, a bad or a late section counts; the highest-ranked section that is ready is sent; a wait that runs out
counts the round as missing. -/
def Obligations.CoachLinksGoOn : Prop := ∀ (s : State) (t l r n first : Nat) (ok locked : Bool) (x : TimeSection) (part ch : List Int)
    (msgs : List (List Byte)) (msg : List Byte) (item : CourierItem),
  let b := s.advance t
  let k := b.link l
  let now := b.lineUp b.workRound
  let up1 (u : State) (a : Nat) : Prop := u.nat a = min (b.nat a + 1) (2 ^ 32 - 1)
  b.linkOn l = true →
  (∃ u, exec (.blockLock t l locked) s = .next u ∧ (u.link l).blockLock = locked ∧
    (if locked then u.nat (El.lkState l) = b.nat (El.lkState l) else u.nat (El.lkState l) = 1 ∧ (u.link l).matched = 0)) ∧
  (k.blockLock = true → ∃ (u : State) (d o : Int), exec (.timeSection t l x) s = .next u ∧ u.nat (El.lkFarEngine l) = x.engine ∧
    (u.link l).lastSection = b.time.tick ∧
    (x.t3 ≠ 0 → (2 * d - (((x.t4 : Int) - x.t3) + ((x.arrival : Int) - x.t1))).natAbs < 2 ∧
      (2 * o - (((x.t4 : Int) - x.t3) - ((x.arrival : Int) - x.t1))).natAbs < 2 ∧
      u.nat (El.lkDelay l) = wrap 32 d ∧ u.int (El.lkOffset l) = signed 32 (wrap 32 o)) ∧
    (if b.refusalOf x ≠ 0 then u.nat (El.lkState l) = 4 ∧ u.nat (El.lkRefusal l) = b.refusalOf x ∧ (u.link l).matched = 0
    else if b.sectionFits x then u.nat (El.lkState l) = (if 15 ≤ k.matched then 3 else 2) ∧ u.nat (El.lkRefusal l) = 0 ∧
      (u.link l).matched = min 16 (k.matched + 1)
    else u.nat (El.lkState l) = 2 ∧ u.nat (El.lkRefusal l) = 0 ∧ (u.link l).matched = 0)) ∧
  (k.lastSection + b.roundsNs 3 ≤ b.time.tick →
    ∃ u, exec (.timeSectionTimeout t l) s = .next u ∧ u.nat (El.lkState l) = 1 ∧ (u.link l).matched = 0) ∧
  (b.isCourier l = false →
    (0 < b.roundB → ∃ u v, exec (.sumsSection t l r [0] [(n, part)]) s = .next u ∧ up1 u (El.lkCrcErr l) ∧
      u.partOf r l n = b.partOf r l n ∧ exec (.channelsSection t l r first [0] [ch]) s = .next v ∧ up1 v (El.lkCrcErr l) ∧
      Tab.get [] (Tab.get [] v.rounds.inTrays (r + 3)) (sigCoach (4096 * l + first)) =
        Tab.get [] (Tab.get [] b.rounds.inTrays (r + 3)) (sigCoach (4096 * l + first))) ∧
    (b.inStep l = true → b.chosen l = true →
      (now ≤ r + 1 → (r + 1 = now → b.rounds.passes = 0) → n ∉ b.mix.sumGone →
        ∃ u, exec (.sumsSection t l r [] [(n, part)]) s = .next u ∧ u.regs = b.regs ∧ u.partOf r l n = part.map satSum) ∧
      (b.smpClk + 2000 * 65536 ≤ b.clkOf ((r + 3) * b.roundB) → b.rounds.nextPulse ≤ r + 3 → b.pairLinks l = [l] → first < b.cap 4096 →
        ∃ u, exec (.channelsSection t l r first [] [ch]) s = .next u ∧
          Tab.get [] (Tab.get [] u.rounds.inTrays (r + 3)) (sigCoach (4096 * l + first)) = ch.take b.roundB) ∧
      (b.clkOf ((r + 3) * b.roundB) < b.smpClk + 2000 * 65536 →
        ∃ u, exec (.channelsSection t l r first [] [ch]) s = .next u ∧ up1 u (El.lkLate l) ∧ u.rounds = b.rounds))) ∧
  (k.blockLock = true → exec (.tunnelSection t l [0] [msg]) s = .next (b.inc (El.lkCrcErr l)) ∧
    exec (.tunnelSection t l [] msgs) s = .next (msgs.foldl (fun (q : State) m => q.fromTunnel l m) b)) ∧
  (3 < b.mode → k.ready.contains 0 = true → ∃ u, exec (.sectionSend t l) s = .next u ∧ (u.link l).sending = some 0 ∧ (u.link l).sentAt = b.localNs ∧
    0 ∉ (u.link l).ready ∧ u.regs = b.regs) ∧
  (3 < b.mode → k.ready = [] → k.tunnel = [msg] → tunnelBytes msg ≤ 16384 → 2 ≤ b.nat (El.lkState l) →
    ∃ u, exec (.sectionSend t l) s = .next u ∧ (u.link l).sending = some 4 ∧ (u.link l).tunnelled = [msg] ∧ (u.link l).tunnel = []) ∧
  (3 < b.mode → b.nat (El.lkState l) ≠ 4 → b.isCourier l = true → k.ready = [1] → k.tunnel = [] → b.twin.courier = [item] → itemBytes item ≤ 4088 →
    ∃ u, exec (.sectionSend t l) s = .next u ∧ (u.link l).sending = some 1 ∧ u.twin.sent = [item] ∧ u.twin.courier = []) ∧
  (n < 512 → b.rounds.current = some r → b.awaited (b.lineUp r - 1) n ≠ [] → n ∉ b.mix.sumGone →
    (∀ m ∈ b.awaited (b.lineUp r - 1) n, Tab.get 0 b.rounds.pulseAt r + b.nat (El.lkSumWait m) * b.roundsNs 1 / 256 ≤ b.time.tick) →
    ∃ u, exec (.sumWaitExpiry t n) s = .next u ∧ u.mix.sumGone = n :: b.mix.sumGone ∧ up1 u (El.dbMissing n) ∧ u.penaltyHeld 0 = true)

/-- R367, R475, R476, R477, R479, R480, R482, R318: an item of a courier section does what its own command does; a heartbeat silences no path
and decides a joining; digests are compared; the SHADOW takes the positions of its groups and the changes of the ACTIVE; the
ACTIVE executes a forwarded request, and its response answers the host; a joining engine compares identities. -/
def Obligations.CourierGoesOn : Prop := ∀ (s : State) (t round played role health ref claim crc id eff fid a g pos st : Nat) (v : Val)
    (r : Rec) (e : Nat × Who × Rec) (data : List Byte) (groups : List (Nat × Nat × Nat)) (w : List (Nat × Val)) (ft fw fmt fs B engine tg : Nat),
  let b := s.advance t
  let own := Tab.get 0 b.twin.digests round
  (b.courierOn = true → (b.link 3).blockLock = true → b.nat (El.lkState 3) ≠ 4 →
    exec (.courierSection t ⟨[], [.heartbeat round played role health ref claim]⟩) s = exec (.heartbeat t round played role health ref claim) s ∧
    exec (.courierSection t ⟨[], [.digest round crc]⟩) s = exec (.digest t round crc) s ∧
    exec (.courierSection t ⟨[], [.asrc round groups]⟩) s = exec (.asrcPositions t round groups) s ∧
    exec (.courierSection t ⟨[], [.change id eff fid w]⟩) s = .next ((b.dropRef 4 id).changeItem eff fid w) ∧
    exec (.courierSection t ⟨[0], [.heartbeat round played role health ref claim]⟩) s = .next (b.inc (El.lkCrcErr 3)) ∧
    exec (.courierSection t ⟨[], [.request fid role r]⟩) s = exec (.forwardedRequest t fid role r) s ∧
    exec (.courierSection t ⟨[], [.response fid r]⟩) s = exec (.forwardedResponse t fid r) s ∧
    exec (.courierSection t ⟨[], [.identity ft fw fmt fs B engine tg]⟩) s = exec (.identity t ft fw fmt fs B engine tg) s ∧
    exec (.courierBulkSection t [] data) s = .next { b with twin := { b.twin with bulk := b.twin.bulk ++ data } } ∧
    exec (.courierBulkSection t [0] data) s = .next (b.inc (El.lkCrcErr 3))) ∧
  (b.twinned = true → b.linkOn 3 = true →
    (∃ u, exec (.heartbeat t round played role health ref claim) s = .next u ∧ u.twin.silentCourier = 0 ∧ u.twin.everHeard = true ∧
      u.twin.partnerRole = role ∧ u.nat El.twPartnerClaim = claim ∧ bitOf (u.nat El.twPaths) 0 = true ∧
      (b.nat El.twRole = 1 → b.nat El.twRefusal = 0 →
        (role = 3 ∨ role = 4 ∨ role = 5 → u.mode = 8 ∧ u.nat El.twRole = 2) ∧
        (role = 1 → b.nat El.twPartnerEngine ≠ 0xFFFF → claim < b.claim → u.mode = 6 ∧ u.nat El.twRole = 4))) ∧
    (own = 0 → ∃ u, exec (.digest t round crc) s = .next u ∧ u.regs = b.regs ∧ Tab.get 0 u.twin.partnerDigests round = crc + 1) ∧
    (own = crc + 1 → b.compares = true → ∃ u, exec (.digest t round crc) s = .next u ∧ u.regs = b.regs ∧ u.twin.run = 0) ∧
    (own ≠ 0 → own ≠ crc + 1 → b.compares = true → ∃ u, exec (.digest t round crc) s = .next u ∧
      u.nat El.twMismatches = min (b.nat El.twMismatches + 1) (2 ^ 32 - 1) ∧ (b.mode = 6 → u.twin.run = b.twin.run + 1) ∧
      (b.mode = 7 → b.nat El.twMismatchLimit ≤ b.twin.run + 1 → u.mode = 8 ∧ u.nat El.twRole = 2)) ∧
    (b.mode ≠ 6 → ∃ u, exec (.asrcPositions t round [(g, pos, st)]) s = .next u ∧ u.twin.asrcRound = round + 1 ∧
      (b.asrcFollows = true → g < 32 → u.nat (El.agState g) = st ∧ Tab.get 0 u.sap.asrcPos g = pos)) ∧
    (∃ u, exec (.identity t ft fw fmt fs B engine tg) s = .next u ∧ u.nat El.twPartnerEngine = engine % 65536 ∧
      (b.nat El.twRole = 1 → (ft ≠ b.variant.featureMap → u.nat El.twRefusal = 1) ∧
        (ft = b.variant.featureMap → fw = b.nat El.fwVersion → fmt = b.nat El.settingsFormat → fs = b.nat El.fsInt → B = b.roundB →
          engine % 256 ≠ b.nat El.engineNumber % 256 → tg = b.nat El.tgId → u.nat El.twRefusal = 0)))) ∧
  (b.courierOn = true →
    (b.mode = 7 ∨ b.mode = 8 → isHead a = false → isTwinned a = true →
      (isDelayed a = false → exec (.change t id eff 0 [(a, v)]) s = .next ((b.applyUnit a v).noteSetting a)) ∧
      (isDelayed a = true → ∃ u, exec (.change t id eff fid [(a, v)]) s = .next u ∧
        (∃ c ∈ u.disp.changes, c.eff = eff ∧ c.fid = fid) ∧ (fid ≠ 0 → Tab.get 0 u.twin.got fid = eff + 1))) ∧
    (b.mode = 6 → ∀ y, b.operate ⟨.peer fid role, 0, r.opId⟩ r = y →
      exec (.forwardedRequest t fid role r) s = .next (match y.1 with
        | none => y.2
        | some z => y.2.courierPut (.response fid z))) ∧
    (b.bop.forwarded.find? (fun q => q.1 = fid) = some e →
      exec (.forwardedResponse t fid r) s = .next ((b.dropForwarded fid).giveAnswer e.2.1 e.2.2 { r with opId := e.2.2.opId })))

/-! ### Twin operation -/

/-- R475, R480, R483, R484, R485, R487, R488, R491, R492, R494, R498, R500: pulses and silence of the heartbeat paths; a claim window is won
or lost, and its handover and driver enable follow; a lapsed watchdog takes the engine to FAULT; an engine alone becomes
ACTIVE; a penalty goes; a resync takes its steps and ends in SHADOW. -/
def Obligations.TwinGoesOn : Prop := ∀ (s : State) (t path width pen k : Nat) (x : ClaimLine) (y : Machine.Snapshot) (settings : List (Nat × Val)),
  let b := s.advance t
  (b.twinned = true → 40 ≤ width → ∃ u, exec (.hbPulse ⟨t, width⟩) s = .next u ∧ u.twin.silentPair = 0 ∧ u.twin.everHeard = true ∧ bitOf (u.nat El.twPaths) 1 = true) ∧
  (b.twinned = true → path = 1 ∨ path = 2 → b.silent path = true → ∃ u, exec (.pathSilent t path) s = .next u ∧
    bitOf (u.nat El.twPaths) (path - 1) = false ∧
    (b.partnerFailed = true → b.mode = 8 → b.nat El.twRole = 2 → u.nat El.twRole = 6 ∧ u.twin.resyncStep = 0 ∧ u.mode = 8)) ∧
  (b.courierWaits b.rounds.nextRound = true → b.rounds.current = none → b.rounds.waiting ≠ [] →
    Tab.get 0 b.rounds.pulseAt b.rounds.nextRound + b.nat El.twCourierWait * b.roundsNs 1 / 256 ≤ b.time.tick →
    exec (.courierWaitExpiry t (roundIdx b.rounds.nextRound)) s = .next (b.setN El.twRole 5)) ∧
  (b.twinned = true → b.twin.watchdog = true → b.twin.window ≠ some b.roundIssued → b.rounds.first < b.rounds.nextPulse →
    ∃ u, exec (.claimWindow t x) s = .next u ∧ u.twin.window = some b.roundIssued ∧ u.twin.handed = false ∧
      u.nat El.twClaim = b.claim ∧ u.twin.slots = (b.claimPulls x.others).1 ∧
      (x.idleLow = true ∨ x.stuckHigh = true → u.twin.won = false ∧ bitOf (u.nat El.twPaths) 3 = true) ∧
      (x.idleLow = false → x.stuckHigh = false → u.twin.won = (b.claimPulls x.others).2 ∧
        u.twin.present = x.others.getD (if b.lowerTie then 2 else 1) false ∧ (u.twin.present = false → u.nat El.twPartnerClaim = 0) ∧
        (u.twin.won = false → b.mode = 7 → b.partnerFailed = true → b.nat El.twRole = 3 → u.nat El.twRole = 5))) ∧
  (b.twin.window = some k → b.twin.handed = false → b.twinned = true → b.handSample k ≤ b.sampleNow →
    (b.twin.won = true → b.mode = 7 → b.bop.forwarded = [] → ∃ u, exec (.handover t) s = .next u ∧ u.mode = 6 ∧ u.nat El.twRole = 4 ∧
      u.twin.handed = true ∧ u.nat El.twTakeovers = min (b.nat El.twTakeovers + 1) (2 ^ 32 - 1)) ∧
    (b.twin.won = false → b.mode = 6 → b.twin.driving = true → ∃ u, exec (.handover t) s = .next u ∧ u.mode = 7 ∧ u.nat El.twRole = 3 ∧
      u.twin.driving = false ∧ u.drives = false ∧ u.nat El.twTakeovers = min (b.nat El.twTakeovers + 1) (2 ^ 32 - 1)) ∧
    (b.twin.won = true → b.mode = 6 → exec (.handover t) s = .next { b with twin := { b.twin with handed := true } })) ∧
  (b.twin.window = some k → b.mode = 6 → b.twin.won = true → b.twin.handed = true → b.twin.driving = false →
    b.clkOf (b.handSample k) + (if b.twin.present = true ∧ b.inStep 3 = false then 2120 else 120) * 65536 ≤ b.smpClk →
    ∃ u, exec (.driverEnable t) s = .next u ∧ u.twin.driving = true ∧ u.drives = true ∧
      u.nat El.twLastDrove = b.firstSample b.roundIssued) ∧
  (b.anchored = true → 5 ≤ b.mode → b.mode ≤ 10 →
    ∃ u, exec (.watchdogLapse t) s = .next u ∧ u.mode = 11 ∧ u.nat El.faultCause = 2 ∧ u.twin.driving = false ∧ u.drives = false) ∧
  (b.mode = 8 → b.nat El.twRole = 1 → b.nat El.twRefusal = 0 → b.twin.everHeard = false →
    b.twin.joinedAt + b.nat El.twAloneWait * 1000000 ≤ b.time.tick →
    ∃ u, exec (.aloneWaitExpiry t) s = .next u ∧ u.mode = 6 ∧ u.nat El.twRole = 4) ∧
  (pen < 5 → b.penaltyHeld pen = true → Tab.get 0 b.twin.penaltyAt pen + 10000000000 ≤ b.time.tick + 1 →
    ∃ u, exec (.penaltyExpiry t pen) s = .next u ∧ u.penaltyHeld pen = b.penaltyNow pen ∧ ∀ i, i ≠ pen → u.penaltyHeld i = b.penaltyHeld i) ∧
  (b.mode = 8 → b.nat El.twRole = 2 → b.twin.resyncStep = 1 →
    ∃ u, exec (.resyncSettingsReceived t settings) s = .next u ∧ u.twin.resyncStep = 2 ∧ u.twin.bulk = []) ∧
  (b.mode = 6 → b.twin.partnerRole = 2 →
    ∃ u, exec (.snapshot t) s = .next u ∧ u.twin.frozen = some b.freeze ∧ (b.linkOn 3 = true → 5 ∈ (u.link 3).ready) ∧ u.regs = b.regs) ∧
  (b.mode = 8 → b.nat El.twRole = 2 → b.twin.resyncStep = 2 →
    ∃ u, exec (.snapshotReceived t y) s = .next u ∧ u.twin.resyncStep = 3 ∧ u.twin.bulk = [] ∧ u.mix.inEffect = y.inEffect ∧
      u.strips = y.strips ∧ u.nat El.twResyncProgress = 100) ∧
  (b.mode = 8 → b.twin.resyncStep = 3 → b.nat El.lagNow = 0 → b.rounds.waiting = [] →
    ∃ u, exec (.replayDone t) s = .next u ∧ u.twin.resyncStep = 4 ∧ u.regs = b.regs) ∧
  (b.mode = 8 → b.twin.resyncStep = 4 → 64 ≤ b.twin.verified →
    ∃ u, exec (.resyncVerifyDone t) s = .next u ∧ u.mode = 7 ∧ u.nat El.twRole = 3 ∧ u.twin.resyncStep = 0)

/-! ### Memory and the crossbar -/

/-- R446, R449, R450, R453, R454, R455, R456, R458, R460, R461, R464, R466, R468: a request at an idle controller is held or served, its errors
corrected, counted and answered by its class; old requests are promoted; rows are redirected and repaired; tests of the
on-chip memories spare or report a fault; a burst is refused whole or performed; the windows swap. -/
def Obligations.MemoryGoesOn : Prop := ∀ (s : State) (t ch off a bank row island mem region kind : Nat) (q : DramReq) (h : HeldReq) (x : Burst)
    (data : List Byte) (res : Bool),
  let b := s.advance t
  let c := b.chan ch
  let place := Config.rowOf ch off
  let scrubbed := Tab.get 0 c.scrubbed (a / 64)
  let scrubNs := b.nat El.dramScrubHours * 3600000000000
  let tested := Tab.get 0 b.mem.bistAt island
  let queued (u : State) (r : Nat) : Prop := r ∈ (u.chan ch).waiting ∨ r ∈ (u.chan ch).copied ∨ r ∈ (u.chan ch).entries ∨ r ∈ (u.chan ch).forGood
  let up1 (u : State) (a : Nat) : Prop := u.nat a = min (b.nat a + 1) (2 ^ 32 - 1)
  (b.placeOf q.addr = some (ch, off) → b.chanRuns ch = true → c.held = [] →
    (q.wait = true → ∃ u, exec (.dramRequest t q) s = .next u ∧ u.regs = b.regs ∧ u.mem.dram = b.mem.dram ∧
      (u.chan ch).held = [⟨b.mem.nextReq, b.time.tick, q, false⟩]) ∧
    (q.wait = false → q.write = some data → q.ecc = 0 → ∃ u, exec (.dramRequest t q) s = .next u ∧ u.regs = b.regs ∧
      u.mem.dram = (b.dramWrite q.addr data).mem.dram ∧ u.mem.dramOut = ([], false) ∧ (u.chan ch).held = []) ∧
    (q.wait = false → q.write = none → c.lost q.addr q.len = false → q.ecc ≠ 2 → ∃ u, exec (.dramRequest t q) s = .next u ∧
      u.mem.dram = b.mem.dram ∧ u.mem.dramOut = (b.dramRead q.addr q.len, false) ∧ (q.ecc = 1 → up1 u (El.dcCe ch)) ∧
      (q.ecc = 0 → u.regs = b.regs)) ∧
    (q.wait = false → q.write = none → q.ecc = 2 → q.arms = none → ∃ u, exec (.dramRequest t q) s = .next u ∧ up1 u (El.dcUe ch) ∧
      queued u place ∧ u.penaltyHeld 1 = true ∧
      (if classRank q.cls ≤ 1 then u.mem.dramOut.2 = false ∧
          ∀ i, i < q.len → (q.addr + i) / 64 = q.addr / 64 → u.mem.dramOut.1[i]? = some 0
        else u.mem.dramOut = ([], true)))) ∧
  (h ∈ c.held → h.promoted = false → ∀ lim, classLimit h.req.cls = some lim → h.at_ + lim < b.time.tick →
    ∃ u, exec (.promotion t ch h.num) s = .next u ∧ up1 u (El.dcPromoted ch) ∧ { h with promoted := true } ∈ (u.chan ch).held) ∧
  (b.chanRuns ch = true →
    (∃ u, exec (.refresh t ch bank) s = .next u ∧ u.regs = b.regs ∧ u.mem.dram = b.mem.dram ∧
      Tab.get 0 (u.chan ch).refreshed bank = Tab.get 0 c.refreshed bank + 1) ∧
    (c.toCorrect = true ∨ b.readsDue ch = true →
      ((∀ e ∈ c.held, e.rank ≠ 0) → ∃ u, exec (.retrain t ch) s = .next u ∧ up1 u (El.dcRetrains ch) ∧ (u.chan ch).toCorrect = false) ∧
      (h ∈ c.held → h.rank = 0 → ∃ u, exec (.retrain t ch) s = .next u ∧ u.regs = b.regs ∧ (u.chan ch).toCorrect = true)) ∧
    (row ∈ c.waiting → c.copied.length + c.entries.length + c.forGood.length < 8 → ∃ u, exec (.rowRedirect t ch row) s = .next u ∧
      row ∉ (u.chan ch).waiting ∧ (b.anchored = true → row ∈ (u.chan ch).copied ∧ (u.chan ch).entries = c.entries ∧ u.flash = b.flash) ∧
      (b.anchored = false → row ∈ (u.chan ch).entries ∧ u.flash.repair.head? = some (.row ch row) ∧
        u.nat (El.dcRedirects ch) = c.entries.length + 1 + c.forGood.length ∧ ∀ e ∈ (u.chan ch).bad, e.2 ≠ row)) ∧
    (b.mode = 10 → row ∈ c.entries → ∃ u, exec (.postPackageRepair t ch row res) s = .next u ∧ row ∉ (u.chan ch).entries ∧
      (if res then up1 u (El.dcRepaired ch) ∧ Repair.row ch row ∉ u.flash.repair else row ∈ (u.chan ch).forGood ∧ u.flash = b.flash)) ∧
    (scrubbed ≠ 0 → b.time.tick < scrubbed - 1 + scrubNs → exec (.patrolScrub t ch a kind) s = .next b) ∧
    (scrubbed = 0 ∨ scrubbed - 1 + scrubNs ≤ b.time.tick →
      (c.lost a 1 = false →
        (∃ u, exec (.patrolScrub t ch a 0) s = .next u ∧ u.regs = b.regs ∧ u.mem.dram = b.mem.dram ∧
          Tab.get 0 (u.chan ch).scrubbed (a / 64) = b.time.tick + 1) ∧
        (∃ u, exec (.patrolScrub t ch a 1) s = .next u ∧ up1 u (El.dcCe ch) ∧ u.mem.dram = b.mem.dram)) ∧
      (∃ u, exec (.patrolScrub t ch a 2) s = .next u ∧ up1 u (El.dcUe ch) ∧ u.penaltyHeld 1 = true))) ∧
  (b.on El.bistEnable = true → b.domainUp island = true → island < 20 → b.testSkips island mem = false →
    tested = 0 ∨ tested - 1 + b.nat El.bistPeriod * 1000 ≤ b.time.tick →
    let used := Tab.get (0, 0) b.mem.spares (65536 * island + mem)
    (∃ u, exec (.bistRegion t island mem region 0) s = .next u ∧ u.nat El.bistRegions = min (b.nat El.bistRegions + 1) (2 ^ 64 - 1) ∧
      Tab.get 0 u.mem.bistAt island = b.time.tick + 1 ∧ u.mem.sram = b.mem.sram ∧ u.flash = b.flash) ∧
    (∃ u, exec (.bistRegion t island mem region 3) s = .next u ∧ up1 u El.sramCe) ∧
    (kind = 1 ∧ used.1 < 4 ∨ kind = 2 ∧ used.2 < 2 → ∃ u, exec (.bistRegion t island mem region kind) s = .next u ∧ up1 u El.bistRepairs ∧
      u.flash.repair = .sram island mem region kind :: b.flash.repair ∧ ∃ z, u.bop.log.getLast? = some z ∧ z.code = nSramRepair ∧
      z.params = [island, mem, region, kind]) ∧
    (kind = 1 ∧ 4 ≤ used.1 ∨ kind = 2 ∧ 2 ≤ used.2 → ∃ u, exec (.bistRegion t island mem region kind) s = .next u ∧ up1 u El.bistUnrepaired ∧
      u.penaltyHeld 1 = true ∧ u.flash = b.flash) ∧
    (5 ≤ b.mode → b.mode ≤ 10 → ∃ u, exec (.bistRegion t island mem region 4) s = .next u ∧ u.mode = 11 ∧
      u.nat El.faultCause = if island = 1 then 4 else 3)) ∧
  (b.domainUp 1 = true → x.master < 14 → x.len ≠ 0 → b.mem.remapBusy = false →
    ((∃ a ∈ burstRange x, b.target a = .none) → ∃ u, exec (.crossbarAccess t x) s = .next u ∧ up1 u El.fabDecodeErr ∧ u.mem.xbarOut.1 = 1 ∧
      u.mem.sram = b.mem.sram ∧ u.mem.dram = b.mem.dram ∧ b.target (u.nat El.fabDecodeAddr) = .none) ∧
    ((∀ a ∈ burstRange x, b.target a ≠ .none) → b.burstAllowed x = false → ∃ u, exec (.crossbarAccess t x) s = .next u ∧
      (12 ≤ x.master → up1 u El.fabDenied ∧ u.mem.sram = b.mem.sram ∧ u.mem.dram = b.mem.dram ∧
        u.mem.xbarOut.1 = if x.master = 13 then 2 else 1) ∧ (x.master < 12 → 5 ≤ b.mode → b.mode ≤ 10 → u.mode = 11 ∧ u.nat El.faultCause = 5)) ∧
    ((∀ a ∈ burstRange x, b.target a = .sram a) → b.burstAllowed x = true →
      (x.write = some data → data.length = 16 * x.len → ∃ u, exec (.crossbarAccess t x) s = .next u ∧ u.regs = b.regs ∧ u.mem.xbarOut = (0, []) ∧
        (∀ i, i < data.length → some (u.busByte (x.addr + i)) = data[i]?) ∧
        ∀ a, a < x.addr ∨ x.addr + data.length ≤ a → Tab.get 0 u.mem.sram a = Tab.get 0 b.mem.sram a) ∧
      (x.write = none → ∃ u, exec (.crossbarAccess t x) s = .next u ∧ u.regs = b.regs ∧ u.mem.sram = b.mem.sram ∧
        u.mem.xbarOut = (0, (burstRange x).map (fun a => Tab.get 0 b.mem.sram a))))) ∧
  (b.mem.remapBusy = true →
    (b.domainUp 1 = true → x.master < 14 → x.len ≠ 0 → (∃ a ∈ burstRange x, inWindow a = true) →
      exec (.crossbarAccess t x) s = .next { b with mem := { b.mem with heldBursts := b.mem.heldBursts ++ [x] } }) ∧
    exec (.remapSwap t) s = .next (b.mem.heldBursts.foldl (fun (k : State) y => k.checkBurst y)
      { b with mem := { b.mem with remap := true, remapBusy := false, heldBursts := [] } }))

/-! ### Power stages -/

/-- R516, R517, R518, R519, R520, R521: the steps of a start follow one another; a lead test records its resistance, and one that fails
shuts the channel down; an input outside blanking cuts, and a carrier period counts once; more than 32 cut periods in 1 ms shut the
channel down, the sixth failed retry latches it; a retry starts it again, and 10 s of running end the episode. -/
def Obligations.PowerStagesGoOn : Prop := ∀ (s : State) (t n m r mohm : Nat) (up : Bool),
  let b := s.advance t
  let x := b.pscCh n
  let f := b.nat (El.pgFsw (pscGroup n))
  let ohms := x.loop.measured mohm up
  let amps := x.loop.iPos - x.loop.iNeg
  let cuts := b.time.tick :: x.cuts.filter (fun z => decide (b.time.tick < z + 1000000))
  let shuts (u : State) : Prop := (u.pscCh n).step = 0 ∧ u.nat (El.pscShutdowns n) = min (b.nat (El.pscShutdowns n) + 1) (2 ^ 32 - 1)
  n < 32 →
  (b.pscSwitches n = true → b.mode = 7 ∨ b.pscBlanked n = false →
    (x.cutPeriod = some (b.pscPeriod n) → ∃ u, exec (.overCurrent t n) s = .next u ∧ u.regs = b.regs ∧ (u.pscCh n).cuts = x.cuts ∧
      (u.pscCh n).shut = x.shut) ∧
    (x.cutPeriod ≠ some (b.pscPeriod n) →
      (cuts.length ≤ 32 ∨ x.step = 6 → ∃ u, exec (.overCurrent t n) s = .next u ∧ (u.pscCh n).cuts = cuts ∧ (u.pscCh n).shut = x.shut ∧
        (u.pscCh n).cutPeriod = some (b.pscPeriod n) ∧ u.nat (El.pscCutCycles n) = min (b.nat (El.pscCutCycles n) + 1) (2 ^ 32 - 1)) ∧
      (32 < cuts.length → x.step ≠ 6 → x.retryRun = false → ∃ u, exec (.overCurrent t n) s = .next u ∧ shuts u ∧ (u.pscCh n).shut = 1 ∧
        u.nat (El.pscState n) = 4 ∧ (u.pscCh n).nextRetry = some (b.boundaryAfter 250) ∧ ∃ z, u.bop.log.getLast? = some z ∧
          z.code = nOcShutdown ∧ z.params = [n, 1, cuts.length, 0, 250]) ∧
      (32 < cuts.length → x.step ≠ 6 → x.retryRun = true → x.runSince = none → x.failed = 5 → ∃ u, exec (.overCurrent t n) s = .next u ∧
        shuts u ∧ (u.pscCh n).shut = 2 ∧ u.nat (El.pscState n) = 5 ∧ (u.pscCh n).nextRetry = none ∧ ∃ z, u.bop.log.getLast? = some z ∧
          z.code = nPscLatch))) ∧
  (x.step = 1 → ∃ u, exec (.senseClockReturn t n) s = .next u ∧
    (u.pscCh n).step = (if x.recovery then 4 else if b.on (El.pscTestOnStart n) then 2 else 3) ∧ (u.pscCh n).since = b.time.tick) ∧
  (x.since + 50000000 ≤ b.time.tick ∨ x.testCut = true →
    (amps ≠ 0 → (ohms * amps - (x.loop.vPos - x.loop.vNeg) * 1000).natAbs < amps.natAbs) ∧
    (x.step = 2 →
      (x.testCut = false → (b.nat (El.pscRMin n) : Int) ≤ ohms → ohms ≤ b.nat (El.pscRMax n) →
        ∃ u, exec (.leadTestDone t n mohm up) s = .next u ∧ (u.pscCh n).step = 3 ∧ u.nat (El.pscMeasR n) = min ohms.toNat 65535) ∧
      (x.testCut = true ∨ ohms < b.nat (El.pscRMin n) ∨ (b.nat (El.pscRMax n) : Int) < ohms → x.retryRun = false →
        ∃ u, exec (.leadTestDone t n mohm up) s = .next u ∧ shuts u ∧ (u.pscCh n).shut = 1 ∧ u.nat (El.pscMeasR n) = min ohms.toNat 65535)) ∧
    (x.step = 6 → ∃ u, exec (.leadTestDone t n mohm up) s = .next u ∧ (u.pscCh n).step = 0 ∧ (u.pscCh n).shut = x.shut ∧
      u.nat (El.pscMeasR n) = min ohms.toNat 65535)) ∧
  (x.step = 3 → 64 * 1000000000 ≤ (b.time.tick - x.since) * f →
    ∃ u, exec (.bootstrapCharge t n) s = .next u ∧ (u.pscCh n).step = 4 ∧ (u.pscCh n).since = b.time.tick) ∧
  (x.step = 4 → b.softNs n ≤ b.time.tick - x.since →
    ∃ u, exec (.softStartEnd t n) s = .next u ∧ (u.pscCh n).step = 5 ∧ (u.pscCh n).runSince = some b.time.tick ∧
      (x.shut = 0 → b.on (El.pscOn n) = true → b.drives = true → u.nat (El.pscState n) = 3)) ∧
  (x.nextRetry = some m → x.shut = 1 → b.followsPsc = true → b.roundsRun = true → m ≤ b.firstSample b.roundIssued →
    ∃ u, exec (.pscRetry t n) s = .next u ∧ (u.pscCh n).shut = 0 ∧ (u.pscCh n).retryRun = true ∧ (u.pscCh n).nextRetry = none ∧
      u.nat (El.pscOn n) = 1 ∧ 1 ≤ (u.pscCh n).step ∧ (u.pscCh n).step ≤ 3) ∧
  (x.runSince = some r → x.retryRun = true → r + 10000000000 ≤ b.time.tick →
    ∃ u, exec (.retryEpisodeEnd t n) s = .next u ∧ (u.pscCh n).retryRun = false ∧ (u.pscCh n).failed = 0 ∧ u.nat (El.pscRetries n) = 0)

/-! ### Resets, boot, update and the TAP -/

/-- R536, R537, R539, R540, R541, R542, R543, R556, R567, R581: each source of a reset runs BOOT with its cause, with the flash as it was but
for a save in progress; boot reaches CONFIGURE, or stays with the code of what failed; a wake keeps what DORMANT kept; heat and a rail
outside its limits are faults. -/
def Obligations.ResetsGoOn : Prop := ∀ (s : State) (t rail volts width size : Nat) (temp : Int) (z : Nat × Nat) (sizes bad : List Nat) (trained : Bool),
  let b := s.advance t
  let resets (i : Instr) (cause : Nat) : Prop := ∃ u, exec i s = .next u ∧ u.mode = 2 ∧ u.nat El.resetCause = cause ∧ b.KeepsFlash u ∧
    u.bop.keys = b.bop.keys ∧ u.pending = b.pending
  let plan := b.flash.romPlan
  let s1 : State := { b with flash := plan.1 }
  let boot := Instr.bootComplete ⟨t, sizes, trained, some bad⟩
  let runs (u : State) : Prop := u.mode = 4 ∨ u.on El.bootAutoRun = true ∧ (u.mode = 5 ∨ u.mode = 8)
  let fits : Prop := size ∈ [2, 4, 8, 16] ∧ sizes.head? = some size ∧
    sizes.take b.variant.dramChannels = List.replicate b.variant.dramChannels size
  let seen : State := { b with sys := { b.sys with rails := Tab.put none b.sys.rails rail (some volts) } }
  (b.sys.powered = false → resets (.powerOn t) 1) ∧
  (b.sys.powered = true → (∃ u, exec (.powerFail t) s = .next u ∧ u.mode = 0 ∧ u.sys.powered = false ∧ u.bop.keys = b.bop.keys ∧
      u.flash.slotA = b.flash.slotA ∧ u.flash.slotB = b.flash.slotB ∧
      u.flash.verifyCut = (b.flash.verifyCut || decide (b.nat El.updState = 3)) ∧
      (b.mode ≠ 9 ∨ b.sys.actStep ≠ 2 → u.flash.boot = b.flash.boot)) ∧
    (b.mode ≠ 1 → 10000 ≤ width → resets (.resetPin ⟨t, width⟩) 2) ∧ (b.nat El.dbgState = 1 → resets (.debugReset t) 4) ∧
    (2 ≤ b.mode → resets (.controlWatchdog t) 6)) ∧
  (width < 1001 → exec (.resetPin ⟨t, width⟩) s = .next b ∧ exec (.wake ⟨t, width⟩) s = .next b) ∧
  (b.mode = 11 → b.nat El.faultAutoReset ≠ 0 → b.sys.faultSince + b.nat El.faultAutoReset * 1000000000 ≤ b.time.tick →
    resets (.faultAutoReset t) 7) ∧
  (b.mode = 1 → 10000 ≤ width →
    resets (.wake ⟨t, width⟩) 5 ∧ resets (.resetPin ⟨t, width⟩) 5 ∧ ∃ u, exec (.wake ⟨t, width⟩) s = .next u ∧ u.mem.dram = b.mem.dram) ∧
  (b.mode = 2 → b.sys.powered = true → b.nat El.bootStatus = 0 → b.refs.clockFails < 3 → b.sys.flashReset ≤ b.time.tick →
    exec (.bootComplete ⟨t, sizes, trained, none⟩) s = .next (b.setN El.bootStatus 0x21) ∧
    (b.romChosen = false →
      (s1.romSlot bad plan.2.1 = none → ∃ u, exec boot s = .next u ∧ u.mode = 2 ∧ u.nat El.bootStatus = 0x10 + s1.romFail bad plan.2.1) ∧
      (s1.romSlot bad plan.2.1 = some z → sizes.headD 0 ∉ [2, 4, 8, 16] →
        ∃ u, exec boot s = .next u ∧ u.mode = 2 ∧ u.nat El.bootStatus = 0x42 ∧ u.nat El.bootSlot = z.1) ∧
      (s1.romSlot bad plan.2.1 = some z → fits → trained = false →
        ∃ u, exec boot s = .next u ∧ u.mode = 2 ∧ u.nat El.bootStatus = 0x41 ∧ u.nat El.bootSlot = z.1) ∧
      (s1.romSlot bad plan.2.1 = some z → fits → trained = true → ∃ u, exec boot s = .next u ∧ runs u)) ∧
    (b.romChosen = true → fits → trained = true → ∃ u, exec boot s = .next u ∧ runs u)) ∧
  (2 ≤ b.mode → temp ≤ b.int El.thFault →
    ∃ u, exec (.overTemperature t temp) s = .next u ∧ u.mode = b.mode ∧ u.int El.dieTemp = temp ∧
      u.int El.dieTempMax = max temp (b.int El.dieTempMax)) ∧
  (5 ≤ b.mode → b.mode ≤ 10 → (b.int El.thFault < temp →
      ∃ u, exec (.overTemperature t temp) s = .next u ∧ u.mode = 11 ∧ u.nat El.faultCause = 6 ∧ u.int El.dieTemp = temp) ∧
    (rail < 10 → b.sys.powered = true → seen.railOk rail = false →
      ∃ u, exec (.supplyFault t ⟨rail, volts⟩) s = .next u ∧ u.mode = 11 ∧ u.nat El.faultCause = 7)) ∧
  (rail < 10 → b.sys.powered = true → seen.railOk rail = true →
    ∃ u, exec (.supplyFault t ⟨rail, volts⟩) s = .next u ∧ u.regs = b.regs ∧ u.sys.rails = seen.sys.rails)

/-- R544, R549, R551, R552, R553, R554, R560: an autosave stands in the flash; an image is programmed and verified; an activation stops
the rounds, restarts into the new image or falls back, and resumes the mode it left; the TAP gives its code and a challenge,
and a token unlocks it or is counted. -/
def Obligations.UpdateGoesOn : Prop := ∀ (s : State) (t at_ : Nat) (read : Bool) (sig : List Byte) (scope : Byte),
  let b := s.advance t
  let new := b.flash.slot b.otherSlot
  let staged (u : State) (stage : Nat) : Prop := ∃ z, u.bop.log.getLast? = some z ∧ z.code = nUpdateStage ∧ z.params.head? = some stage
  let good : Prop := b.sys.challenge.length = 16 ∧ sig.length = 96 ∧ Config.ecdsaVerify Config.debugAuthority
    (Config.sha384 (b.sys.challenge ++ leBytes 8 (b.nat El.dieId) ++ [scope])).toList sig = true
  (b.sys.autosaveAt = some at_ → 3 ≤ b.mode → at_ ≤ b.time.tick → b.on El.settingsAutosave = true →
    ∃ u, exec (.settingsAutosave t) s = .next u ∧ u.sys.settingsDirty = false ∧ u.sys.autosaveAt = none ∧ ∃ c rest,
      u.flash.settings = c :: rest ∧ c.valid = true ∧ c.vals = b.settings ∧ u.nat El.settingsSeq = c.seq) ∧
  (b.nat El.updState = 1 → ∃ u, exec (.slotProgrammed t) s = .next u ∧ u.nat El.updState = 2 ∧ u.nat El.updProgress = 100 ∧
    u.flash.slot b.otherSlot = .held b.sys.updImage ∧ staged u 1) ∧
  (b.nat El.updState = 3 → ∃ u, exec (.updateVerifyDone ⟨t, read⟩) s = .next u ∧ u.nat El.updFail = b.slotFail read new ∧
    (if b.slotFail read new = 0 then u.nat El.updState = 4 ∧ staged u 2 else u.nat El.updState = 6 ∧ staged u 7) ∧ u.flash = b.flash) ∧
  (b.mode = 9 → b.sys.actFrom = 5 → b.sys.actStep = 1 → b.anchored = true → b.disp.changes = [] →
    b.sys.rampAt + b.activationRamp ≤ b.sampleNow →
    ∃ u, exec (.activationRampDownEnd t) s = .next u ∧ u.sys.actStep = 2 ∧ u.mode = 9 ∧ u.anchored = true ∧ u.roundsRun = false) ∧
  (b.mode = 9 → b.sys.actStep = 2 →
    (b.slotFail read new ≠ 0 → ∃ u, exec (.activationRestart ⟨t, read⟩) s = .next u ∧ u.mode = 2 ∧ u.nat El.bootSlot = b.nat El.bootSlot ∧
      u.nat El.bootFallback = 1) ∧
    (b.slotFail read new = 0 → ∃ u, exec (.activationRestart ⟨t, read⟩) s = .next u ∧ u.mode = 9 ∧ u.sys.actStep = 3 ∧ (∀ n, u.session n = none) ∧
      (Slot.format new = b.nat El.settingsFormat → u.nat El.bootSlot = b.otherSlot ∧ u.nat El.fwVersion = Slot.version new))) ∧
  (b.mode = 9 → b.sys.actStep = 3 →
    (b.sys.actFrom = 5 → Slot.format new = b.nat El.settingsFormat →
      ∃ u, exec (.activationResume t) s = .next u ∧ u.mode = 5 ∧ u.sys.actStep = 4 ∧ u.nat El.updState = 5) ∧
    (b.sys.actFrom = 5 → Slot.format new ≠ b.nat El.settingsFormat →
      ∃ u, exec (.activationResume t) s = .next u ∧ u.mode = 4 ∧ u.sys.actStep = 0) ∧
    (b.sys.actFrom = 4 → ∃ u, exec (.activationResume t) s = .next u ∧ u.mode = 4 ∧ u.sys.actStep = 0 ∧ u.nat El.updState = 5)) ∧
  (b.tapOn = true → exec (.idcode t) s = .next { b with sys := { b.sys with tdo := leBytes 4 Config.idcode } } ∧
    (∃ u, exec (.jtagChallenge t) s = .next u ∧ u.sys.tdo = u.sys.challenge ∧ u.sys.challenge.length = 16 ∧ u.regs = b.regs) ∧
    (b.nat El.dbgState = 0 → b.flash.debugOff = false → ∃ u, exec (.jtagToken t sig scope) s = .next u ∧ u.sys.challenge = [] ∧
      (good → u.nat El.dbgState = 1 ∧ u.sys.scope = some scope) ∧
      (¬ good → u.sys.badTokens = b.sys.badTokens + 1 ∧ u.nat El.dbgState = if b.sys.badTokens < 2 then 0 else 2)))
end

