-- ==== Sys2Proof/Laws/Tab.lean ====
section
/-! SUPPORT. Sparse tables and byte memories: read after write, and the canonical form that every operation keeps. -/

namespace Sys2Proof.Machine

variable {α : Type}

/-! ### Read after write -/

theorem Tab.get_drop_same (d : α) (m : Tab α) (k : Nat) : (m.drop k).get d k = d := by
  induction m with
  | nil => rfl
  | cons e m ih =>
    obtain ⟨k', v⟩ := e
    by_cases h : k' = k
    · simp only [Tab.drop, h, if_true, ih]
    · simp only [Tab.drop, h, if_false, Tab.get, ih]

theorem Tab.get_drop_ne (d : α) (m : Tab α) (k j : Nat) (h : j ≠ k) : (m.drop k).get d j = m.get d j := by
  induction m with
  | nil => rfl
  | cons e m ih =>
    obtain ⟨k', v⟩ := e
    by_cases h' : k' = k
    · have : k' ≠ j := fun e => h (e.symm.trans h')
      simp only [Tab.drop, h', if_true, ih, Tab.get, if_neg (h' ▸ this)]
    · simp only [Tab.drop, h', if_false, Tab.get, ih]

theorem Tab.get_ins_same (d : α) (m : Tab α) (k : Nat) (v : α) : (Tab.ins k v m).get d k = v := by
  induction m with
  | nil => simp [Tab.ins, Tab.get]
  | cons e m ih =>
    obtain ⟨k', v'⟩ := e
    simp only [Tab.ins]
    split
    · simp [Tab.get]
    · split
      · simp [Tab.get]
      · rename_i h1 h2
        simp only [Tab.get, if_neg (Ne.symm h2), ih]

theorem Tab.get_ins_ne (d : α) (m : Tab α) (k j : Nat) (v : α) (h : j ≠ k) : (Tab.ins k v m).get d j = m.get d j := by
  induction m with
  | nil => simp [Tab.ins, Tab.get, Ne.symm h]
  | cons e m ih =>
    obtain ⟨k', v'⟩ := e
    simp only [Tab.ins]
    split
    · simp [Tab.get, Ne.symm h]
    · split
      · rename_i h2
        subst h2
        simp [Tab.get, Ne.symm h]
      · simp only [Tab.get, ih]

variable [DecidableEq α]

/-- A key reads what was written at it. -/
@[simp] theorem Tab.get_put_same (d : α) (m : Tab α) (k : Nat) (v : α) : (Tab.put d m k v).get d k = v := by
  unfold Tab.put
  split
  · rename_i h
    rw [Tab.get_drop_same, h]
  · exact Tab.get_ins_same d m k v

/-- Every other key reads as before, whatever default the reader and the writer take for their own keys. -/
theorem Tab.get_put_ne (d d' : α) (m : Tab α) (k j : Nat) (v : α) (h : j ≠ k) :
    (Tab.put d m k v).get d' j = m.get d' j := by
  unfold Tab.put
  split
  · exact Tab.get_drop_ne d' m k j h
  · exact Tab.get_ins_ne d' m k j v h

/-! ### The canonical form -/

/-- The canonical form as a statement about a head and a tail. -/
theorem Tab.wf_cons (d : Nat → α) (k : Nat) (v : α) (m : Tab α) :
    Tab.wf d ((k, v) :: m) = true ↔ v ≠ d k ∧ (∀ e ∈ m, k < e.1) ∧ Tab.wf d m = true := by
  induction m generalizing k v with
  | nil => simp [Tab.wf]
  | cons e m ih =>
    obtain ⟨k', v'⟩ := e
    simp only [Tab.wf, Bool.and_eq_true, decide_eq_true_eq, List.mem_cons, forall_eq_or_imp]
    constructor
    · rintro ⟨⟨h1, h2⟩, h3⟩
      refine ⟨h1, ⟨h2, fun e he => ?_⟩, h3⟩
      exact lt_trans h2 (((ih k' v').1 h3).2.1 e he)
    · rintro ⟨h1, ⟨h2, _⟩, h3⟩
      exact ⟨⟨h1, h2⟩, h3⟩

theorem Tab.mem_drop (m : Tab α) (k : Nat) (e : Nat × α) (h : e ∈ m.drop k) : e ∈ m := by
  induction m with
  | nil => exact h
  | cons x m ih =>
    obtain ⟨k', v⟩ := x
    simp only [Tab.drop] at h
    split at h
    · exact List.mem_cons_of_mem _ (ih h)
    · rcases List.mem_cons.1 h with h | h
      · exact h ▸ List.mem_cons_self
      · exact List.mem_cons_of_mem _ (ih h)

theorem Tab.wf_drop (d : Nat → α) (m : Tab α) (k : Nat) (h : Tab.wf d m = true) : Tab.wf d (m.drop k) = true := by
  induction m with
  | nil => exact h
  | cons x m ih =>
    obtain ⟨k', v⟩ := x
    obtain ⟨h1, h2, h3⟩ := (Tab.wf_cons d k' v m).1 h
    simp only [Tab.drop]
    split
    · exact ih h3
    · exact (Tab.wf_cons d k' v _).2 ⟨h1, fun e he => h2 e (Tab.mem_drop m k e he), ih h3⟩

theorem Tab.mem_ins (m : Tab α) (k : Nat) (v : α) (e : Nat × α) (h : e ∈ Tab.ins k v m) : e = (k, v) ∨ e ∈ m := by
  induction m with
  | nil => simpa [Tab.ins] using h
  | cons x m ih =>
    obtain ⟨k', v'⟩ := x
    simp only [Tab.ins] at h
    split at h
    · simpa using h
    · split at h
      · rcases List.mem_cons.1 h with h | h
        · exact .inl h
        · exact .inr (List.mem_cons_of_mem _ h)
      · rcases List.mem_cons.1 h with h | h
        · exact .inr (h ▸ List.mem_cons_self)
        · rcases ih h with h | h
          · exact .inl h
          · exact .inr (List.mem_cons_of_mem _ h)

theorem Tab.wf_ins (d : Nat → α) (m : Tab α) (k : Nat) (v : α) (hv : v ≠ d k) (h : Tab.wf d m = true) :
    Tab.wf d (Tab.ins k v m) = true := by
  induction m with
  | nil => simpa [Tab.ins, Tab.wf] using hv
  | cons x m ih =>
    obtain ⟨k', v'⟩ := x
    obtain ⟨h1, h2, h3⟩ := (Tab.wf_cons d k' v' m).1 h
    simp only [Tab.ins]
    split
    · rename_i hlt
      refine (Tab.wf_cons d k v _).2 ⟨hv, fun e he => ?_, h⟩
      rcases List.mem_cons.1 he with rfl | he
      · exact hlt
      · exact lt_trans hlt (h2 e he)
    · split
      · rename_i _ heq
        subst heq
        exact (Tab.wf_cons d k v m).2 ⟨hv, h2, h3⟩
      · rename_i hn hne
        refine (Tab.wf_cons d k' v' _).2 ⟨h1, fun e he => ?_, ih h3⟩
        rcases Tab.mem_ins m k v e he with rfl | he
        · simp only; omega
        · exact h2 e he

/-- A write keeps the canonical form. -/
theorem Tab.wf_put (d : Nat → α) (m : Tab α) (k : Nat) (v : α) (h : Tab.wf d m = true) : Tab.wf d (Tab.put (d k) m k v) = true := by
  unfold Tab.put
  split
  · exact Tab.wf_drop d m k h
  · rename_i hv
    exact Tab.wf_ins d m k v hv h

/-! ### Byte memories -/

/-- A write of bytes keeps the canonical form. -/
theorem Memory.wf_writeCells (m : List Host.Cell) (a : Nat) (b : List Byte) (h : Memory.wf m = true) :
    Memory.wf (writeCells m a b) = true := by
  induction b generalizing m a with
  | nil => exact h
  | cons x b ih => exact ih _ _ (Tab.wf_put (fun _ => 0) m a x h)

/-- A byte outside the written ones reads as before. -/
theorem writeCells_get_out (m : List Host.Cell) (a : Nat) (b : List Byte) (j : Nat) (h : j < a ∨ a + b.length ≤ j) :
    Tab.get 0 (writeCells m a b) j = Tab.get 0 m j := by
  induction b generalizing m a with
  | nil => rfl
  | cons x b ih =>
    simp only [List.length_cons] at h
    rw [writeCells, ih _ _ (by omega), Tab.get_put_ne _ _ _ _ _ _ (by omega)]

/-- A written byte reads what was written. -/
theorem writeCells_get_in (m : List Host.Cell) (a : Nat) (b : List Byte) (i : Nat) (h : i < b.length) :
    Tab.get 0 (writeCells m a b) (a + i) = b[i] := by
  induction b generalizing m a i with
  | nil => simp at h
  | cons x b ih =>
    cases i with
    | zero => rw [writeCells, writeCells_get_out _ _ _ _ (by omega), Nat.add_zero, Tab.get_put_same]; rfl
    | succ i =>
      rw [writeCells, show a + (i + 1) = a + 1 + i by omega, ih _ _ _ (by simpa using h)]
      rfl

/-- A write to the user area keeps the canonical form of its memory. -/
theorem State.dramWrite_wf (s : State) (a : Nat) (b : List Byte) (h : Memory.wf s.mem.dram = true) :
    Memory.wf (s.dramWrite a b).mem.dram = true := Memory.wf_writeCells _ _ _ h

/-- The memories of the state after reset are in the canonical form. -/
theorem State.reset_mem_wf : Memory.wf State.reset.mem.dram = true ∧ Memory.wf State.reset.mem.sram = true := by decide

end Sys2Proof.Machine
end

