-- ==== Sys2Proof/Laws/State.lean ====
section
/-! SUPPORT. The fields of the state under each update, and reading an element after a write. -/

namespace Sys2Proof.Machine

variable (s : State)

/-! ### setV -/

@[simp] theorem State.setV_variant (a : Nat) (v : Val) : (s.setV a v).variant = s.variant := rfl
@[simp] theorem State.setV_time (a : Nat) (v : Val) : (s.setV a v).time = s.time := rfl
@[simp] theorem State.setV_rounds (a : Nat) (v : Val) : (s.setV a v).rounds = s.rounds := rfl
@[simp] theorem State.setV_mix (a : Nat) (v : Val) : (s.setV a v).mix = s.mix := rfl
@[simp] theorem State.setV_strips (a : Nat) (v : Val) : (s.setV a v).strips = s.strips := rfl
@[simp] theorem State.setV_disp (a : Nat) (v : Val) : (s.setV a v).disp = s.disp := rfl
@[simp] theorem State.setV_bop (a : Nat) (v : Val) : (s.setV a v).bop = s.bop := rfl
@[simp] theorem State.setV_dsp (a : Nat) (v : Val) : (s.setV a v).dsp = s.dsp := rfl
@[simp] theorem State.setV_sap (a : Nat) (v : Val) : (s.setV a v).sap = s.sap := rfl
@[simp] theorem State.setV_net (a : Nat) (v : Val) : (s.setV a v).net = s.net := rfl
@[simp] theorem State.setV_links (a : Nat) (v : Val) : (s.setV a v).links = s.links := rfl
@[simp] theorem State.setV_refs (a : Nat) (v : Val) : (s.setV a v).refs = s.refs := rfl
@[simp] theorem State.setV_mem (a : Nat) (v : Val) : (s.setV a v).mem = s.mem := rfl
@[simp] theorem State.setV_twin (a : Nat) (v : Val) : (s.setV a v).twin = s.twin := rfl
@[simp] theorem State.setV_psc (a : Nat) (v : Val) : (s.setV a v).psc = s.psc := rfl
@[simp] theorem State.setV_sys (a : Nat) (v : Val) : (s.setV a v).sys = s.sys := rfl
@[simp] theorem State.setV_flash (a : Nat) (v : Val) : (s.setV a v).flash = s.flash := rfl
@[simp] theorem State.setV_free (a : Nat) (v : Val) : (s.setV a v).free = s.free := rfl
@[simp] theorem State.setV_pending (a : Nat) (v : Val) : (s.setV a v).pending = s.pending := rfl

/-! ### setN -/

@[simp] theorem State.setN_variant (a n : Nat) : (s.setN a n).variant = s.variant := rfl
@[simp] theorem State.setN_time (a n : Nat) : (s.setN a n).time = s.time := rfl
@[simp] theorem State.setN_rounds (a n : Nat) : (s.setN a n).rounds = s.rounds := rfl
@[simp] theorem State.setN_mix (a n : Nat) : (s.setN a n).mix = s.mix := rfl
@[simp] theorem State.setN_strips (a n : Nat) : (s.setN a n).strips = s.strips := rfl
@[simp] theorem State.setN_disp (a n : Nat) : (s.setN a n).disp = s.disp := rfl
@[simp] theorem State.setN_bop (a n : Nat) : (s.setN a n).bop = s.bop := rfl
@[simp] theorem State.setN_dsp (a n : Nat) : (s.setN a n).dsp = s.dsp := rfl
@[simp] theorem State.setN_sap (a n : Nat) : (s.setN a n).sap = s.sap := rfl
@[simp] theorem State.setN_net (a n : Nat) : (s.setN a n).net = s.net := rfl
@[simp] theorem State.setN_links (a n : Nat) : (s.setN a n).links = s.links := rfl
@[simp] theorem State.setN_refs (a n : Nat) : (s.setN a n).refs = s.refs := rfl
@[simp] theorem State.setN_mem (a n : Nat) : (s.setN a n).mem = s.mem := rfl
@[simp] theorem State.setN_twin (a n : Nat) : (s.setN a n).twin = s.twin := rfl
@[simp] theorem State.setN_psc (a n : Nat) : (s.setN a n).psc = s.psc := rfl
@[simp] theorem State.setN_sys (a n : Nat) : (s.setN a n).sys = s.sys := rfl
@[simp] theorem State.setN_flash (a n : Nat) : (s.setN a n).flash = s.flash := rfl
@[simp] theorem State.setN_free (a n : Nat) : (s.setN a n).free = s.free := rfl
@[simp] theorem State.setN_pending (a n : Nat) : (s.setN a n).pending = s.pending := rfl

/-! ### setI -/

@[simp] theorem State.setI_variant (a : Nat) (z : Int) : (s.setI a z).variant = s.variant := rfl
@[simp] theorem State.setI_time (a : Nat) (z : Int) : (s.setI a z).time = s.time := rfl
@[simp] theorem State.setI_rounds (a : Nat) (z : Int) : (s.setI a z).rounds = s.rounds := rfl
@[simp] theorem State.setI_mix (a : Nat) (z : Int) : (s.setI a z).mix = s.mix := rfl
@[simp] theorem State.setI_strips (a : Nat) (z : Int) : (s.setI a z).strips = s.strips := rfl
@[simp] theorem State.setI_disp (a : Nat) (z : Int) : (s.setI a z).disp = s.disp := rfl
@[simp] theorem State.setI_bop (a : Nat) (z : Int) : (s.setI a z).bop = s.bop := rfl
@[simp] theorem State.setI_dsp (a : Nat) (z : Int) : (s.setI a z).dsp = s.dsp := rfl
@[simp] theorem State.setI_sap (a : Nat) (z : Int) : (s.setI a z).sap = s.sap := rfl
@[simp] theorem State.setI_net (a : Nat) (z : Int) : (s.setI a z).net = s.net := rfl
@[simp] theorem State.setI_links (a : Nat) (z : Int) : (s.setI a z).links = s.links := rfl
@[simp] theorem State.setI_refs (a : Nat) (z : Int) : (s.setI a z).refs = s.refs := rfl
@[simp] theorem State.setI_mem (a : Nat) (z : Int) : (s.setI a z).mem = s.mem := rfl
@[simp] theorem State.setI_twin (a : Nat) (z : Int) : (s.setI a z).twin = s.twin := rfl
@[simp] theorem State.setI_psc (a : Nat) (z : Int) : (s.setI a z).psc = s.psc := rfl
@[simp] theorem State.setI_sys (a : Nat) (z : Int) : (s.setI a z).sys = s.sys := rfl
@[simp] theorem State.setI_flash (a : Nat) (z : Int) : (s.setI a z).flash = s.flash := rfl
@[simp] theorem State.setI_free (a : Nat) (z : Int) : (s.setI a z).free = s.free := rfl
@[simp] theorem State.setI_pending (a : Nat) (z : Int) : (s.setI a z).pending = s.pending := rfl

/-! ### setB -/

@[simp] theorem State.setB_variant (a : Nat) (b : List Byte) : (s.setB a b).variant = s.variant := rfl
@[simp] theorem State.setB_time (a : Nat) (b : List Byte) : (s.setB a b).time = s.time := rfl
@[simp] theorem State.setB_rounds (a : Nat) (b : List Byte) : (s.setB a b).rounds = s.rounds := rfl
@[simp] theorem State.setB_mix (a : Nat) (b : List Byte) : (s.setB a b).mix = s.mix := rfl
@[simp] theorem State.setB_strips (a : Nat) (b : List Byte) : (s.setB a b).strips = s.strips := rfl
@[simp] theorem State.setB_disp (a : Nat) (b : List Byte) : (s.setB a b).disp = s.disp := rfl
@[simp] theorem State.setB_bop (a : Nat) (b : List Byte) : (s.setB a b).bop = s.bop := rfl
@[simp] theorem State.setB_dsp (a : Nat) (b : List Byte) : (s.setB a b).dsp = s.dsp := rfl
@[simp] theorem State.setB_sap (a : Nat) (b : List Byte) : (s.setB a b).sap = s.sap := rfl
@[simp] theorem State.setB_net (a : Nat) (b : List Byte) : (s.setB a b).net = s.net := rfl
@[simp] theorem State.setB_links (a : Nat) (b : List Byte) : (s.setB a b).links = s.links := rfl
@[simp] theorem State.setB_refs (a : Nat) (b : List Byte) : (s.setB a b).refs = s.refs := rfl
@[simp] theorem State.setB_mem (a : Nat) (b : List Byte) : (s.setB a b).mem = s.mem := rfl
@[simp] theorem State.setB_twin (a : Nat) (b : List Byte) : (s.setB a b).twin = s.twin := rfl
@[simp] theorem State.setB_psc (a : Nat) (b : List Byte) : (s.setB a b).psc = s.psc := rfl
@[simp] theorem State.setB_sys (a : Nat) (b : List Byte) : (s.setB a b).sys = s.sys := rfl
@[simp] theorem State.setB_flash (a : Nat) (b : List Byte) : (s.setB a b).flash = s.flash := rfl
@[simp] theorem State.setB_free (a : Nat) (b : List Byte) : (s.setB a b).free = s.free := rfl
@[simp] theorem State.setB_pending (a : Nat) (b : List Byte) : (s.setB a b).pending = s.pending := rfl

/-! ### bump -/

@[simp] theorem State.bump_variant (a n b : Nat) : (s.bump a n b).variant = s.variant := rfl
@[simp] theorem State.bump_time (a n b : Nat) : (s.bump a n b).time = s.time := rfl
@[simp] theorem State.bump_rounds (a n b : Nat) : (s.bump a n b).rounds = s.rounds := rfl
@[simp] theorem State.bump_mix (a n b : Nat) : (s.bump a n b).mix = s.mix := rfl
@[simp] theorem State.bump_strips (a n b : Nat) : (s.bump a n b).strips = s.strips := rfl
@[simp] theorem State.bump_disp (a n b : Nat) : (s.bump a n b).disp = s.disp := rfl
@[simp] theorem State.bump_bop (a n b : Nat) : (s.bump a n b).bop = s.bop := rfl
@[simp] theorem State.bump_dsp (a n b : Nat) : (s.bump a n b).dsp = s.dsp := rfl
@[simp] theorem State.bump_sap (a n b : Nat) : (s.bump a n b).sap = s.sap := rfl
@[simp] theorem State.bump_net (a n b : Nat) : (s.bump a n b).net = s.net := rfl
@[simp] theorem State.bump_links (a n b : Nat) : (s.bump a n b).links = s.links := rfl
@[simp] theorem State.bump_refs (a n b : Nat) : (s.bump a n b).refs = s.refs := rfl
@[simp] theorem State.bump_mem (a n b : Nat) : (s.bump a n b).mem = s.mem := rfl
@[simp] theorem State.bump_twin (a n b : Nat) : (s.bump a n b).twin = s.twin := rfl
@[simp] theorem State.bump_psc (a n b : Nat) : (s.bump a n b).psc = s.psc := rfl
@[simp] theorem State.bump_sys (a n b : Nat) : (s.bump a n b).sys = s.sys := rfl
@[simp] theorem State.bump_flash (a n b : Nat) : (s.bump a n b).flash = s.flash := rfl
@[simp] theorem State.bump_free (a n b : Nat) : (s.bump a n b).free = s.free := rfl
@[simp] theorem State.bump_pending (a n b : Nat) : (s.bump a n b).pending = s.pending := rfl

/-! ### inc -/

@[simp] theorem State.inc_variant (a : Nat) : (s.inc a).variant = s.variant := rfl
@[simp] theorem State.inc_time (a : Nat) : (s.inc a).time = s.time := rfl
@[simp] theorem State.inc_rounds (a : Nat) : (s.inc a).rounds = s.rounds := rfl
@[simp] theorem State.inc_mix (a : Nat) : (s.inc a).mix = s.mix := rfl
@[simp] theorem State.inc_strips (a : Nat) : (s.inc a).strips = s.strips := rfl
@[simp] theorem State.inc_disp (a : Nat) : (s.inc a).disp = s.disp := rfl
@[simp] theorem State.inc_bop (a : Nat) : (s.inc a).bop = s.bop := rfl
@[simp] theorem State.inc_dsp (a : Nat) : (s.inc a).dsp = s.dsp := rfl
@[simp] theorem State.inc_sap (a : Nat) : (s.inc a).sap = s.sap := rfl
@[simp] theorem State.inc_net (a : Nat) : (s.inc a).net = s.net := rfl
@[simp] theorem State.inc_links (a : Nat) : (s.inc a).links = s.links := rfl
@[simp] theorem State.inc_refs (a : Nat) : (s.inc a).refs = s.refs := rfl
@[simp] theorem State.inc_mem (a : Nat) : (s.inc a).mem = s.mem := rfl
@[simp] theorem State.inc_twin (a : Nat) : (s.inc a).twin = s.twin := rfl
@[simp] theorem State.inc_psc (a : Nat) : (s.inc a).psc = s.psc := rfl
@[simp] theorem State.inc_sys (a : Nat) : (s.inc a).sys = s.sys := rfl
@[simp] theorem State.inc_flash (a : Nat) : (s.inc a).flash = s.flash := rfl
@[simp] theorem State.inc_free (a : Nat) : (s.inc a).free = s.free := rfl
@[simp] theorem State.inc_pending (a : Nat) : (s.inc a).pending = s.pending := rfl

/-! ### advance -/

@[simp] theorem State.advance_variant (t : Nat) : (s.advance t).variant = s.variant := rfl
@[simp] theorem State.advance_regs (t : Nat) : (s.advance t).regs = s.regs := rfl
@[simp] theorem State.advance_rounds (t : Nat) : (s.advance t).rounds = s.rounds := rfl
@[simp] theorem State.advance_mix (t : Nat) : (s.advance t).mix = s.mix := rfl
@[simp] theorem State.advance_strips (t : Nat) : (s.advance t).strips = s.strips := rfl
@[simp] theorem State.advance_disp (t : Nat) : (s.advance t).disp = s.disp := rfl
@[simp] theorem State.advance_bop (t : Nat) : (s.advance t).bop = s.bop := rfl
@[simp] theorem State.advance_dsp (t : Nat) : (s.advance t).dsp = s.dsp := rfl
@[simp] theorem State.advance_sap (t : Nat) : (s.advance t).sap = s.sap := rfl
@[simp] theorem State.advance_net (t : Nat) : (s.advance t).net = s.net := rfl
@[simp] theorem State.advance_links (t : Nat) : (s.advance t).links = s.links := rfl
@[simp] theorem State.advance_refs (t : Nat) : (s.advance t).refs = s.refs := rfl
@[simp] theorem State.advance_mem (t : Nat) : (s.advance t).mem = s.mem := rfl
@[simp] theorem State.advance_twin (t : Nat) : (s.advance t).twin = s.twin := rfl
@[simp] theorem State.advance_psc (t : Nat) : (s.advance t).psc = s.psc := rfl
@[simp] theorem State.advance_sys (t : Nat) : (s.advance t).sys = s.sys := rfl
@[simp] theorem State.advance_flash (t : Nat) : (s.advance t).flash = s.flash := rfl
@[simp] theorem State.advance_free (t : Nat) : (s.advance t).free = s.free := rfl
@[simp] theorem State.advance_pending (t : Nat) : (s.advance t).pending = s.pending := rfl

/-! ### setCore -/

@[simp] theorem State.setCore_variant (c j : Nat) (x : Core) : (s.setCore c j x).variant = s.variant := rfl
@[simp] theorem State.setCore_time (c j : Nat) (x : Core) : (s.setCore c j x).time = s.time := rfl
@[simp] theorem State.setCore_regs (c j : Nat) (x : Core) : (s.setCore c j x).regs = s.regs := rfl
@[simp] theorem State.setCore_rounds (c j : Nat) (x : Core) : (s.setCore c j x).rounds = s.rounds := rfl
@[simp] theorem State.setCore_mix (c j : Nat) (x : Core) : (s.setCore c j x).mix = s.mix := rfl
@[simp] theorem State.setCore_strips (c j : Nat) (x : Core) : (s.setCore c j x).strips = s.strips := rfl
@[simp] theorem State.setCore_disp (c j : Nat) (x : Core) : (s.setCore c j x).disp = s.disp := rfl
@[simp] theorem State.setCore_bop (c j : Nat) (x : Core) : (s.setCore c j x).bop = s.bop := rfl
@[simp] theorem State.setCore_sap (c j : Nat) (x : Core) : (s.setCore c j x).sap = s.sap := rfl
@[simp] theorem State.setCore_net (c j : Nat) (x : Core) : (s.setCore c j x).net = s.net := rfl
@[simp] theorem State.setCore_links (c j : Nat) (x : Core) : (s.setCore c j x).links = s.links := rfl
@[simp] theorem State.setCore_refs (c j : Nat) (x : Core) : (s.setCore c j x).refs = s.refs := rfl
@[simp] theorem State.setCore_mem (c j : Nat) (x : Core) : (s.setCore c j x).mem = s.mem := rfl
@[simp] theorem State.setCore_twin (c j : Nat) (x : Core) : (s.setCore c j x).twin = s.twin := rfl
@[simp] theorem State.setCore_psc (c j : Nat) (x : Core) : (s.setCore c j x).psc = s.psc := rfl
@[simp] theorem State.setCore_sys (c j : Nat) (x : Core) : (s.setCore c j x).sys = s.sys := rfl
@[simp] theorem State.setCore_flash (c j : Nat) (x : Core) : (s.setCore c j x).flash = s.flash := rfl
@[simp] theorem State.setCore_free (c j : Nat) (x : Core) : (s.setCore c j x).free = s.free := rfl
@[simp] theorem State.setCore_pending (c j : Nat) (x : Core) : (s.setCore c j x).pending = s.pending := rfl

/-! ### setCluster -/

@[simp] theorem State.setCluster_variant (c : Nat) (x : Cluster) : (s.setCluster c x).variant = s.variant := rfl
@[simp] theorem State.setCluster_time (c : Nat) (x : Cluster) : (s.setCluster c x).time = s.time := rfl
@[simp] theorem State.setCluster_regs (c : Nat) (x : Cluster) : (s.setCluster c x).regs = s.regs := rfl
@[simp] theorem State.setCluster_rounds (c : Nat) (x : Cluster) : (s.setCluster c x).rounds = s.rounds := rfl
@[simp] theorem State.setCluster_mix (c : Nat) (x : Cluster) : (s.setCluster c x).mix = s.mix := rfl
@[simp] theorem State.setCluster_strips (c : Nat) (x : Cluster) : (s.setCluster c x).strips = s.strips := rfl
@[simp] theorem State.setCluster_disp (c : Nat) (x : Cluster) : (s.setCluster c x).disp = s.disp := rfl
@[simp] theorem State.setCluster_bop (c : Nat) (x : Cluster) : (s.setCluster c x).bop = s.bop := rfl
@[simp] theorem State.setCluster_sap (c : Nat) (x : Cluster) : (s.setCluster c x).sap = s.sap := rfl
@[simp] theorem State.setCluster_net (c : Nat) (x : Cluster) : (s.setCluster c x).net = s.net := rfl
@[simp] theorem State.setCluster_links (c : Nat) (x : Cluster) : (s.setCluster c x).links = s.links := rfl
@[simp] theorem State.setCluster_refs (c : Nat) (x : Cluster) : (s.setCluster c x).refs = s.refs := rfl
@[simp] theorem State.setCluster_mem (c : Nat) (x : Cluster) : (s.setCluster c x).mem = s.mem := rfl
@[simp] theorem State.setCluster_twin (c : Nat) (x : Cluster) : (s.setCluster c x).twin = s.twin := rfl
@[simp] theorem State.setCluster_psc (c : Nat) (x : Cluster) : (s.setCluster c x).psc = s.psc := rfl
@[simp] theorem State.setCluster_sys (c : Nat) (x : Cluster) : (s.setCluster c x).sys = s.sys := rfl
@[simp] theorem State.setCluster_flash (c : Nat) (x : Cluster) : (s.setCluster c x).flash = s.flash := rfl
@[simp] theorem State.setCluster_free (c : Nat) (x : Cluster) : (s.setCluster c x).free = s.free := rfl
@[simp] theorem State.setCluster_pending (c : Nat) (x : Cluster) : (s.setCluster c x).pending = s.pending := rfl

/-! ### setStrip -/

@[simp] theorem State.setStrip_variant (b : Bool) (n : Nat) (x : StripRun) : (s.setStrip b n x).variant = s.variant := rfl
@[simp] theorem State.setStrip_time (b : Bool) (n : Nat) (x : StripRun) : (s.setStrip b n x).time = s.time := rfl
@[simp] theorem State.setStrip_regs (b : Bool) (n : Nat) (x : StripRun) : (s.setStrip b n x).regs = s.regs := rfl
@[simp] theorem State.setStrip_rounds (b : Bool) (n : Nat) (x : StripRun) : (s.setStrip b n x).rounds = s.rounds := rfl
@[simp] theorem State.setStrip_mix (b : Bool) (n : Nat) (x : StripRun) : (s.setStrip b n x).mix = s.mix := rfl
@[simp] theorem State.setStrip_disp (b : Bool) (n : Nat) (x : StripRun) : (s.setStrip b n x).disp = s.disp := rfl
@[simp] theorem State.setStrip_bop (b : Bool) (n : Nat) (x : StripRun) : (s.setStrip b n x).bop = s.bop := rfl
@[simp] theorem State.setStrip_dsp (b : Bool) (n : Nat) (x : StripRun) : (s.setStrip b n x).dsp = s.dsp := rfl
@[simp] theorem State.setStrip_sap (b : Bool) (n : Nat) (x : StripRun) : (s.setStrip b n x).sap = s.sap := rfl
@[simp] theorem State.setStrip_net (b : Bool) (n : Nat) (x : StripRun) : (s.setStrip b n x).net = s.net := rfl
@[simp] theorem State.setStrip_links (b : Bool) (n : Nat) (x : StripRun) : (s.setStrip b n x).links = s.links := rfl
@[simp] theorem State.setStrip_refs (b : Bool) (n : Nat) (x : StripRun) : (s.setStrip b n x).refs = s.refs := rfl
@[simp] theorem State.setStrip_mem (b : Bool) (n : Nat) (x : StripRun) : (s.setStrip b n x).mem = s.mem := rfl
@[simp] theorem State.setStrip_twin (b : Bool) (n : Nat) (x : StripRun) : (s.setStrip b n x).twin = s.twin := rfl
@[simp] theorem State.setStrip_psc (b : Bool) (n : Nat) (x : StripRun) : (s.setStrip b n x).psc = s.psc := rfl
@[simp] theorem State.setStrip_sys (b : Bool) (n : Nat) (x : StripRun) : (s.setStrip b n x).sys = s.sys := rfl
@[simp] theorem State.setStrip_flash (b : Bool) (n : Nat) (x : StripRun) : (s.setStrip b n x).flash = s.flash := rfl
@[simp] theorem State.setStrip_free (b : Bool) (n : Nat) (x : StripRun) : (s.setStrip b n x).free = s.free := rfl
@[simp] theorem State.setStrip_pending (b : Bool) (n : Nat) (x : StripRun) : (s.setStrip b n x).pending = s.pending := rfl

/-! ### setLink -/

@[simp] theorem State.setLink_variant (l : Nat) (x : Link) : (s.setLink l x).variant = s.variant := rfl
@[simp] theorem State.setLink_time (l : Nat) (x : Link) : (s.setLink l x).time = s.time := rfl
@[simp] theorem State.setLink_regs (l : Nat) (x : Link) : (s.setLink l x).regs = s.regs := rfl
@[simp] theorem State.setLink_rounds (l : Nat) (x : Link) : (s.setLink l x).rounds = s.rounds := rfl
@[simp] theorem State.setLink_mix (l : Nat) (x : Link) : (s.setLink l x).mix = s.mix := rfl
@[simp] theorem State.setLink_strips (l : Nat) (x : Link) : (s.setLink l x).strips = s.strips := rfl
@[simp] theorem State.setLink_disp (l : Nat) (x : Link) : (s.setLink l x).disp = s.disp := rfl
@[simp] theorem State.setLink_bop (l : Nat) (x : Link) : (s.setLink l x).bop = s.bop := rfl
@[simp] theorem State.setLink_dsp (l : Nat) (x : Link) : (s.setLink l x).dsp = s.dsp := rfl
@[simp] theorem State.setLink_sap (l : Nat) (x : Link) : (s.setLink l x).sap = s.sap := rfl
@[simp] theorem State.setLink_net (l : Nat) (x : Link) : (s.setLink l x).net = s.net := rfl
@[simp] theorem State.setLink_refs (l : Nat) (x : Link) : (s.setLink l x).refs = s.refs := rfl
@[simp] theorem State.setLink_mem (l : Nat) (x : Link) : (s.setLink l x).mem = s.mem := rfl
@[simp] theorem State.setLink_twin (l : Nat) (x : Link) : (s.setLink l x).twin = s.twin := rfl
@[simp] theorem State.setLink_psc (l : Nat) (x : Link) : (s.setLink l x).psc = s.psc := rfl
@[simp] theorem State.setLink_sys (l : Nat) (x : Link) : (s.setLink l x).sys = s.sys := rfl
@[simp] theorem State.setLink_flash (l : Nat) (x : Link) : (s.setLink l x).flash = s.flash := rfl
@[simp] theorem State.setLink_free (l : Nat) (x : Link) : (s.setLink l x).free = s.free := rfl
@[simp] theorem State.setLink_pending (l : Nat) (x : Link) : (s.setLink l x).pending = s.pending := rfl

/-! ### setSession -/

@[simp] theorem State.setSession_variant (n : Nat) (x : Option Session) : (s.setSession n x).variant = s.variant := rfl
@[simp] theorem State.setSession_time (n : Nat) (x : Option Session) : (s.setSession n x).time = s.time := rfl
@[simp] theorem State.setSession_regs (n : Nat) (x : Option Session) : (s.setSession n x).regs = s.regs := rfl
@[simp] theorem State.setSession_rounds (n : Nat) (x : Option Session) : (s.setSession n x).rounds = s.rounds := rfl
@[simp] theorem State.setSession_mix (n : Nat) (x : Option Session) : (s.setSession n x).mix = s.mix := rfl
@[simp] theorem State.setSession_strips (n : Nat) (x : Option Session) : (s.setSession n x).strips = s.strips := rfl
@[simp] theorem State.setSession_disp (n : Nat) (x : Option Session) : (s.setSession n x).disp = s.disp := rfl
@[simp] theorem State.setSession_dsp (n : Nat) (x : Option Session) : (s.setSession n x).dsp = s.dsp := rfl
@[simp] theorem State.setSession_sap (n : Nat) (x : Option Session) : (s.setSession n x).sap = s.sap := rfl
@[simp] theorem State.setSession_net (n : Nat) (x : Option Session) : (s.setSession n x).net = s.net := rfl
@[simp] theorem State.setSession_links (n : Nat) (x : Option Session) : (s.setSession n x).links = s.links := rfl
@[simp] theorem State.setSession_refs (n : Nat) (x : Option Session) : (s.setSession n x).refs = s.refs := rfl
@[simp] theorem State.setSession_mem (n : Nat) (x : Option Session) : (s.setSession n x).mem = s.mem := rfl
@[simp] theorem State.setSession_twin (n : Nat) (x : Option Session) : (s.setSession n x).twin = s.twin := rfl
@[simp] theorem State.setSession_psc (n : Nat) (x : Option Session) : (s.setSession n x).psc = s.psc := rfl
@[simp] theorem State.setSession_sys (n : Nat) (x : Option Session) : (s.setSession n x).sys = s.sys := rfl
@[simp] theorem State.setSession_flash (n : Nat) (x : Option Session) : (s.setSession n x).flash = s.flash := rfl
@[simp] theorem State.setSession_free (n : Nat) (x : Option Session) : (s.setSession n x).free = s.free := rfl
@[simp] theorem State.setSession_pending (n : Nat) (x : Option Session) : (s.setSession n x).pending = s.pending := rfl

/-! ### setAsms -/

@[simp] theorem State.setAsms_variant (l : List Assembly) : (s.setAsms l).variant = s.variant := rfl
@[simp] theorem State.setAsms_time (l : List Assembly) : (s.setAsms l).time = s.time := rfl
@[simp] theorem State.setAsms_regs (l : List Assembly) : (s.setAsms l).regs = s.regs := rfl
@[simp] theorem State.setAsms_rounds (l : List Assembly) : (s.setAsms l).rounds = s.rounds := rfl
@[simp] theorem State.setAsms_mix (l : List Assembly) : (s.setAsms l).mix = s.mix := rfl
@[simp] theorem State.setAsms_strips (l : List Assembly) : (s.setAsms l).strips = s.strips := rfl
@[simp] theorem State.setAsms_disp (l : List Assembly) : (s.setAsms l).disp = s.disp := rfl
@[simp] theorem State.setAsms_dsp (l : List Assembly) : (s.setAsms l).dsp = s.dsp := rfl
@[simp] theorem State.setAsms_sap (l : List Assembly) : (s.setAsms l).sap = s.sap := rfl
@[simp] theorem State.setAsms_net (l : List Assembly) : (s.setAsms l).net = s.net := rfl
@[simp] theorem State.setAsms_links (l : List Assembly) : (s.setAsms l).links = s.links := rfl
@[simp] theorem State.setAsms_refs (l : List Assembly) : (s.setAsms l).refs = s.refs := rfl
@[simp] theorem State.setAsms_mem (l : List Assembly) : (s.setAsms l).mem = s.mem := rfl
@[simp] theorem State.setAsms_twin (l : List Assembly) : (s.setAsms l).twin = s.twin := rfl
@[simp] theorem State.setAsms_psc (l : List Assembly) : (s.setAsms l).psc = s.psc := rfl
@[simp] theorem State.setAsms_sys (l : List Assembly) : (s.setAsms l).sys = s.sys := rfl
@[simp] theorem State.setAsms_flash (l : List Assembly) : (s.setAsms l).flash = s.flash := rfl
@[simp] theorem State.setAsms_free (l : List Assembly) : (s.setAsms l).free = s.free := rfl
@[simp] theorem State.setAsms_pending (l : List Assembly) : (s.setAsms l).pending = s.pending := rfl

/-! ### setPscCh -/

@[simp] theorem State.setPscCh_variant (n : Nat) (x : PscCh) : (s.setPscCh n x).variant = s.variant := rfl
@[simp] theorem State.setPscCh_time (n : Nat) (x : PscCh) : (s.setPscCh n x).time = s.time := rfl
@[simp] theorem State.setPscCh_regs (n : Nat) (x : PscCh) : (s.setPscCh n x).regs = s.regs := rfl
@[simp] theorem State.setPscCh_rounds (n : Nat) (x : PscCh) : (s.setPscCh n x).rounds = s.rounds := rfl
@[simp] theorem State.setPscCh_mix (n : Nat) (x : PscCh) : (s.setPscCh n x).mix = s.mix := rfl
@[simp] theorem State.setPscCh_strips (n : Nat) (x : PscCh) : (s.setPscCh n x).strips = s.strips := rfl
@[simp] theorem State.setPscCh_disp (n : Nat) (x : PscCh) : (s.setPscCh n x).disp = s.disp := rfl
@[simp] theorem State.setPscCh_bop (n : Nat) (x : PscCh) : (s.setPscCh n x).bop = s.bop := rfl
@[simp] theorem State.setPscCh_dsp (n : Nat) (x : PscCh) : (s.setPscCh n x).dsp = s.dsp := rfl
@[simp] theorem State.setPscCh_sap (n : Nat) (x : PscCh) : (s.setPscCh n x).sap = s.sap := rfl
@[simp] theorem State.setPscCh_net (n : Nat) (x : PscCh) : (s.setPscCh n x).net = s.net := rfl
@[simp] theorem State.setPscCh_links (n : Nat) (x : PscCh) : (s.setPscCh n x).links = s.links := rfl
@[simp] theorem State.setPscCh_refs (n : Nat) (x : PscCh) : (s.setPscCh n x).refs = s.refs := rfl
@[simp] theorem State.setPscCh_mem (n : Nat) (x : PscCh) : (s.setPscCh n x).mem = s.mem := rfl
@[simp] theorem State.setPscCh_twin (n : Nat) (x : PscCh) : (s.setPscCh n x).twin = s.twin := rfl
@[simp] theorem State.setPscCh_sys (n : Nat) (x : PscCh) : (s.setPscCh n x).sys = s.sys := rfl
@[simp] theorem State.setPscCh_flash (n : Nat) (x : PscCh) : (s.setPscCh n x).flash = s.flash := rfl
@[simp] theorem State.setPscCh_free (n : Nat) (x : PscCh) : (s.setPscCh n x).free = s.free := rfl
@[simp] theorem State.setPscCh_pending (n : Nat) (x : PscCh) : (s.setPscCh n x).pending = s.pending := rfl

/-! ### setChan -/

@[simp] theorem State.setChan_variant (c : Nat) (x : Chan) : (s.setChan c x).variant = s.variant := rfl
@[simp] theorem State.setChan_time (c : Nat) (x : Chan) : (s.setChan c x).time = s.time := rfl
@[simp] theorem State.setChan_regs (c : Nat) (x : Chan) : (s.setChan c x).regs = s.regs := rfl
@[simp] theorem State.setChan_rounds (c : Nat) (x : Chan) : (s.setChan c x).rounds = s.rounds := rfl
@[simp] theorem State.setChan_mix (c : Nat) (x : Chan) : (s.setChan c x).mix = s.mix := rfl
@[simp] theorem State.setChan_strips (c : Nat) (x : Chan) : (s.setChan c x).strips = s.strips := rfl
@[simp] theorem State.setChan_disp (c : Nat) (x : Chan) : (s.setChan c x).disp = s.disp := rfl
@[simp] theorem State.setChan_bop (c : Nat) (x : Chan) : (s.setChan c x).bop = s.bop := rfl
@[simp] theorem State.setChan_dsp (c : Nat) (x : Chan) : (s.setChan c x).dsp = s.dsp := rfl
@[simp] theorem State.setChan_sap (c : Nat) (x : Chan) : (s.setChan c x).sap = s.sap := rfl
@[simp] theorem State.setChan_net (c : Nat) (x : Chan) : (s.setChan c x).net = s.net := rfl
@[simp] theorem State.setChan_links (c : Nat) (x : Chan) : (s.setChan c x).links = s.links := rfl
@[simp] theorem State.setChan_refs (c : Nat) (x : Chan) : (s.setChan c x).refs = s.refs := rfl
@[simp] theorem State.setChan_twin (c : Nat) (x : Chan) : (s.setChan c x).twin = s.twin := rfl
@[simp] theorem State.setChan_psc (c : Nat) (x : Chan) : (s.setChan c x).psc = s.psc := rfl
@[simp] theorem State.setChan_sys (c : Nat) (x : Chan) : (s.setChan c x).sys = s.sys := rfl
@[simp] theorem State.setChan_flash (c : Nat) (x : Chan) : (s.setChan c x).flash = s.flash := rfl
@[simp] theorem State.setChan_free (c : Nat) (x : Chan) : (s.setChan c x).free = s.free := rfl
@[simp] theorem State.setChan_pending (c : Nat) (x : Chan) : (s.setChan c x).pending = s.pending := rfl

/-! ### setNetPort -/

@[simp] theorem State.setNetPort_variant (p : Nat) (x : NetPort) : (s.setNetPort p x).variant = s.variant := rfl
@[simp] theorem State.setNetPort_time (p : Nat) (x : NetPort) : (s.setNetPort p x).time = s.time := rfl
@[simp] theorem State.setNetPort_regs (p : Nat) (x : NetPort) : (s.setNetPort p x).regs = s.regs := rfl
@[simp] theorem State.setNetPort_rounds (p : Nat) (x : NetPort) : (s.setNetPort p x).rounds = s.rounds := rfl
@[simp] theorem State.setNetPort_mix (p : Nat) (x : NetPort) : (s.setNetPort p x).mix = s.mix := rfl
@[simp] theorem State.setNetPort_strips (p : Nat) (x : NetPort) : (s.setNetPort p x).strips = s.strips := rfl
@[simp] theorem State.setNetPort_disp (p : Nat) (x : NetPort) : (s.setNetPort p x).disp = s.disp := rfl
@[simp] theorem State.setNetPort_bop (p : Nat) (x : NetPort) : (s.setNetPort p x).bop = s.bop := rfl
@[simp] theorem State.setNetPort_dsp (p : Nat) (x : NetPort) : (s.setNetPort p x).dsp = s.dsp := rfl
@[simp] theorem State.setNetPort_sap (p : Nat) (x : NetPort) : (s.setNetPort p x).sap = s.sap := rfl
@[simp] theorem State.setNetPort_links (p : Nat) (x : NetPort) : (s.setNetPort p x).links = s.links := rfl
@[simp] theorem State.setNetPort_refs (p : Nat) (x : NetPort) : (s.setNetPort p x).refs = s.refs := rfl
@[simp] theorem State.setNetPort_mem (p : Nat) (x : NetPort) : (s.setNetPort p x).mem = s.mem := rfl
@[simp] theorem State.setNetPort_twin (p : Nat) (x : NetPort) : (s.setNetPort p x).twin = s.twin := rfl
@[simp] theorem State.setNetPort_psc (p : Nat) (x : NetPort) : (s.setNetPort p x).psc = s.psc := rfl
@[simp] theorem State.setNetPort_sys (p : Nat) (x : NetPort) : (s.setNetPort p x).sys = s.sys := rfl
@[simp] theorem State.setNetPort_flash (p : Nat) (x : NetPort) : (s.setNetPort p x).flash = s.flash := rfl
@[simp] theorem State.setNetPort_free (p : Nat) (x : NetPort) : (s.setNetPort p x).free = s.free := rfl
@[simp] theorem State.setNetPort_pending (p : Nat) (x : NetPort) : (s.setNetPort p x).pending = s.pending := rfl

/-! ### setSapPort -/

@[simp] theorem State.setSapPort_variant (p : Nat) (x : SapPort) : (s.setSapPort p x).variant = s.variant := rfl
@[simp] theorem State.setSapPort_time (p : Nat) (x : SapPort) : (s.setSapPort p x).time = s.time := rfl
@[simp] theorem State.setSapPort_regs (p : Nat) (x : SapPort) : (s.setSapPort p x).regs = s.regs := rfl
@[simp] theorem State.setSapPort_rounds (p : Nat) (x : SapPort) : (s.setSapPort p x).rounds = s.rounds := rfl
@[simp] theorem State.setSapPort_mix (p : Nat) (x : SapPort) : (s.setSapPort p x).mix = s.mix := rfl
@[simp] theorem State.setSapPort_strips (p : Nat) (x : SapPort) : (s.setSapPort p x).strips = s.strips := rfl
@[simp] theorem State.setSapPort_disp (p : Nat) (x : SapPort) : (s.setSapPort p x).disp = s.disp := rfl
@[simp] theorem State.setSapPort_bop (p : Nat) (x : SapPort) : (s.setSapPort p x).bop = s.bop := rfl
@[simp] theorem State.setSapPort_dsp (p : Nat) (x : SapPort) : (s.setSapPort p x).dsp = s.dsp := rfl
@[simp] theorem State.setSapPort_net (p : Nat) (x : SapPort) : (s.setSapPort p x).net = s.net := rfl
@[simp] theorem State.setSapPort_links (p : Nat) (x : SapPort) : (s.setSapPort p x).links = s.links := rfl
@[simp] theorem State.setSapPort_refs (p : Nat) (x : SapPort) : (s.setSapPort p x).refs = s.refs := rfl
@[simp] theorem State.setSapPort_mem (p : Nat) (x : SapPort) : (s.setSapPort p x).mem = s.mem := rfl
@[simp] theorem State.setSapPort_twin (p : Nat) (x : SapPort) : (s.setSapPort p x).twin = s.twin := rfl
@[simp] theorem State.setSapPort_psc (p : Nat) (x : SapPort) : (s.setSapPort p x).psc = s.psc := rfl
@[simp] theorem State.setSapPort_sys (p : Nat) (x : SapPort) : (s.setSapPort p x).sys = s.sys := rfl
@[simp] theorem State.setSapPort_flash (p : Nat) (x : SapPort) : (s.setSapPort p x).flash = s.flash := rfl
@[simp] theorem State.setSapPort_free (p : Nat) (x : SapPort) : (s.setSapPort p x).free = s.free := rfl
@[simp] theorem State.setSapPort_pending (p : Nat) (x : SapPort) : (s.setSapPort p x).pending = s.pending := rfl

/-! ### setPtpPort -/

@[simp] theorem State.setPtpPort_variant (p : Nat) (x : PtpPort) : (s.setPtpPort p x).variant = s.variant := rfl
@[simp] theorem State.setPtpPort_time (p : Nat) (x : PtpPort) : (s.setPtpPort p x).time = s.time := rfl
@[simp] theorem State.setPtpPort_regs (p : Nat) (x : PtpPort) : (s.setPtpPort p x).regs = s.regs := rfl
@[simp] theorem State.setPtpPort_rounds (p : Nat) (x : PtpPort) : (s.setPtpPort p x).rounds = s.rounds := rfl
@[simp] theorem State.setPtpPort_mix (p : Nat) (x : PtpPort) : (s.setPtpPort p x).mix = s.mix := rfl
@[simp] theorem State.setPtpPort_strips (p : Nat) (x : PtpPort) : (s.setPtpPort p x).strips = s.strips := rfl
@[simp] theorem State.setPtpPort_disp (p : Nat) (x : PtpPort) : (s.setPtpPort p x).disp = s.disp := rfl
@[simp] theorem State.setPtpPort_bop (p : Nat) (x : PtpPort) : (s.setPtpPort p x).bop = s.bop := rfl
@[simp] theorem State.setPtpPort_dsp (p : Nat) (x : PtpPort) : (s.setPtpPort p x).dsp = s.dsp := rfl
@[simp] theorem State.setPtpPort_sap (p : Nat) (x : PtpPort) : (s.setPtpPort p x).sap = s.sap := rfl
@[simp] theorem State.setPtpPort_net (p : Nat) (x : PtpPort) : (s.setPtpPort p x).net = s.net := rfl
@[simp] theorem State.setPtpPort_links (p : Nat) (x : PtpPort) : (s.setPtpPort p x).links = s.links := rfl
@[simp] theorem State.setPtpPort_mem (p : Nat) (x : PtpPort) : (s.setPtpPort p x).mem = s.mem := rfl
@[simp] theorem State.setPtpPort_twin (p : Nat) (x : PtpPort) : (s.setPtpPort p x).twin = s.twin := rfl
@[simp] theorem State.setPtpPort_psc (p : Nat) (x : PtpPort) : (s.setPtpPort p x).psc = s.psc := rfl
@[simp] theorem State.setPtpPort_sys (p : Nat) (x : PtpPort) : (s.setPtpPort p x).sys = s.sys := rfl
@[simp] theorem State.setPtpPort_flash (p : Nat) (x : PtpPort) : (s.setPtpPort p x).flash = s.flash := rfl
@[simp] theorem State.setPtpPort_free (p : Nat) (x : PtpPort) : (s.setPtpPort p x).free = s.free := rfl
@[simp] theorem State.setPtpPort_pending (p : Nat) (x : PtpPort) : (s.setPtpPort p x).pending = s.pending := rfl

/-! ### setHref -/

@[simp] theorem State.setHref_variant (c : Nat) (x : Href) : (s.setHref c x).variant = s.variant := rfl
@[simp] theorem State.setHref_time (c : Nat) (x : Href) : (s.setHref c x).time = s.time := rfl
@[simp] theorem State.setHref_regs (c : Nat) (x : Href) : (s.setHref c x).regs = s.regs := rfl
@[simp] theorem State.setHref_rounds (c : Nat) (x : Href) : (s.setHref c x).rounds = s.rounds := rfl
@[simp] theorem State.setHref_mix (c : Nat) (x : Href) : (s.setHref c x).mix = s.mix := rfl
@[simp] theorem State.setHref_strips (c : Nat) (x : Href) : (s.setHref c x).strips = s.strips := rfl
@[simp] theorem State.setHref_disp (c : Nat) (x : Href) : (s.setHref c x).disp = s.disp := rfl
@[simp] theorem State.setHref_bop (c : Nat) (x : Href) : (s.setHref c x).bop = s.bop := rfl
@[simp] theorem State.setHref_dsp (c : Nat) (x : Href) : (s.setHref c x).dsp = s.dsp := rfl
@[simp] theorem State.setHref_sap (c : Nat) (x : Href) : (s.setHref c x).sap = s.sap := rfl
@[simp] theorem State.setHref_net (c : Nat) (x : Href) : (s.setHref c x).net = s.net := rfl
@[simp] theorem State.setHref_links (c : Nat) (x : Href) : (s.setHref c x).links = s.links := rfl
@[simp] theorem State.setHref_mem (c : Nat) (x : Href) : (s.setHref c x).mem = s.mem := rfl
@[simp] theorem State.setHref_twin (c : Nat) (x : Href) : (s.setHref c x).twin = s.twin := rfl
@[simp] theorem State.setHref_psc (c : Nat) (x : Href) : (s.setHref c x).psc = s.psc := rfl
@[simp] theorem State.setHref_sys (c : Nat) (x : Href) : (s.setHref c x).sys = s.sys := rfl
@[simp] theorem State.setHref_flash (c : Nat) (x : Href) : (s.setHref c x).flash = s.flash := rfl
@[simp] theorem State.setHref_free (c : Nat) (x : Href) : (s.setHref c x).free = s.free := rfl
@[simp] theorem State.setHref_pending (c : Nat) (x : Href) : (s.setHref c x).pending = s.pending := rfl

/-! ### setSignal -/

@[simp] theorem State.setSignal_variant (a : Nat) (x : List Int) : (s.setSignal a x).variant = s.variant := rfl
@[simp] theorem State.setSignal_time (a : Nat) (x : List Int) : (s.setSignal a x).time = s.time := rfl
@[simp] theorem State.setSignal_regs (a : Nat) (x : List Int) : (s.setSignal a x).regs = s.regs := rfl
@[simp] theorem State.setSignal_rounds (a : Nat) (x : List Int) : (s.setSignal a x).rounds = s.rounds := rfl
@[simp] theorem State.setSignal_strips (a : Nat) (x : List Int) : (s.setSignal a x).strips = s.strips := rfl
@[simp] theorem State.setSignal_disp (a : Nat) (x : List Int) : (s.setSignal a x).disp = s.disp := rfl
@[simp] theorem State.setSignal_bop (a : Nat) (x : List Int) : (s.setSignal a x).bop = s.bop := rfl
@[simp] theorem State.setSignal_dsp (a : Nat) (x : List Int) : (s.setSignal a x).dsp = s.dsp := rfl
@[simp] theorem State.setSignal_sap (a : Nat) (x : List Int) : (s.setSignal a x).sap = s.sap := rfl
@[simp] theorem State.setSignal_net (a : Nat) (x : List Int) : (s.setSignal a x).net = s.net := rfl
@[simp] theorem State.setSignal_links (a : Nat) (x : List Int) : (s.setSignal a x).links = s.links := rfl
@[simp] theorem State.setSignal_refs (a : Nat) (x : List Int) : (s.setSignal a x).refs = s.refs := rfl
@[simp] theorem State.setSignal_mem (a : Nat) (x : List Int) : (s.setSignal a x).mem = s.mem := rfl
@[simp] theorem State.setSignal_twin (a : Nat) (x : List Int) : (s.setSignal a x).twin = s.twin := rfl
@[simp] theorem State.setSignal_psc (a : Nat) (x : List Int) : (s.setSignal a x).psc = s.psc := rfl
@[simp] theorem State.setSignal_sys (a : Nat) (x : List Int) : (s.setSignal a x).sys = s.sys := rfl
@[simp] theorem State.setSignal_flash (a : Nat) (x : List Int) : (s.setSignal a x).flash = s.flash := rfl
@[simp] theorem State.setSignal_free (a : Nat) (x : List Int) : (s.setSignal a x).free = s.free := rfl
@[simp] theorem State.setSignal_pending (a : Nat) (x : List Int) : (s.setSignal a x).pending = s.pending := rfl

/-! ### setGroupSeq -/

@[simp] theorem State.setGroupSeq_variant (g : Nat) (x : GroupSeq) : (s.setGroupSeq g x).variant = s.variant := rfl
@[simp] theorem State.setGroupSeq_time (g : Nat) (x : GroupSeq) : (s.setGroupSeq g x).time = s.time := rfl
@[simp] theorem State.setGroupSeq_regs (g : Nat) (x : GroupSeq) : (s.setGroupSeq g x).regs = s.regs := rfl
@[simp] theorem State.setGroupSeq_rounds (g : Nat) (x : GroupSeq) : (s.setGroupSeq g x).rounds = s.rounds := rfl
@[simp] theorem State.setGroupSeq_mix (g : Nat) (x : GroupSeq) : (s.setGroupSeq g x).mix = s.mix := rfl
@[simp] theorem State.setGroupSeq_strips (g : Nat) (x : GroupSeq) : (s.setGroupSeq g x).strips = s.strips := rfl
@[simp] theorem State.setGroupSeq_disp (g : Nat) (x : GroupSeq) : (s.setGroupSeq g x).disp = s.disp := rfl
@[simp] theorem State.setGroupSeq_dsp (g : Nat) (x : GroupSeq) : (s.setGroupSeq g x).dsp = s.dsp := rfl
@[simp] theorem State.setGroupSeq_sap (g : Nat) (x : GroupSeq) : (s.setGroupSeq g x).sap = s.sap := rfl
@[simp] theorem State.setGroupSeq_net (g : Nat) (x : GroupSeq) : (s.setGroupSeq g x).net = s.net := rfl
@[simp] theorem State.setGroupSeq_links (g : Nat) (x : GroupSeq) : (s.setGroupSeq g x).links = s.links := rfl
@[simp] theorem State.setGroupSeq_refs (g : Nat) (x : GroupSeq) : (s.setGroupSeq g x).refs = s.refs := rfl
@[simp] theorem State.setGroupSeq_mem (g : Nat) (x : GroupSeq) : (s.setGroupSeq g x).mem = s.mem := rfl
@[simp] theorem State.setGroupSeq_twin (g : Nat) (x : GroupSeq) : (s.setGroupSeq g x).twin = s.twin := rfl
@[simp] theorem State.setGroupSeq_psc (g : Nat) (x : GroupSeq) : (s.setGroupSeq g x).psc = s.psc := rfl
@[simp] theorem State.setGroupSeq_sys (g : Nat) (x : GroupSeq) : (s.setGroupSeq g x).sys = s.sys := rfl
@[simp] theorem State.setGroupSeq_flash (g : Nat) (x : GroupSeq) : (s.setGroupSeq g x).flash = s.flash := rfl
@[simp] theorem State.setGroupSeq_free (g : Nat) (x : GroupSeq) : (s.setGroupSeq g x).free = s.free := rfl
@[simp] theorem State.setGroupSeq_pending (g : Nat) (x : GroupSeq) : (s.setGroupSeq g x).pending = s.pending := rfl

/-! ### setDramOut -/

@[simp] theorem State.setDramOut_variant (b : List Byte) (failed : Bool) : (s.setDramOut b failed).variant = s.variant := rfl
@[simp] theorem State.setDramOut_time (b : List Byte) (failed : Bool) : (s.setDramOut b failed).time = s.time := rfl
@[simp] theorem State.setDramOut_regs (b : List Byte) (failed : Bool) : (s.setDramOut b failed).regs = s.regs := rfl
@[simp] theorem State.setDramOut_rounds (b : List Byte) (failed : Bool) : (s.setDramOut b failed).rounds = s.rounds := rfl
@[simp] theorem State.setDramOut_mix (b : List Byte) (failed : Bool) : (s.setDramOut b failed).mix = s.mix := rfl
@[simp] theorem State.setDramOut_strips (b : List Byte) (failed : Bool) : (s.setDramOut b failed).strips = s.strips := rfl
@[simp] theorem State.setDramOut_disp (b : List Byte) (failed : Bool) : (s.setDramOut b failed).disp = s.disp := rfl
@[simp] theorem State.setDramOut_bop (b : List Byte) (failed : Bool) : (s.setDramOut b failed).bop = s.bop := rfl
@[simp] theorem State.setDramOut_dsp (b : List Byte) (failed : Bool) : (s.setDramOut b failed).dsp = s.dsp := rfl
@[simp] theorem State.setDramOut_sap (b : List Byte) (failed : Bool) : (s.setDramOut b failed).sap = s.sap := rfl
@[simp] theorem State.setDramOut_net (b : List Byte) (failed : Bool) : (s.setDramOut b failed).net = s.net := rfl
@[simp] theorem State.setDramOut_links (b : List Byte) (failed : Bool) : (s.setDramOut b failed).links = s.links := rfl
@[simp] theorem State.setDramOut_refs (b : List Byte) (failed : Bool) : (s.setDramOut b failed).refs = s.refs := rfl
@[simp] theorem State.setDramOut_twin (b : List Byte) (failed : Bool) : (s.setDramOut b failed).twin = s.twin := rfl
@[simp] theorem State.setDramOut_psc (b : List Byte) (failed : Bool) : (s.setDramOut b failed).psc = s.psc := rfl
@[simp] theorem State.setDramOut_sys (b : List Byte) (failed : Bool) : (s.setDramOut b failed).sys = s.sys := rfl
@[simp] theorem State.setDramOut_flash (b : List Byte) (failed : Bool) : (s.setDramOut b failed).flash = s.flash := rfl
@[simp] theorem State.setDramOut_free (b : List Byte) (failed : Bool) : (s.setDramOut b failed).free = s.free := rfl
@[simp] theorem State.setDramOut_pending (b : List Byte) (failed : Bool) : (s.setDramOut b failed).pending = s.pending := rfl

/-! ### setXbar -/

@[simp] theorem State.setXbar_variant (code : Nat) (b : List Byte) : (s.setXbar code b).variant = s.variant := rfl
@[simp] theorem State.setXbar_time (code : Nat) (b : List Byte) : (s.setXbar code b).time = s.time := rfl
@[simp] theorem State.setXbar_regs (code : Nat) (b : List Byte) : (s.setXbar code b).regs = s.regs := rfl
@[simp] theorem State.setXbar_rounds (code : Nat) (b : List Byte) : (s.setXbar code b).rounds = s.rounds := rfl
@[simp] theorem State.setXbar_mix (code : Nat) (b : List Byte) : (s.setXbar code b).mix = s.mix := rfl
@[simp] theorem State.setXbar_strips (code : Nat) (b : List Byte) : (s.setXbar code b).strips = s.strips := rfl
@[simp] theorem State.setXbar_disp (code : Nat) (b : List Byte) : (s.setXbar code b).disp = s.disp := rfl
@[simp] theorem State.setXbar_bop (code : Nat) (b : List Byte) : (s.setXbar code b).bop = s.bop := rfl
@[simp] theorem State.setXbar_dsp (code : Nat) (b : List Byte) : (s.setXbar code b).dsp = s.dsp := rfl
@[simp] theorem State.setXbar_sap (code : Nat) (b : List Byte) : (s.setXbar code b).sap = s.sap := rfl
@[simp] theorem State.setXbar_net (code : Nat) (b : List Byte) : (s.setXbar code b).net = s.net := rfl
@[simp] theorem State.setXbar_links (code : Nat) (b : List Byte) : (s.setXbar code b).links = s.links := rfl
@[simp] theorem State.setXbar_refs (code : Nat) (b : List Byte) : (s.setXbar code b).refs = s.refs := rfl
@[simp] theorem State.setXbar_twin (code : Nat) (b : List Byte) : (s.setXbar code b).twin = s.twin := rfl
@[simp] theorem State.setXbar_psc (code : Nat) (b : List Byte) : (s.setXbar code b).psc = s.psc := rfl
@[simp] theorem State.setXbar_sys (code : Nat) (b : List Byte) : (s.setXbar code b).sys = s.sys := rfl
@[simp] theorem State.setXbar_flash (code : Nat) (b : List Byte) : (s.setXbar code b).flash = s.flash := rfl
@[simp] theorem State.setXbar_free (code : Nat) (b : List Byte) : (s.setXbar code b).free = s.free := rfl
@[simp] theorem State.setXbar_pending (code : Nat) (b : List Byte) : (s.setXbar code b).pending = s.pending := rfl

/-! ### setTdo -/

@[simp] theorem State.setTdo_variant (b : List Byte) : (s.setTdo b).variant = s.variant := rfl
@[simp] theorem State.setTdo_time (b : List Byte) : (s.setTdo b).time = s.time := rfl
@[simp] theorem State.setTdo_regs (b : List Byte) : (s.setTdo b).regs = s.regs := rfl
@[simp] theorem State.setTdo_rounds (b : List Byte) : (s.setTdo b).rounds = s.rounds := rfl
@[simp] theorem State.setTdo_mix (b : List Byte) : (s.setTdo b).mix = s.mix := rfl
@[simp] theorem State.setTdo_strips (b : List Byte) : (s.setTdo b).strips = s.strips := rfl
@[simp] theorem State.setTdo_disp (b : List Byte) : (s.setTdo b).disp = s.disp := rfl
@[simp] theorem State.setTdo_bop (b : List Byte) : (s.setTdo b).bop = s.bop := rfl
@[simp] theorem State.setTdo_dsp (b : List Byte) : (s.setTdo b).dsp = s.dsp := rfl
@[simp] theorem State.setTdo_sap (b : List Byte) : (s.setTdo b).sap = s.sap := rfl
@[simp] theorem State.setTdo_net (b : List Byte) : (s.setTdo b).net = s.net := rfl
@[simp] theorem State.setTdo_links (b : List Byte) : (s.setTdo b).links = s.links := rfl
@[simp] theorem State.setTdo_refs (b : List Byte) : (s.setTdo b).refs = s.refs := rfl
@[simp] theorem State.setTdo_mem (b : List Byte) : (s.setTdo b).mem = s.mem := rfl
@[simp] theorem State.setTdo_twin (b : List Byte) : (s.setTdo b).twin = s.twin := rfl
@[simp] theorem State.setTdo_psc (b : List Byte) : (s.setTdo b).psc = s.psc := rfl
@[simp] theorem State.setTdo_flash (b : List Byte) : (s.setTdo b).flash = s.flash := rfl
@[simp] theorem State.setTdo_free (b : List Byte) : (s.setTdo b).free = s.free := rfl
@[simp] theorem State.setTdo_pending (b : List Byte) : (s.setTdo b).pending = s.pending := rfl

/-! ### fresh -/

@[simp] theorem State.fresh_variant : (s.fresh.2).variant = s.variant := rfl
@[simp] theorem State.fresh_time : (s.fresh.2).time = s.time := rfl
@[simp] theorem State.fresh_regs : (s.fresh.2).regs = s.regs := rfl
@[simp] theorem State.fresh_rounds : (s.fresh.2).rounds = s.rounds := rfl
@[simp] theorem State.fresh_mix : (s.fresh.2).mix = s.mix := rfl
@[simp] theorem State.fresh_strips : (s.fresh.2).strips = s.strips := rfl
@[simp] theorem State.fresh_disp : (s.fresh.2).disp = s.disp := rfl
@[simp] theorem State.fresh_bop : (s.fresh.2).bop = s.bop := rfl
@[simp] theorem State.fresh_dsp : (s.fresh.2).dsp = s.dsp := rfl
@[simp] theorem State.fresh_sap : (s.fresh.2).sap = s.sap := rfl
@[simp] theorem State.fresh_net : (s.fresh.2).net = s.net := rfl
@[simp] theorem State.fresh_links : (s.fresh.2).links = s.links := rfl
@[simp] theorem State.fresh_refs : (s.fresh.2).refs = s.refs := rfl
@[simp] theorem State.fresh_mem : (s.fresh.2).mem = s.mem := rfl
@[simp] theorem State.fresh_twin : (s.fresh.2).twin = s.twin := rfl
@[simp] theorem State.fresh_psc : (s.fresh.2).psc = s.psc := rfl
@[simp] theorem State.fresh_sys : (s.fresh.2).sys = s.sys := rfl
@[simp] theorem State.fresh_flash : (s.fresh.2).flash = s.flash := rfl
@[simp] theorem State.fresh_pending : (s.fresh.2).pending = s.pending := rfl

/-! ### setPulse -/

@[simp] theorem State.setPulse_variant (o : Nat) (x : PulseOut) : (s.setPulse o x).variant = s.variant := rfl
@[simp] theorem State.setPulse_time (o : Nat) (x : PulseOut) : (s.setPulse o x).time = s.time := rfl
@[simp] theorem State.setPulse_regs (o : Nat) (x : PulseOut) : (s.setPulse o x).regs = s.regs := rfl
@[simp] theorem State.setPulse_rounds (o : Nat) (x : PulseOut) : (s.setPulse o x).rounds = s.rounds := rfl
@[simp] theorem State.setPulse_mix (o : Nat) (x : PulseOut) : (s.setPulse o x).mix = s.mix := rfl
@[simp] theorem State.setPulse_strips (o : Nat) (x : PulseOut) : (s.setPulse o x).strips = s.strips := rfl
@[simp] theorem State.setPulse_disp (o : Nat) (x : PulseOut) : (s.setPulse o x).disp = s.disp := rfl
@[simp] theorem State.setPulse_bop (o : Nat) (x : PulseOut) : (s.setPulse o x).bop = s.bop := rfl
@[simp] theorem State.setPulse_dsp (o : Nat) (x : PulseOut) : (s.setPulse o x).dsp = s.dsp := rfl
@[simp] theorem State.setPulse_sap (o : Nat) (x : PulseOut) : (s.setPulse o x).sap = s.sap := rfl
@[simp] theorem State.setPulse_net (o : Nat) (x : PulseOut) : (s.setPulse o x).net = s.net := rfl
@[simp] theorem State.setPulse_links (o : Nat) (x : PulseOut) : (s.setPulse o x).links = s.links := rfl
@[simp] theorem State.setPulse_mem (o : Nat) (x : PulseOut) : (s.setPulse o x).mem = s.mem := rfl
@[simp] theorem State.setPulse_twin (o : Nat) (x : PulseOut) : (s.setPulse o x).twin = s.twin := rfl
@[simp] theorem State.setPulse_psc (o : Nat) (x : PulseOut) : (s.setPulse o x).psc = s.psc := rfl
@[simp] theorem State.setPulse_sys (o : Nat) (x : PulseOut) : (s.setPulse o x).sys = s.sys := rfl
@[simp] theorem State.setPulse_flash (o : Nat) (x : PulseOut) : (s.setPulse o x).flash = s.flash := rfl
@[simp] theorem State.setPulse_free (o : Nat) (x : PulseOut) : (s.setPulse o x).free = s.free := rfl
@[simp] theorem State.setPulse_pending (o : Nat) (x : PulseOut) : (s.setPulse o x).pending = s.pending := rfl

/-! ### setMeter -/

@[simp] theorem State.setMeter_variant (p : Nat) (m : Meter) : (s.setMeter p m).variant = s.variant := rfl
@[simp] theorem State.setMeter_time (p : Nat) (m : Meter) : (s.setMeter p m).time = s.time := rfl
@[simp] theorem State.setMeter_regs (p : Nat) (m : Meter) : (s.setMeter p m).regs = s.regs := rfl
@[simp] theorem State.setMeter_rounds (p : Nat) (m : Meter) : (s.setMeter p m).rounds = s.rounds := rfl
@[simp] theorem State.setMeter_strips (p : Nat) (m : Meter) : (s.setMeter p m).strips = s.strips := rfl
@[simp] theorem State.setMeter_disp (p : Nat) (m : Meter) : (s.setMeter p m).disp = s.disp := rfl
@[simp] theorem State.setMeter_bop (p : Nat) (m : Meter) : (s.setMeter p m).bop = s.bop := rfl
@[simp] theorem State.setMeter_dsp (p : Nat) (m : Meter) : (s.setMeter p m).dsp = s.dsp := rfl
@[simp] theorem State.setMeter_sap (p : Nat) (m : Meter) : (s.setMeter p m).sap = s.sap := rfl
@[simp] theorem State.setMeter_net (p : Nat) (m : Meter) : (s.setMeter p m).net = s.net := rfl
@[simp] theorem State.setMeter_links (p : Nat) (m : Meter) : (s.setMeter p m).links = s.links := rfl
@[simp] theorem State.setMeter_refs (p : Nat) (m : Meter) : (s.setMeter p m).refs = s.refs := rfl
@[simp] theorem State.setMeter_mem (p : Nat) (m : Meter) : (s.setMeter p m).mem = s.mem := rfl
@[simp] theorem State.setMeter_twin (p : Nat) (m : Meter) : (s.setMeter p m).twin = s.twin := rfl
@[simp] theorem State.setMeter_psc (p : Nat) (m : Meter) : (s.setMeter p m).psc = s.psc := rfl
@[simp] theorem State.setMeter_sys (p : Nat) (m : Meter) : (s.setMeter p m).sys = s.sys := rfl
@[simp] theorem State.setMeter_flash (p : Nat) (m : Meter) : (s.setMeter p m).flash = s.flash := rfl
@[simp] theorem State.setMeter_free (p : Nat) (m : Meter) : (s.setMeter p m).free = s.free := rfl
@[simp] theorem State.setMeter_pending (p : Nat) (m : Meter) : (s.setMeter p m).pending = s.pending := rfl

/-! ### setLoud -/

@[simp] theorem State.setLoud_variant (l : Nat) (x : Loud) : (s.setLoud l x).variant = s.variant := rfl
@[simp] theorem State.setLoud_time (l : Nat) (x : Loud) : (s.setLoud l x).time = s.time := rfl
@[simp] theorem State.setLoud_regs (l : Nat) (x : Loud) : (s.setLoud l x).regs = s.regs := rfl
@[simp] theorem State.setLoud_rounds (l : Nat) (x : Loud) : (s.setLoud l x).rounds = s.rounds := rfl
@[simp] theorem State.setLoud_strips (l : Nat) (x : Loud) : (s.setLoud l x).strips = s.strips := rfl
@[simp] theorem State.setLoud_disp (l : Nat) (x : Loud) : (s.setLoud l x).disp = s.disp := rfl
@[simp] theorem State.setLoud_bop (l : Nat) (x : Loud) : (s.setLoud l x).bop = s.bop := rfl
@[simp] theorem State.setLoud_dsp (l : Nat) (x : Loud) : (s.setLoud l x).dsp = s.dsp := rfl
@[simp] theorem State.setLoud_sap (l : Nat) (x : Loud) : (s.setLoud l x).sap = s.sap := rfl
@[simp] theorem State.setLoud_net (l : Nat) (x : Loud) : (s.setLoud l x).net = s.net := rfl
@[simp] theorem State.setLoud_links (l : Nat) (x : Loud) : (s.setLoud l x).links = s.links := rfl
@[simp] theorem State.setLoud_refs (l : Nat) (x : Loud) : (s.setLoud l x).refs = s.refs := rfl
@[simp] theorem State.setLoud_mem (l : Nat) (x : Loud) : (s.setLoud l x).mem = s.mem := rfl
@[simp] theorem State.setLoud_twin (l : Nat) (x : Loud) : (s.setLoud l x).twin = s.twin := rfl
@[simp] theorem State.setLoud_psc (l : Nat) (x : Loud) : (s.setLoud l x).psc = s.psc := rfl
@[simp] theorem State.setLoud_sys (l : Nat) (x : Loud) : (s.setLoud l x).sys = s.sys := rfl
@[simp] theorem State.setLoud_flash (l : Nat) (x : Loud) : (s.setLoud l x).flash = s.flash := rfl
@[simp] theorem State.setLoud_free (l : Nat) (x : Loud) : (s.setLoud l x).free = s.free := rfl
@[simp] theorem State.setLoud_pending (l : Nat) (x : Loud) : (s.setLoud l x).pending = s.pending := rfl

/-! ### setPub -/

@[simp] theorem State.setPub_variant (j : Nat) (x : PubAgg) : (s.setPub j x).variant = s.variant := rfl
@[simp] theorem State.setPub_time (j : Nat) (x : PubAgg) : (s.setPub j x).time = s.time := rfl
@[simp] theorem State.setPub_regs (j : Nat) (x : PubAgg) : (s.setPub j x).regs = s.regs := rfl
@[simp] theorem State.setPub_rounds (j : Nat) (x : PubAgg) : (s.setPub j x).rounds = s.rounds := rfl
@[simp] theorem State.setPub_strips (j : Nat) (x : PubAgg) : (s.setPub j x).strips = s.strips := rfl
@[simp] theorem State.setPub_disp (j : Nat) (x : PubAgg) : (s.setPub j x).disp = s.disp := rfl
@[simp] theorem State.setPub_bop (j : Nat) (x : PubAgg) : (s.setPub j x).bop = s.bop := rfl
@[simp] theorem State.setPub_dsp (j : Nat) (x : PubAgg) : (s.setPub j x).dsp = s.dsp := rfl
@[simp] theorem State.setPub_sap (j : Nat) (x : PubAgg) : (s.setPub j x).sap = s.sap := rfl
@[simp] theorem State.setPub_net (j : Nat) (x : PubAgg) : (s.setPub j x).net = s.net := rfl
@[simp] theorem State.setPub_links (j : Nat) (x : PubAgg) : (s.setPub j x).links = s.links := rfl
@[simp] theorem State.setPub_refs (j : Nat) (x : PubAgg) : (s.setPub j x).refs = s.refs := rfl
@[simp] theorem State.setPub_mem (j : Nat) (x : PubAgg) : (s.setPub j x).mem = s.mem := rfl
@[simp] theorem State.setPub_twin (j : Nat) (x : PubAgg) : (s.setPub j x).twin = s.twin := rfl
@[simp] theorem State.setPub_psc (j : Nat) (x : PubAgg) : (s.setPub j x).psc = s.psc := rfl
@[simp] theorem State.setPub_sys (j : Nat) (x : PubAgg) : (s.setPub j x).sys = s.sys := rfl
@[simp] theorem State.setPub_flash (j : Nat) (x : PubAgg) : (s.setPub j x).flash = s.flash := rfl
@[simp] theorem State.setPub_free (j : Nat) (x : PubAgg) : (s.setPub j x).free = s.free := rfl
@[simp] theorem State.setPub_pending (j : Nat) (x : PubAgg) : (s.setPub j x).pending = s.pending := rfl

/-! ### setRxStream -/

@[simp] theorem State.setRxStream_variant (i : Nat) (x : RxStream) : (s.setRxStream i x).variant = s.variant := rfl
@[simp] theorem State.setRxStream_time (i : Nat) (x : RxStream) : (s.setRxStream i x).time = s.time := rfl
@[simp] theorem State.setRxStream_regs (i : Nat) (x : RxStream) : (s.setRxStream i x).regs = s.regs := rfl
@[simp] theorem State.setRxStream_rounds (i : Nat) (x : RxStream) : (s.setRxStream i x).rounds = s.rounds := rfl
@[simp] theorem State.setRxStream_mix (i : Nat) (x : RxStream) : (s.setRxStream i x).mix = s.mix := rfl
@[simp] theorem State.setRxStream_strips (i : Nat) (x : RxStream) : (s.setRxStream i x).strips = s.strips := rfl
@[simp] theorem State.setRxStream_disp (i : Nat) (x : RxStream) : (s.setRxStream i x).disp = s.disp := rfl
@[simp] theorem State.setRxStream_bop (i : Nat) (x : RxStream) : (s.setRxStream i x).bop = s.bop := rfl
@[simp] theorem State.setRxStream_dsp (i : Nat) (x : RxStream) : (s.setRxStream i x).dsp = s.dsp := rfl
@[simp] theorem State.setRxStream_sap (i : Nat) (x : RxStream) : (s.setRxStream i x).sap = s.sap := rfl
@[simp] theorem State.setRxStream_links (i : Nat) (x : RxStream) : (s.setRxStream i x).links = s.links := rfl
@[simp] theorem State.setRxStream_refs (i : Nat) (x : RxStream) : (s.setRxStream i x).refs = s.refs := rfl
@[simp] theorem State.setRxStream_mem (i : Nat) (x : RxStream) : (s.setRxStream i x).mem = s.mem := rfl
@[simp] theorem State.setRxStream_twin (i : Nat) (x : RxStream) : (s.setRxStream i x).twin = s.twin := rfl
@[simp] theorem State.setRxStream_psc (i : Nat) (x : RxStream) : (s.setRxStream i x).psc = s.psc := rfl
@[simp] theorem State.setRxStream_sys (i : Nat) (x : RxStream) : (s.setRxStream i x).sys = s.sys := rfl
@[simp] theorem State.setRxStream_flash (i : Nat) (x : RxStream) : (s.setRxStream i x).flash = s.flash := rfl
@[simp] theorem State.setRxStream_free (i : Nat) (x : RxStream) : (s.setRxStream i x).free = s.free := rfl
@[simp] theorem State.setRxStream_pending (i : Nat) (x : RxStream) : (s.setRxStream i x).pending = s.pending := rfl

/-! ### setSub -/

@[simp] theorem State.setSub_variant (n : Nat) (x : Option Sub) : (s.setSub n x).variant = s.variant := rfl
@[simp] theorem State.setSub_time (n : Nat) (x : Option Sub) : (s.setSub n x).time = s.time := rfl
@[simp] theorem State.setSub_regs (n : Nat) (x : Option Sub) : (s.setSub n x).regs = s.regs := rfl
@[simp] theorem State.setSub_rounds (n : Nat) (x : Option Sub) : (s.setSub n x).rounds = s.rounds := rfl
@[simp] theorem State.setSub_mix (n : Nat) (x : Option Sub) : (s.setSub n x).mix = s.mix := rfl
@[simp] theorem State.setSub_strips (n : Nat) (x : Option Sub) : (s.setSub n x).strips = s.strips := rfl
@[simp] theorem State.setSub_disp (n : Nat) (x : Option Sub) : (s.setSub n x).disp = s.disp := rfl
@[simp] theorem State.setSub_dsp (n : Nat) (x : Option Sub) : (s.setSub n x).dsp = s.dsp := rfl
@[simp] theorem State.setSub_sap (n : Nat) (x : Option Sub) : (s.setSub n x).sap = s.sap := rfl
@[simp] theorem State.setSub_net (n : Nat) (x : Option Sub) : (s.setSub n x).net = s.net := rfl
@[simp] theorem State.setSub_links (n : Nat) (x : Option Sub) : (s.setSub n x).links = s.links := rfl
@[simp] theorem State.setSub_refs (n : Nat) (x : Option Sub) : (s.setSub n x).refs = s.refs := rfl
@[simp] theorem State.setSub_mem (n : Nat) (x : Option Sub) : (s.setSub n x).mem = s.mem := rfl
@[simp] theorem State.setSub_twin (n : Nat) (x : Option Sub) : (s.setSub n x).twin = s.twin := rfl
@[simp] theorem State.setSub_psc (n : Nat) (x : Option Sub) : (s.setSub n x).psc = s.psc := rfl
@[simp] theorem State.setSub_sys (n : Nat) (x : Option Sub) : (s.setSub n x).sys = s.sys := rfl
@[simp] theorem State.setSub_flash (n : Nat) (x : Option Sub) : (s.setSub n x).flash = s.flash := rfl
@[simp] theorem State.setSub_free (n : Nat) (x : Option Sub) : (s.setSub n x).free = s.free := rfl
@[simp] theorem State.setSub_pending (n : Nat) (x : Option Sub) : (s.setSub n x).pending = s.pending := rfl

/-! ### Elements -/

/-- An element reads the value written to it. -/
@[simp] theorem State.val_setV_same (a : Nat) (v : Val) : (s.setV a v).val a = v := Tab.get_put_same _ _ _ _
/-- Every other element reads as before. -/
theorem State.val_setV_ne (a b : Nat) (v : Val) (h : b ≠ a) : (s.setV a v).val b = s.val b := Tab.get_put_ne _ _ _ _ _ _ h

@[simp] theorem State.val_setN_same (a n : Nat) : (s.setN a n).val a = .int n := s.val_setV_same a _
theorem State.val_setN_ne (a n b : Nat) (h : b ≠ a) : (s.setN a n).val b = s.val b := s.val_setV_ne a b _ h
@[simp] theorem State.val_setI_same (a : Nat) (z : Int) : (s.setI a z).val a = .int z := s.val_setV_same a _
theorem State.val_setI_ne (a : Nat) (z : Int) (b : Nat) (h : b ≠ a) : (s.setI a z).val b = s.val b := s.val_setV_ne a b _ h
@[simp] theorem State.val_setB_same (a : Nat) (x : List Byte) : (s.setB a x).val a = .bytes x := s.val_setV_same a _
theorem State.val_setB_ne (a : Nat) (x : List Byte) (b : Nat) (h : b ≠ a) : (s.setB a x).val b = s.val b := s.val_setV_ne a b _ h

@[simp] theorem State.nat_setN_same (a n : Nat) : (s.setN a n).nat a = n := by simp [State.nat, Val.toNat]
theorem State.nat_setN_ne (a n b : Nat) (h : b ≠ a) : (s.setN a n).nat b = s.nat b := by simp [State.nat, s.val_setN_ne a n b h]
theorem State.nat_setV_ne (a : Nat) (v : Val) (b : Nat) (h : b ≠ a) : (s.setV a v).nat b = s.nat b := by
  simp [State.nat, s.val_setV_ne a b v h]
theorem State.nat_setI_ne (a : Nat) (z : Int) (b : Nat) (h : b ≠ a) : (s.setI a z).nat b = s.nat b := s.nat_setV_ne a _ b h
theorem State.nat_setB_ne (a : Nat) (x : List Byte) (b : Nat) (h : b ≠ a) : (s.setB a x).nat b = s.nat b := s.nat_setV_ne a _ b h
@[simp] theorem State.int_setI_same (a : Nat) (z : Int) : (s.setI a z).int a = z := by simp [State.int]

/-- A counter rises by 1 and stays at its largest value. -/
theorem State.nat_inc_same (a : Nat) : (s.inc a).nat a = min (s.nat a + 1) (2 ^ 32 - 1) := by
  simp [State.inc, State.bump]
theorem State.nat_inc_ne (a b : Nat) (h : b ≠ a) : (s.inc a).nat b = s.nat b := s.nat_setN_ne a _ b h

/-- Elements outside a list keep their value when the list is set. -/
theorem State.val_setAll_out (l : List Nat) (n b : Nat) (h : b ∉ l) : (s.setAll l n).val b = s.val b := by
  induction l generalizing s with
  | nil => rfl
  | cons a l ih =>
    simp only [List.mem_cons, not_or] at h
    exact (ih (s.setN a n) h.2).trans (s.val_setN_ne a n b h.1)

/-- Every element of a list that is set reads the number. -/
theorem State.nat_setAll_in (l : List Nat) (n b : Nat) (h : b ∈ l) : (s.setAll l n).nat b = n := by
  induction l generalizing s with
  | nil => simp at h
  | cons a l ih =>
    show ((s.setN a n).setAll l n).nat b = n
    by_cases hb : b ∈ l
    · exact ih _ hb
    · rcases List.mem_cons.1 h with rfl | h
      · rw [State.nat, State.val_setAll_out _ _ _ _ hb]; exact s.nat_setN_same b n
      · exact absurd h hb

/-- Every element of a list that is set holds the number. -/
theorem State.val_setAll_in (l : List Nat) (n b : Nat) (h : b ∈ l) : (s.setAll l n).val b = .int n := by
  induction l generalizing s with
  | nil => simp at h
  | cons a l ih =>
    show ((s.setN a n).setAll l n).val b = .int n
    by_cases hb : b ∈ l
    · exact ih _ hb
    · rcases List.mem_cons.1 h with rfl | h
      · rw [State.val_setAll_out _ _ _ _ hb]; exact s.val_setV_same b (.int n)
      · exact absurd h hb

/-- `setAll` changes the dictionary alone. -/
theorem State.setAll_eq (l : List Nat) (n : Nat) : s.setAll l n = { s with regs := (s.setAll l n).regs } := by
  induction l generalizing s with
  | nil => rfl
  | cons a l ih => exact ih (s.setN a n)

@[simp] theorem State.val_advance (t a : Nat) : (s.advance t).val a = s.val a := rfl
@[simp] theorem State.nat_advance (t a : Nat) : (s.advance t).nat a = s.nat a := rfl
@[simp] theorem State.mode_advance (t : Nat) : (s.advance t).mode = s.mode := rfl

/-! ### Cores, clusters, links, sessions, power stages -/

@[simp] theorem State.core_setCore_same (c j : Nat) (x : Core) : (s.setCore c j x).core c j = x := Tab.get_put_same _ _ _ _
/-- Every other core stands as before. -/
theorem State.core_setCore_ne (c j c' j' : Nat) (x : Core) (h : coreKey c' j' ≠ coreKey c j) :
    (s.setCore c j x).core c' j' = s.core c' j' := Tab.get_put_ne _ _ _ _ _ _ h
@[simp] theorem State.cluster_setCore (c j c' : Nat) (x : Core) : (s.setCore c j x).cluster c' = s.cluster c' := rfl
@[simp] theorem State.cluster_setCluster_same (c : Nat) (x : Cluster) : (s.setCluster c x).cluster c = x := Tab.get_put_same _ _ _ _
@[simp] theorem State.core_setCluster (c c' j : Nat) (x : Cluster) : (s.setCluster c x).core c' j = s.core c' j := rfl
@[simp] theorem State.val_setCore (c j a : Nat) (x : Core) : (s.setCore c j x).val a = s.val a := rfl
@[simp] theorem State.val_setCluster (c a : Nat) (x : Cluster) : (s.setCluster c x).val a = s.val a := rfl
@[simp] theorem State.link_setLink_same (l : Nat) (x : Link) : (s.setLink l x).link l = x := Tab.get_put_same _ _ _ _
@[simp] theorem State.val_setLink (l a : Nat) (x : Link) : (s.setLink l x).val a = s.val a := rfl
@[simp] theorem State.session_setSession_same (n : Nat) (x : Option Session) : (s.setSession n x).session n = x :=
  Tab.get_put_same _ _ _ _
@[simp] theorem State.val_setSession (n a : Nat) (x : Option Session) : (s.setSession n x).val a = s.val a := rfl
@[simp] theorem State.pscCh_setPscCh_same (n : Nat) (x : PscCh) : (s.setPscCh n x).pscCh n = x := Tab.get_put_same _ _ _ _
@[simp] theorem State.val_setPscCh (n a : Nat) (x : PscCh) : (s.setPscCh n x).val a = s.val a := rfl

end Sys2Proof.Machine
end

