-- ==== Sys2Proof/Laws/Core.lean ====
section
/-! SUPPORT. What each shared operation of a DSP core can do: going on in the program, completing an instruction, writing
registers, and what exec answers from it. -/

namespace Sys2Proof.Machine

/-! ### Registers -/

theorem Vector.get_set_same {α : Type} {n : Nat} (v : Vector α n) (i : Fin n) (x : α) : (v.set i.val x i.isLt).get i = x := by
  show (v.set i.val x i.isLt)[i.val] = x
  simp
theorem Vector.get_set_ne {α : Type} {n : Nat} (v : Vector α n) (i j : Fin n) (x : α) (h : j ≠ i) :
    (v.set i.val x i.isLt).get j = v.get j := by
  show (v.set i.val x i.isLt)[j.val] = v[j.val]
  exact Vector.getElem_set_ne _ _ (fun e => h (Fin.ext e.symm))

@[simp] theorem Core.getD_setD_same (c : Core) (i : DReg) (v : Word) : (c.setD i v).getD i = v := Vector.get_set_same _ _ _
theorem Core.getD_setD_ne (c : Core) (i j : DReg) (v : Word) (h : j ≠ i) : (c.setD i v).getD j = c.getD j :=
  Vector.get_set_ne _ _ _ _ h
@[simp] theorem Core.getA_setA_same (c : Core) (i : Acc) (v : BitVec 72) : (c.setA i v).getA i = v := Vector.get_set_same _ _ _
theorem Core.getA_setA_ne (c : Core) (i j : Acc) (v : BitVec 72) (h : j ≠ i) : (c.setA i v).getA j = c.getA j :=
  Vector.get_set_ne _ _ _ _ h
@[simp] theorem Core.getP_setP_same (c : Core) (i : Ptr) (v : BitVec 16) : (c.setP i v).getP i = v := Vector.get_set_same _ _ _
theorem Core.getP_setP_ne (c : Core) (i j : Ptr) (v : BitVec 16) (h : j ≠ i) : (c.setP i v).getP j = c.getP j :=
  Vector.get_set_ne _ _ _ _ h

@[simp] theorem Core.readX_writeX_same (c : Core) (n : Nat) (v : Word) : (c.writeX n v).readX n = v := Tab.get_put_same _ _ _ _
theorem Core.readX_writeX_ne (c : Core) (n m : Nat) (v : Word) (h : m ≠ n) : (c.writeX n v).readX m = c.readX m :=
  Tab.get_put_ne _ _ _ _ _ _ h
@[simp] theorem Core.readY_writeY_same (c : Core) (n : Nat) (v : Word) : (c.writeY n v).readY n = v := Tab.get_put_same _ _ _ _
theorem Core.readY_writeY_ne (c : Core) (n m : Nat) (v : Word) (h : m ≠ n) : (c.writeY n v).readY m = c.readY m :=
  Tab.get_put_ne _ _ _ _ _ _ h

/-! ### SR -/

theorem setBit_getLsbD (sr : BitVec 16) (i j : Nat) (b : Bool) (hi : i < 16) :
    (setBit sr i b).getLsbD j = if j = i then b else sr.getLsbD j := by
  unfold setBit
  by_cases hj : j < 16
  · cases b <;> by_cases h : j = i
    · subst h; simp [hj]
    · have : ¬ (i ≤ j ∧ j - i = 0) := by omega
      simp only [Bool.false_eq_true, if_false, BitVec.getLsbD_and, BitVec.getLsbD_not, hj, decide_true, Bool.true_and,
        BitVec.getLsbD_shiftLeft, h]
      rcases Nat.lt_or_ge j i with h1 | h1
      · simp [h1]
      · have : j - i ≠ 0 := by omega
        simp [BitVec.getLsbD_one, this]
    · subst h; simp [hj]
    · simp only [if_true, BitVec.getLsbD_or, BitVec.getLsbD_shiftLeft, hj, decide_true, Bool.true_and, h, if_false]
      rcases Nat.lt_or_ge j i with h1 | h1
      · simp [h1]
      · have : j - i ≠ 0 := by omega
        simp [BitVec.getLsbD_one, this]
  · have h1 : (if b then sr ||| (1#16 <<< i) else sr &&& ~~~(1#16 <<< i)).getLsbD j = false := BitVec.getLsbD_of_ge _ _ (by omega)
    have h2 : sr.getLsbD j = false := BitVec.getLsbD_of_ge _ _ (by omega)
    rw [h1, h2, if_neg (by omega)]

/-- A flag that is set reads as set; the others read as before. -/
theorem Core.flag_setFlag (c : Core) (i j : Nat) (b : Bool) (hi : i < 16) :
    (c.setFlag i b).flag j = if j = i then b else c.flag j := setBit_getLsbD c.sr i j b hi

/-! ### Going on -/

theorem Core.goto_ok (c : Core) (n : Nat) (h : n < 8192) : c.goto n = .ok { c with pc := BitVec.ofNat 13 n } := if_pos h

/-- Two cores agree in everything but PC, loops, loop counters, SR from `LD` up, and time. -/
structure Core.SameData (m c' : Core) : Prop where
  d : c'.d = m.d
  a : c'.a = m.a
  p : c'.p = m.p
  n : c'.n = m.n
  l : c'.l = m.l
  b : c'.b = m.b
  sr : ∀ i, i < 9 → c'.flag i = m.flag i
  job : c'.job = m.job
  x : c'.x = m.x
  y : c'.y = m.y
  prog : c'.prog = m.prog
  run : c'.run = m.run
  overflowed : c'.overflowed = m.overflowed
  since : c'.since = m.since
  ended : c'.ended = m.ended
  halted : c'.halted = m.halted
  ready : c'.ready = m.ready
  handed : c'.handed = m.handed
  used : c'.used = m.used
  libs : c'.libs = m.libs

theorem Core.SameData.refl (c : Core) : c.SameData c :=
  ⟨rfl, rfl, rfl, rfl, rfl, rfl, fun _ _ => rfl, rfl, rfl, rfl, rfl, rfl, rfl, rfl, rfl, rfl, rfl, rfl, rfl, rfl⟩

theorem Core.syncLD_flag (c : Core) (i : Nat) (h : i < 9) : c.syncLD.flag i = c.flag i := by
  have h1 : ((0x0E00 : BitVec 16)).getLsbD i = false := by interval_cases i <;> rfl
  have h2 : (BitVec.ofNat 16 c.loops.length <<< 9).getLsbD i = false := by
    rw [BitVec.getLsbD_shiftLeft]; simp [h]
  show ((c.sr &&& ~~~(0x0E00 : BitVec 16)) ||| (BitVec.ofNat 16 c.loops.length <<< 9)).getLsbD i = c.sr.getLsbD i
  rw [BitVec.getLsbD_or, BitVec.getLsbD_and, BitVec.getLsbD_not, h1, h2]
  simp [show i < 16 by omega]

theorem syncLD_bits (sr : BitVec 16) (n : Nat) (h : n ≤ 4) :
    (((sr &&& ~~~(0x0E00 : BitVec 16)) ||| (BitVec.ofNat 16 n <<< 9)).extractLsb' 9 3).toNat = n ∧
    ((sr &&& ~~~(0x0E00 : BitVec 16)) ||| (BitVec.ofNat 16 n <<< 9)).extractLsb' 12 4 = sr.extractLsb' 12 4 := by
  have h9 : ∀ i, i < 3 → ((0x0E00 : BitVec 16)).getLsbD (9 + i) = true := by decide
  have h12 : ∀ i, i < 4 → ((0x0E00 : BitVec 16)).getLsbD (12 + i) = false := by decide
  constructor
  · have : ((sr &&& ~~~(0x0E00 : BitVec 16)) ||| (BitVec.ofNat 16 n <<< 9)).extractLsb' 9 3 = BitVec.ofNat 3 n := by
      apply BitVec.eq_of_getLsbD_eq
      intro i hi
      rw [BitVec.getLsbD_extractLsb', BitVec.getLsbD_or, BitVec.getLsbD_and, BitVec.getLsbD_not, BitVec.getLsbD_shiftLeft,
        h9 i hi, BitVec.getLsbD_ofNat, BitVec.getLsbD_ofNat]
      simp [hi, show 9 + i < 16 by omega, show i < 16 by omega]
    rw [this]
    interval_cases n <;> rfl
  · have hb (i : Nat) : Nat.testBit n (12 + i - 9) = false := Nat.testBit_lt_two_pow (lt_of_le_of_lt h
      (lt_of_lt_of_le (by decide : 4 < 2 ^ 3) (Nat.pow_le_pow_right (by decide) (by omega))))
    apply BitVec.eq_of_getLsbD_eq
    intro i hi
    rw [BitVec.getLsbD_extractLsb', BitVec.getLsbD_or, BitVec.getLsbD_and, BitVec.getLsbD_not, BitVec.getLsbD_shiftLeft,
      h12 i hi, BitVec.getLsbD_ofNat, hb, BitVec.getLsbD_extractLsb']
    simp [hi, show 12 + i < 16 by omega]

/-- What closing a loop leaves in SR. -/
theorem Core.syncLD_shows (c : Core) (l : List (Nat × Nat)) : c.ShowsLoops ({ c with loops := l } : Core).syncLD :=
  fun h => syncLD_bits c.sr l.length h

/-- Going on after an instruction inside the program. -/
theorem Core.advancePc_ok (c : Core) (h : c.Inside) :
    ∃ c', c.advancePc = .ok c' ∧ c.MovesOn c' ∧ c.SameData c' ∧ c'.now = c.now ∧ c'.cyc = c.cyc := by
  obtain ⟨h1, h2⟩ := h
  have hpc : BitVec.ofNat 13 (c.pc.toNat + 1) = c.pc + 1 := by
    apply BitVec.eq_of_toNat_eq; simp
  unfold Core.advancePc
  cases hl : c.loops with
  | nil =>
    refine ⟨_, Core.goto_ok c _ h1, ⟨rfl, fun _ => ⟨hpc, rfl, rfl, rfl⟩, ?_⟩, ?_, rfl, rfl⟩
    · intro st rest e; simp [hl] at e
    · exact ⟨rfl, rfl, rfl, rfl, rfl, rfl, fun _ _ => rfl, rfl, rfl, rfl, rfl, rfl, rfl, rfl, rfl, rfl, rfl, rfl, rfl, rfl⟩
  | cons e rest =>
    obtain ⟨st, en⟩ := e
    have hm := h2 (st, en) (by simp [hl])
    simp only
    split
    · rename_i he
      split
      · rename_i hc
        refine ⟨_, Core.goto_ok _ _ hm.1, ⟨rfl, fun hn => absurd ⟨st, rest, by rw [hl, he]⟩ hn, ?_⟩, ?_, rfl, rfl⟩
        · intro st' rest' e'
          rw [hl] at e'
          obtain ⟨e1, e2⟩ := List.cons.inj e'
          obtain ⟨rfl, -⟩ := Prod.mk.inj e1
          subst e2
          exact (if_pos hc).mpr ⟨rfl, hl.symm, Vector.get_set_same _ _ _⟩
        · exact ⟨rfl, rfl, rfl, rfl, rfl, rfl, fun _ _ => rfl, rfl, rfl, rfl, rfl, rfl, rfl, rfl, rfl, rfl, rfl, rfl, rfl, rfl⟩
      · rename_i hc
        refine ⟨_, Core.goto_ok _ _ hm.2, ⟨rfl, fun hn => absurd ⟨st, rest, by rw [hl, he]⟩ hn, ?_⟩, ?_, rfl, rfl⟩
        · intro st' rest' e'
          rw [hl] at e'
          obtain ⟨e1, e2⟩ := List.cons.inj e'
          subst e2
          refine (if_neg hc).mpr ⟨?_, rfl, rfl, c.syncLD_shows rest⟩
          show BitVec.ofNat 13 (en + 1) = c.pc + 1
          rw [← he, hpc]
        · exact ⟨rfl, rfl, rfl, rfl, rfl, rfl, fun i hi => Core.syncLD_flag _ i hi, rfl, rfl, rfl, rfl, rfl, rfl, rfl, rfl, rfl, rfl, rfl, rfl, rfl⟩
    · rename_i he
      refine ⟨_, Core.goto_ok c _ h1, ⟨rfl, fun _ => ⟨hpc, rfl, rfl, rfl⟩, ?_⟩, ?_, rfl, rfl⟩
      · intro st' rest' e'
        rw [hl] at e'
        obtain ⟨e1, -⟩ := List.cons.inj e'
        exact absurd (Prod.mk.inj e1).2.symm he
      · exact ⟨rfl, rfl, rfl, rfl, rfl, rfl, fun _ _ => rfl, rfl, rfl, rfl, rfl, rfl, rfl, rfl, rfl, rfl, rfl, rfl, rfl, rfl⟩

/-- An instruction that does not branch completes inside the program: what `complete` gives, in terms of the core that its
effect makes. -/
theorem Core.complete_ok (c : Core) (uses : List (Res × Use)) (makes : List (Res × Prod)) (extra : Nat) (eff : Core → Core)
    (hi : c.Inside) (hpc : (eff (c.spend (c.stall uses))).pc = c.pc) (hl : (eff (c.spend (c.stall uses))).loops = c.loops)
    (hn : (eff (c.spend (c.stall uses))).now = (c.spend (c.stall uses)).now)
    (hc : (eff (c.spend (c.stall uses))).cyc = (c.spend (c.stall uses)).cyc) :
    ∃ c', c.complete uses makes extra eff = .ok c' ∧ (eff (c.spend (c.stall uses))).MovesOn c' ∧
      (eff (c.spend (c.stall uses))).SameData c' ∧
      ∃ n, 0 < n ∧ c'.now = c.now + n ∧ c'.cyc = c.cyc + BitVec.ofNat 32 n := by
  generalize hm : eff (c.spend (c.stall uses)) = m at *
  have hi' : ((m.produce ((c.spend (c.stall uses)).now + extra) makes).spend (1 + extra)).Inside := by
    refine ⟨?_, ?_⟩
    · show m.pc.toNat + 1 < 8192; rw [hpc]; exact hi.1
    · show ∀ l ∈ m.loops, _; rw [hl]; exact hi.2
  obtain ⟨c', h1, h2, h3, h4, h5⟩ := Core.advancePc_ok _ hi'
  refine ⟨c', ?_, h2, ?_, ?_⟩
  · unfold Core.complete; simp only [hm]; exact h1
  · exact ⟨h3.d, h3.a, h3.p, h3.n, h3.l, h3.b, h3.sr, h3.job, h3.x, h3.y, h3.prog, h3.run, h3.overflowed, h3.since, h3.ended,
      h3.halted, h3.ready, h3.handed, h3.used, h3.libs⟩
  · refine ⟨c.stall uses + (1 + extra), by omega, ?_, ?_⟩
    · rw [h4]; show m.now + (1 + extra) = _; rw [hn]; show c.now + c.stall uses + (1 + extra) = _; omega
    · rw [h5]; show m.cyc + BitVec.ofNat 32 (1 + extra) = _; rw [hc]
      show c.cyc + BitVec.ofNat 32 (c.stall uses) + BitVec.ofNat 32 (1 + extra) = _
      rw [BitVec.ofNat_add (c.stall uses), BitVec.add_assoc]

/-! ### Frames -/

/-- What an effect on the registers and memories leaves as it was, beside what it may write. -/
structure Core.EffKeeps (c m : Core) (w : Touch) : Prop where
  d : ∀ r, r ∉ w.d → m.getD r = c.getD r
  a : ∀ n, n ∉ w.a → m.getA n = c.getA n
  p : ∀ i, i ∉ w.p → m.getP i = c.getP i
  nlb : m.n = c.n ∧ m.l = c.l ∧ m.b = c.b
  sr : ∀ i, i ∉ w.sr → m.flag i = c.flag i
  low : ∀ i, i ∈ w.sr → i < 9
  x : ∀ n, n ∉ w.x → m.readX n = c.readX n
  y : ∀ n, n ∉ w.y → m.readY n = c.readY n
  overflowed : w.a = [] → m.overflowed = c.overflowed
  rest : m.job = c.job ∧ m.prog = c.prog ∧ m.run = c.run ∧ m.since = c.since ∧ m.ended = c.ended ∧
    m.halted = c.halted ∧ m.ready = c.ready ∧ m.handed = c.handed ∧ m.used = c.used ∧ m.libs = c.libs
  flow : m.pc = c.pc ∧ m.loops = c.loops ∧ m.lc = c.lc ∧ m.ret = c.ret ∧ m.now = c.now ∧ m.cyc = c.cyc

theorem Core.EffKeeps.refl (c : Core) (w : Touch) (h : ∀ i ∈ w.sr, i < 9) : c.EffKeeps c w :=
  ⟨fun _ _ => rfl, fun _ _ => rfl, fun _ _ => rfl, ⟨rfl, rfl, rfl⟩, fun _ _ => rfl, h, fun _ _ => rfl, fun _ _ => rfl, fun _ => rfl,
    ⟨rfl, rfl, rfl, rfl, rfl, rfl, rfl, rfl, rfl, rfl⟩, ⟨rfl, rfl, rfl, rfl, rfl, rfl⟩⟩

theorem Core.EffKeeps.setD {c m : Core} {w : Touch} (h : c.EffKeeps m w) (r : DReg) (v : Word) (hr : r ∈ w.d) :
    c.EffKeeps (m.setD r v) w :=
  { h with d := fun q hq => (Core.getD_setD_ne m r q v (fun e => hq (e ▸ hr))).trans (h.d q hq) }

theorem Core.EffKeeps.setA {c m : Core} {w : Touch} (h : c.EffKeeps m w) (r : Acc) (v : BitVec 72) (hr : r ∈ w.a) :
    c.EffKeeps (m.setA r v) w :=
  { h with a := fun q hq => (Core.getA_setA_ne m r q v (fun e => hq (e ▸ hr))).trans (h.a q hq) }

theorem Core.EffKeeps.setP {c m : Core} {w : Touch} (h : c.EffKeeps m w) (r : Ptr) (v : BitVec 16) (hr : r ∈ w.p) :
    c.EffKeeps (m.setP r v) w :=
  { h with p := fun q hq => (Core.getP_setP_ne m r q v (fun e => hq (e ▸ hr))).trans (h.p q hq) }

theorem Core.EffKeeps.writeX {c m : Core} {w : Touch} (h : c.EffKeeps m w) (n : Nat) (v : Word) (hn : n ∈ w.x) :
    c.EffKeeps (m.writeX n v) w :=
  { h with x := fun q hq => (Core.readX_writeX_ne m n q v (fun e => hq (e ▸ hn))).trans (h.x q hq) }

theorem Core.EffKeeps.writeY {c m : Core} {w : Touch} (h : c.EffKeeps m w) (n : Nat) (v : Word) (hn : n ∈ w.y) :
    c.EffKeeps (m.writeY n v) w :=
  { h with y := fun q hq => (Core.readY_writeY_ne m n q v (fun e => hq (e ▸ hn))).trans (h.y q hq) }

theorem Core.EffKeeps.setFlag {c m : Core} {w : Touch} (h : c.EffKeeps m w) (i : Nat) (b : Bool) (hi : i ∈ w.sr) :
    c.EffKeeps (m.setFlag i b) w := by
  have h1 : ∀ q, q ∉ w.sr → (m.setFlag i b).flag q = c.flag q := fun q hq =>
    (Core.flag_setFlag m i q b (lt_trans (h.low i hi) (by decide))).trans ((if_neg (fun e : q = i => hq (e ▸ hi))).trans (h.sr q hq))
  exact { h with sr := h1 }

theorem Core.EffKeeps.accumulate {c m : Core} {w : Touch} (h : c.EffKeeps m w) (s : Bool) (n : Acc) (z : Int)
    (hn : n ∈ w.a) (hf : 4 + n.val ∈ w.sr) : c.EffKeeps (m.accumulate s n z) w := by
  unfold Core.accumulate
  split
  · have h1 := (h.setA n (clip72 s z) hn).setFlag (4 + n.val) true hf
    simp only [Core.raiseGV, if_true]
    unfold Core.markOverflow
    split
    · exact h1
    · split
      · exact h1
      · exact { h1 with overflowed := fun e => by rw [e] at hn; simp at hn }
  · exact h.setA n _ hn

/-- Going on from an effect that keeps the flow is going on from the core before it. -/
theorem Core.EffKeeps.movesOn {c m c' : Core} {w : Touch} (h : c.EffKeeps m w) (hm : m.MovesOn c') : c.MovesOn c' := by
  obtain ⟨hpc, hl, hlc, hr, -, -⟩ := h.flow
  have hs : ∀ i, 9 ≤ i → m.sr.getLsbD i = c.sr.getLsbD i := fun i hi => h.sr i (fun e => by have := h.low i e; omega)
  have h97 : m.sr.extractLsb' 9 7 = c.sr.extractLsb' 9 7 := by
    apply BitVec.eq_of_getLsbD_eq
    intro i _
    simp only [BitVec.getLsbD_extractLsb', hs (9 + i) (by omega)]
  have h124 : m.sr.extractLsb' 12 4 = c.sr.extractLsb' 12 4 := by
    apply BitVec.eq_of_getLsbD_eq
    intro i _
    simp only [BitVec.getLsbD_extractLsb', hs (12 + i) (by omega)]
  have hend : m.AtLoopEnd ↔ c.AtLoopEnd := by simp only [Core.AtLoopEnd, hpc, hl]
  obtain ⟨h1, h2, h3⟩ := hm
  refine ⟨h1.trans hr, fun hn => ?_, fun st rest e => ?_⟩
  · obtain ⟨a1, a2, a3, a4⟩ := h2 (fun x => hn (hend.1 x))
    exact ⟨a1.trans (by rw [hpc]), a2.trans hl, a3.trans hlc, a4.trans h97⟩
  · have := h3 st rest (by rw [hl, e, hpc])
    simp only [hlc, hpc, hl] at this
    show if _ then _ else _
    split
    · rename_i hc
      rw [if_pos hc] at this
      exact this
    · rename_i hc
      rw [if_neg hc] at this
      exact ⟨this.1, this.2.1, this.2.2.1, fun hh => ⟨(this.2.2.2 hh).1, (this.2.2.2 hh).2.trans h124⟩⟩

/-- The frame of an instruction that completes, from the frame of its effect. -/
theorem Core.EffKeeps.keeps {c c1 m c' : Core} {w : Touch} (h : c1.EffKeeps m w) (h1 : ∃ n, c1 = c.spend n)
    (hs : m.SameData c') (hm : m.MovesOn c') (ht : ∃ n, 0 < n ∧ c'.now = c.now + n ∧ c'.cyc = c.cyc + BitVec.ofNat 32 n) :
    c.Keeps c' w := by
  obtain ⟨n, rfl⟩ := h1
  have hmo : c.MovesOn c' := h.movesOn hm
  refine ⟨⟨fun r hr => ?_, fun r hr => ?_, fun r hr => ?_, fun _ => ?_, fun i hi hr => ?_, fun r hr => ?_, fun r hr => ?_, fun e => ?_,
    ?_, ht⟩, hmo⟩
  · have := h.d r hr; simp only [Core.getD, hs.d] at *; exact this
  · have := h.a r hr; simp only [Core.getA, hs.a] at *; exact this
  · have := h.p r hr; simp only [Core.getP, hs.p] at *; exact this
  · exact ⟨hs.n.trans h.nlb.1, hs.l.trans h.nlb.2.1, hs.b.trans h.nlb.2.2⟩
  · exact (hs.sr i hi).trans (h.sr i hr)
  · have := h.x r hr; simp only [Core.readX, Core.blankX, hs.x, hs.libs] at *; exact this
  · have := h.y r hr; simp only [Core.readY, Core.blankY, hs.y, hs.libs] at *; exact this
  · exact hs.overflowed.trans (h.overflowed e)
  · obtain ⟨a1, a2, a3, a4, a5, a6, a7, a8, a9, a10⟩ := h.rest
    exact ⟨hs.job.trans a1, hs.prog.trans a2, hs.run.trans a3, hs.since.trans a4, hs.ended.trans a5, hs.halted.trans a6, hs.ready.trans a7,
      hs.handed.trans a8, hs.used.trans a9, hs.libs.trans a10⟩

/-! ### From the core to the state -/

/-- A ready core whose instruction completes leaves the state with that core alone changed. -/
theorem State.runDsp_ok (s : State) (k : CoreId) (i : DspInsn) (c' : Core) (h : s.ready k i)
    (hr : (s.core k.c k.j).run1 i = .ok c') : s.runDsp k i = s.setCore k.c k.j c' := by
  unfold State.runDsp
  simp [h.1, h.2, hr, State.settle]

/-- What a core command answers where its instruction completes: the core that its effect makes, moved on. -/
theorem CoreAnswers.of_complete {i : Instr} {s : State} {k : CoreId} {d : DspInsn} {uses : List (Res × Use)}
    {makes : List (Res × Prod)} {extra : Nat} {eff : Core → Core} {w : Touch} {p : Core → Prop}
    (he : exec i s = .next (s.runDsp k d)) (hr : s.ready k d) (hi : (s.core k.c k.j).Inside)
    (hc : (s.core k.c k.j).run1 d = (s.core k.c k.j).complete uses makes extra eff)
    (hk : ∀ n, ((s.core k.c k.j).spend n).EffKeeps (eff ((s.core k.c k.j).spend n)) w)
    (hp : ∀ n c', (eff ((s.core k.c k.j).spend n)).SameData c' → (s.core k.c k.j).Keeps c' w → p c') : CoreAnswers i s k p := by
  obtain ⟨-, h2, -, -, h5, h6⟩ := (hk ((s.core k.c k.j).stall uses)).flow
  obtain ⟨c', a1, a2, a3, a4⟩ := Core.complete_ok (s.core k.c k.j) uses makes extra eff hi
    (hk ((s.core k.c k.j).stall uses)).flow.1 h2 h5 h6
  refine ⟨c', ?_, hp _ c' a3 ((hk _).keeps ⟨_, rfl⟩ a3 a2 a4)⟩
  rw [he, State.runDsp_ok s k d c' hr (hc.trans a1)]

/-- The same for an ALU operation. -/
theorem CoreAnswers.of_alu {i : Instr} {s : State} {k : CoreId} {d : DspInsn} {src dst : List DReg}
    {eff : Core → Core} {w : Touch} {p : Core → Prop}
    (he : exec i s = .next (s.runDsp k d)) (hr : s.ready k d) (hi : (s.core k.c k.j).Inside)
    (hc : (s.core k.c k.j).run1 d = (s.core k.c k.j).alu src dst eff)
    (hk : ∀ n, ((s.core k.c k.j).spend n).EffKeeps (eff ((s.core k.c k.j).spend n)) w)
    (hp : ∀ n c', (eff ((s.core k.c k.j).spend n)).SameData c' → (s.core k.c k.j).Keeps c' w → p c') : CoreAnswers i s k p :=
  CoreAnswers.of_complete he hr hi hc hk hp

/-- The same for an operation that reads an accumulator into a data register. -/
theorem CoreAnswers.of_fromAcc {i : Instr} {s : State} {k : CoreId} {d : DspInsn} {an : Acc} {rd : DReg}
    {eff : Core → Core} {w : Touch} {p : Core → Prop}
    (he : exec i s = .next (s.runDsp k d)) (hr : s.ready k d) (hi : (s.core k.c k.j).Inside)
    (hc : (s.core k.c k.j).run1 d = (s.core k.c k.j).fromAcc an rd eff)
    (hk : ∀ n, ((s.core k.c k.j).spend n).EffKeeps (eff ((s.core k.c k.j).spend n)) w)
    (hp : ∀ n c', (eff ((s.core k.c k.j).spend n)).SameData c' → (s.core k.c k.j).Keeps c' w → p c') : CoreAnswers i s k p :=
  CoreAnswers.of_complete he hr hi hc hk hp

/-- The same for an operation that loads an accumulator. -/
theorem CoreAnswers.of_toAcc {i : Instr} {s : State} {k : CoreId} {d : DspInsn} {an : Acc} {uses : List (Res × Use)}
    {eff : Core → Core} {w : Touch} {p : Core → Prop}
    (he : exec i s = .next (s.runDsp k d)) (hr : s.ready k d) (hi : (s.core k.c k.j).Inside)
    (hc : (s.core k.c k.j).run1 d = (s.core k.c k.j).toAcc an uses eff)
    (hk : ∀ n, ((s.core k.c k.j).spend n).EffKeeps (eff ((s.core k.c k.j).spend n)) w)
    (hp : ∀ n c', (eff ((s.core k.c k.j).spend n)).SameData c' → (s.core k.c k.j).Keeps c' w → p c') : CoreAnswers i s k p :=
  CoreAnswers.of_complete he hr hi hc hk hp

end Sys2Proof.Machine
end

