-- ==== Sys2Proof/Laws/Send.lean ====
section
/-! SUPPORT. What an answer and a write record do, once for all the commands that write. -/

namespace Sys2Proof.Machine

/-! ### Frames of what follows a write -/

theorem State.Sets.noteSetting {s u : State} {l : List (Nat × Val)} (h : s.Sets u l) (a : Nat) : s.Sets (u.noteSetting a) l := by
  unfold State.noteSetting
  split
  · exact ⟨h.now, h.others, h.rest⟩
  · exact h

theorem State.Sets.pass {s u : State} {l : List (Nat × Val)} (h : s.Sets u l) (src : Src) (id eff : Nat) (w : List (Nat × Val)) :
    s.Sets (u.pass src id eff w) l := by
  unfold State.pass
  split
  · exact ⟨h.now, h.others, h.rest⟩
  · exact h

@[simp] theorem State.val_noteSetting (s : State) (a x : Nat) : (s.noteSetting a).val x = s.val x := by
  unfold State.noteSetting
  split <;> rfl

@[simp] theorem State.val_pass (s : State) (src : Src) (id eff : Nat) (w : List (Nat × Val)) (x : Nat) :
    (s.pass src id eff w).val x = s.val x := by
  unfold State.pass
  split <;> rfl

/-- Setting a list of elements to one number is what `Sets` says. -/
theorem State.Sets.zero (s : State) (l : List Nat) : s.Sets (s.setAll l 0) (toZero l) := by
  refine ⟨?_, ?_, ?_⟩
  · intro e he
    obtain ⟨a, ha, rfl⟩ := List.mem_map.1 he
    exact s.val_setAll_in l 0 a ha
  · intro a ha
    exact s.val_setAll_out l 0 a (fun hm => ha (a, .int 0) (List.mem_map.2 ⟨a, hm, rfl⟩) rfl)
  · rw [State.Beside, State.setAll_eq]

theorem State.Sets.one (s : State) (a : Nat) (v : Val) : s.Sets (s.setV a v) [(a, v)] := by
  refine ⟨?_, ?_, rfl⟩
  · intro e he
    simp only [List.mem_singleton] at he
    subst he
    exact State.val_setV_same s a v
  · intro b hb
    exact State.val_setV_ne s a b v (fun h => hb (a, v) (List.mem_singleton.2 rfl) h.symm)

/-! ### A write record -/

theorem State.Takes.toNat_addr {s : State} {w : Who} {a : Nat} {v : Val} (h : s.Takes w a v) : (BitVec.ofNat 32 a).toNat = a := by
  rw [BitVec.toNat_ofNat, Nat.mod_eq_of_lt h.addr.1]

/-- A write record that is taken is answered OK with its effective sample. -/
theorem State.Takes.writeElem {s : State} {w : Who} {a : Nat} {v : Val} (h : s.Takes w a v) (hc : a ≠ El.sessionClose) {x : Nat}
    {u : State} (hp : s.putElem w a v = (.ok x, u)) :
    s.writeElem w a v = u.sendAnswer w (okRec (writeRec w a v) (typeOf a) (leBytes 8 x)) := by
  have h1 : (writeRec w a v).addr.toNat = a := h.toNat_addr
  have hop : s.operate w (writeRec w a v) = (some (okRec (writeRec w a v) (typeOf a) (leBytes 8 x)), u) := by
    simp only [State.operate, h.form, h.here, Bool.false_eq_true, if_false, State.perform]
    have h2 : (writeRec w a v).op = opWrite := rfl
    simp only [h2, opRead, opWrite, State.doWrite, h1]
    have hf : bitOf (writeRec w a v).oflags 3 = false := by show bitOf 0 3 = false; decide
    have ht : (writeRec w a v).typ = typeOf a := rfl
    have hb : (writeRec w a v).body = encodeVal (typeOf a) v := rfl
    simp [hf, ht, h.head, h.addr.2.1, hb, h.addr.2.2, hp, writeAnswer]
  have hcl : closes (writeRec w a v) (some (okRec (writeRec w a v) (typeOf a) (leBytes 8 x))) = false := by
    simp only [closes, h1]
    simp [hc]
  have hr : ({ writeRec w a v with op := opWrite } : Rec) = writeRec w a v := rfl
  have hw : ({ w with opId := (writeRec w a v).opId } : Who) = w := rfl
  simp only [State.writeElem, State.record, h.source, hr, hw, h.alone, hop, hcl]
  simp

/-- A write that waits for no sample applies at once; its setting is noted, and the partner hears of it. -/
theorem State.Takes.putElem_now {s : State} {w : Who} {a : Nat} {v : Val} (h : s.Takes w a v)
    (hd : ¬ (isDelayed a = true ∧ s.roundsRun = true ∧ (areaOf a ≠ 0x1D ∨ v.toNat = 1)))
    (hk : ¬ (areaOf a = 0x02 ∧ 0x100 ≤ objectOf a ∧ objectOf a < 0x120 ∧ elementOf a = 1)) :
    s.putElem w a v = (.ok (s.sampleFor a), let s1 := (if areaOf a = 0x0D then s.applyFlash a v else s.applyUnit a v).noteSetting a
      if isTwinned a then (s1.touch a 0).pass w.src 0 (s.sampleFor a) [(a, v)] else s1.touch a 0) := by
  simp only [State.putElem, h.tail]
  simp only [ne_eq, not_true, if_false, hd, State.applyNow]
  simp [hk]

/-- A state with another note of a changed setting, other touched elements and other items for the partner. -/
def State.noted (u : State) (dirty : Bool) (due : Option Nat) (touched : List (Nat × Nat)) (items : List CourierItem) : State :=
  { u with
    sys := { u.sys with settingsDirty := dirty, autosaveAt := due }
    bop := { u.bop with touched := touched }
    twin := { u.twin with courier := items } }

theorem State.noteSetting_noted (u : State) (a : Nat) : ∃ d n, u.noteSetting a = u.noted d n u.bop.touched u.twin.courier := by
  unfold State.noteSetting
  split
  · exact ⟨_, _, rfl⟩
  · exact ⟨u.sys.settingsDirty, u.sys.autosaveAt, rfl⟩

theorem State.pass_noted (u : State) (src : Src) (id eff : Nat) (w : List (Nat × Val)) :
    ∃ l, u.pass src id eff w = u.noted u.sys.settingsDirty u.sys.autosaveAt u.bop.touched l := by
  unfold State.pass
  split
  · exact ⟨_, rfl⟩
  · exact ⟨u.twin.courier, rfl⟩

theorem State.touch_noted (u : State) (a n : Nat) :
    ∃ l, u.touch a n = u.noted u.sys.settingsDirty u.sys.autosaveAt l u.twin.courier := by
  unfold State.touch
  split
  · exact ⟨u.bop.touched, rfl⟩
  · exact ⟨_, rfl⟩

/-- A command that writes an element which waits for no sample: the effect holds where it holds of what the write applies,
whatever is noted afterwards. -/
theorem Writes.at_once {c : Instr} {s : State} {t : Nat} {w : Who} {a : Nat} {v : Val} {effect : State → State → Prop}
    (hx : exec c s = .next ((s.advance t).writeElem w a v)) (hc : a ≠ El.sessionClose)
    (hd : isDelayed a = false ∨ (s.advance t).roundsRun = false)
    (hk : ¬ (areaOf a = 0x02 ∧ 0x100 ≤ objectOf a ∧ objectOf a < 0x120 ∧ elementOf a = 1))
    (hn : ∀ b u d n o l, effect b u → effect b (State.noted u d n o l))
    (he : effect (s.advance t) (if areaOf a = 0x0D then (s.advance t).applyFlash a v else (s.advance t).applyUnit a v)) :
    Writes c s t w a v effect := by
  intro h
  have hd' : ¬ (isDelayed a = true ∧ (s.advance t).roundsRun = true ∧ (areaOf a ≠ 0x1D ∨ v.toNat = 1)) := by
    rintro ⟨h1, h2, -⟩
    rcases hd with hd | hd
    · exact absurd h1 (by rw [hd]; decide)
    · exact absurd h2 (by rw [hd]; decide)
  refine ⟨_, _, ?_, hx.trans (congrArg _ (h.writeElem hc (h.putElem_now hd' hk)))⟩
  generalize (if areaOf a = 0x0D then (s.advance t).applyFlash a v else (s.advance t).applyUnit a v) = u at he ⊢
  obtain ⟨d, n, h1⟩ := State.noteSetting_noted u a
  have h2 : effect (s.advance t) (u.noteSetting a) := h1 ▸ hn _ _ d n _ _ he
  obtain ⟨o, h4⟩ := State.touch_noted (u.noteSetting a) a 0
  have h5 : effect (s.advance t) ((u.noteSetting a).touch a 0) := h4 ▸ hn _ _ _ _ o _ h2
  dsimp only
  split
  · obtain ⟨l, h3⟩ := State.pass_noted ((u.noteSetting a).touch a 0) w.src 0 ((s.advance t).sampleFor a) [(a, v)]
    rw [h3]
    exact hn _ _ _ _ _ _ h5
  · exact h5

theorem State.Sets.noted {s u : State} {l : List (Nat × Val)} (h : s.Sets u l) (d : Bool) (n : Option Nat)
    (o : List (Nat × Nat)) (i : List CourierItem) : s.Sets (u.noted d n o i) l := ⟨h.now, h.others, h.rest⟩

end Sys2Proof.Machine
end

