-- ==== Sys2Proof/Tests/Slice0.lean ====
section
/-! SUPPORT. Tests: ill-formed commands that the checks refuse, words written out from the encodings of the spec, worked
examples of the spec, and states that meet the hypotheses of the statements together, clause by clause, with what a
command leaves there. -/

namespace Sys2Proof.Tests

open Sys2Proof Sys2Proof.Machine

-- One theorem at a time: side by side their evaluations would take more memory than one check has.
set_option Elab.async false

/-! ### Helpers -/

/-- A state with some elements set. -/
def put (s : State) (l : List (Nat × Nat)) : State := l.foldl (fun s e => s.setN e.1 e.2) s
/-- Reset with some elements set. -/
def at_ (l : List (Nat × Nat)) : State := put State.reset l
/-- What holds after a command. -/
def after (i : Instr) (s : State) (p : State → Bool) : Bool :=
  match exec i s with
  | .next u => p u
  | _ => false
/-- The service port asks. -/
def spi : Who := ⟨.spi, 0, 0⟩
/-- The conditions of a write record that is taken, as a test. -/
def takes (s : State) (w : Who) (a : Nat) (v : Val) : Bool :=
  s.sourceOn w.src && (s.pickRequest w (fun q => q.todo.head? == some (writeRec w a v))).isNone &&
    !s.forActive w (writeRec w a v) && !malformed (writeRec w a v) && decide (a < 2 ^ 32) && typeOf a != 14 &&
    decodeVal (typeOf a) (encodeVal (typeOf a) v) == v && s.writeHead w.src a (typeOf a) == .ok && s.writeTail w.src a v == .ok

/-- What `takes` tests is what the statements assume. -/
theorem takes_sound (s : State) (w : Who) (a : Nat) (v : Val) (h : takes s w a v = true) : s.Takes w a v := by
  simp only [takes, Bool.and_eq_true, Option.isNone_iff_eq_none, Bool.not_eq_true', bne_iff_ne, beq_iff_eq, decide_eq_true_eq] at h
  exact ⟨h.1.1.1.1.1.1.1.1, h.1.1.1.1.1.1.1.2, h.1.1.1.1.1.1.2, h.1.1.1.1.1.2, ⟨h.1.1.1.1.2, h.1.1.1.2, h.1.1.2⟩, h.1.2, h.2⟩

/-- A state with cluster 0 up, and its first core. -/
def up : State := at_ [(El.pdState 2, 2)]
def k0 : CoreId := ⟨0, 0⟩
/-- The core of a state after a command. -/
def coreAfter (i : Instr) (s : State) (p : Core → Bool) : Bool := after i s (fun u => p (u.core 0 0))
/-- `up` with a core. -/
def withCore (c : Core) : State := up.setCore 0 0 c

/-! ### Well-formed commands -/

/-- R207: an FTAP slot beside the normal form of the moves. -/
theorem test_wf_tap_normal : wf (.ftap k0 0 true 0 ⟨.nop, .normal .none .none⟩) = false := by decide
/-- R207: the FTAP form of the moves beside slots without FTAP. -/
theorem test_wf_moves_tap : wf (.mac k0 0 true 0 1 2 ⟨.nop, .ftap 0 0 .keep 0 0 .keep⟩) = false := by decide
/-- R207: a pointer field of a slot without FTAP. -/
theorem test_wf_pointer : wf (.ftap k0 0 true 0 ⟨.nop, .ftap 1 2 .keep 3 0 .keep⟩) = false := by decide
/-- R204: `CYC` and `JOB` are not written. -/
theorem test_wf_readonly : wf (.mov k0 .cyc (.d 0)) = false ∧ wf (.ldi k0 .job 1) = false ∧ wf (.addi k0 false .cyc 1) = false := by decide
/-- R219: saturation of ADDI belongs to `D` registers. -/
theorem test_wf_addi : wf (.addi k0 true (.p 1) 1) = false := by decide
theorem test_wf_good : wf (.ftap k0 1 true 0 ⟨.nop, .ftap 0 2 .inc 0 4 .dec⟩) = true ∧ wf (.addi k0 true (.d 1) 1) = true ∧
    wf (.nop k0 0xFFFFFFFFFFFFFFFF) = true ∧ wf (.read 0 spi ⟨1, 3, 0, 0, 0, 0, []⟩) = true := by decide

/-! ### Words of core instructions, by the field tables of R205 to R209 -/

/-- F2a (R208): opcode, `rd`, `ra`, `rb`, `S`, `acc`, `sh`. -/
def f2a (op : BitVec 8) (rd ra rb : BitVec 6) (sat : BitVec 1) (acc : BitVec 2) (sh : BitVec 6) : DspWord :=
  0b01#2 ++ op ++ rd ++ ra ++ rb ++ sat ++ acc ++ sh ++ 0#27
/-- F2b (R208): opcode, `cc`, `Dn`, `imm16`, `tgt`. -/
def f2b (op : BitVec 8) (cc dn : BitVec 4) (imm : BitVec 16) (tgt : BitVec 13) : DspWord := 0b01#2 ++ op ++ cc ++ dn ++ imm ++ tgt ++ 0#17
/-- F3 (R209): opcode, `rd`, `S`, `imm32`. -/
def f3 (op rd : BitVec 6) (sat : BitVec 1) (imm : Word) : DspWord := 0b10#2 ++ op ++ rd ++ sat ++ 0#17 ++ imm
/-- A MAC slot (R206): operation, `S`, `An`, `Da`, `Db`, `ext`. -/
def slotBits (op : BitVec 4) (sat : BitVec 1) (an : BitVec 2) (da db ext : BitVec 4) : BitVec 19 := op ++ sat ++ an ++ da ++ db ++ ext

/-- The FTAP bundle that the worked example of the spec writes out. -/
theorem test_word_example : decodeDsp 0x1800030000E9EF7C = some (.f1 ⟨.ftap false 0, .ftap false 0, .ftap 2 3 .byN 6 7 .byN⟩) := by decide
/-- R204: an all-zero word is the bundle of two NOPs. -/
theorem test_word_zero : decodeDsp 0 = some (.f1 ⟨.nop, .nop, .normal .none .none⟩) := by decide
theorem test_word_bundle : decodeDsp (0b00#2 ++ slotBits 1 1 2 3 4 0 ++ slotBits 7 0 1 0 0 2 ++ (0b001#3 ++ 6#3 ++ 0b01#2 ++ 5#4) ++
    (0b01#2 ++ 4#3 ++ 0b11#2 ++ 7#4 ++ 0#1)) =
    some (.f1 ⟨.mac true 2 3 4, .adda false 1 2, .normal (.load 5 6 .inc) (.load 7 4 .byN)⟩) := by decide
theorem test_word_slots : decodeDsp (0b00#2 ++ slotBits 2 0 0 1 2 0 ++ slotBits 3 1 3 15 0 0 ++ (0b010#3 ++ 7#3 ++ 0b10#2 ++ 9#4) ++ 0#12) =
      some (.f1 ⟨.msu false 0 1 2, .mpy true 3 15 0, .normal (.store 9 7 .dec) .none⟩) ∧
    decodeDsp (0b00#2 ++ slotBits 4 1 1 8 9 0 ++ slotBits 5 0 2 6 7 0 ++ 0#24) = some (.f1 ⟨.mpyn true 1 8 9, .macr false 2 6 7, .normal .none .none⟩) ∧
    decodeDsp (0b00#2 ++ slotBits 8 1 1 0 0 3 ++ slotBits 9 0 2 0 0 0 ++ 0#24) = some (.f1 ⟨.suba true 1 3, .clr 2, .normal .none .none⟩) ∧
    decodeDsp (0b00#2 ++ slotBits 10 0 3 0 0 1 ++ slotBits 0 0 0 0 0 0 ++ 0#24) = some (.f1 ⟨.mova 3 1, .nop, .normal .none .none⟩) := by decide
theorem test_word_single : decodeDsp (f2a 0x10 3 4 5 1 0 0) = some (.add true 3 4 5) ∧ decodeDsp (f2a 0x1A 0 4 5 0 0 0) = some (.cmp 4 5) ∧
    decodeDsp (f2a 0x02 0x17 0x35 0 0 0 0) = some (.mov (.p 7) .cyc) ∧ decodeDsp (f2a 0x20 1 2 0 0 0 31) = some (.asl false 1 2 31) ∧
    decodeDsp (f2a 0x30 15 0 0 1 3 0x20) = some (.ext true 15 3 0x20) ∧ decodeDsp (f2a 0x39 0 0 0 1 2 0x3F) = some (.sha true 2 0x3F) ∧
    decodeDsp (f2a 0x32 0 9 0 0 1 0) = some (.lda 1 9) ∧ decodeDsp (f2a 0x40 1 2 3 0 0 0) = some (.divs 1 2 3) ∧
    decodeDsp (f2a 0x44 0 0x12 7 0 0 3) = some (.sty 2 7 .byN) ∧ decodeDsp (f2a 0x01 0 0 0 0 0 0) = some .endJob := by decide
theorem test_word_branch : decodeDsp (f2b 0x60 2 0 0 0x1ABC) = some (.jmp .ne 0x1ABC) ∧ decodeDsp (f2b 0x61 0xE 0 0 7) = some (.call .gs 7) ∧
    decodeDsp (f2b 0x62 0 0 0 0) = some (.ret .al) ∧ decodeDsp (f2b 0x63 0 0 0xFFFF 3) = some (.loop 0xFFFF 3) ∧
    decodeDsp (f2b 0x64 0 5 0 3) = some (.loopv 5 3) ∧ decodeDsp (f2b 0x65 0xC 0 0 0) = some (.leave .le) := by decide
theorem test_word_immediate : decodeDsp (f3 1 0x34 0 0x1FF) = some (.ldi .sr 0x1FF) ∧ decodeDsp (f3 2 5 1 0x80000000) = some (.addi true (.d 5) 0x80000000) ∧
    decodeDsp (f3 7 3 0 1) = some (.ldia 3 1) ∧ decodeDsp (f3 8 2 1 5) = some (.mpyri true 2 5) ∧ decodeDsp (f3 6 2 0 5) = some (.cmpi 2 5) := by decide
/-- R204: format 0b11, an unlisted opcode, a reserved condition, a used reserved field, `CYC` as a destination. -/
theorem test_word_reserved : decodeDsp 0xC000000000000000 = none ∧ decodeDsp (f2a 0x03 0 0 0 0 0 0) = none ∧ decodeDsp (f2b 0x60 0xF 0 0 1) = none ∧
    decodeDsp (f2b 0x62 0 0 0 1) = none ∧ decodeDsp (f3 1 0x35 0 0) = none ∧ decodeDsp (f3 7 4 0 1) = none ∧
    decodeDsp (f2a 0x10 0x10 4 5 0 0 0) = none := by decide

/-! ### The core computes (R183 to R186, R213 to R226) -/

/-- A core with four data registers set. -/
def cd (d0 d1 d2 d3 : Word) : Core := { Core.cleared with d := (((Core.cleared.d.set 0 d0).set 1 d1).set 2 d2).set 3 d3 }

/-- The hypotheses of the statements about core instructions hold of a core at rest: it is ready, and inside. -/
theorem test_meets_core : up.clusterUp 0 = true ∧ (up.core 0 0).pc.toNat + 1 < 8192 ∧ (up.core 0 0).loops = [] ∧
    [DspInsn.add true 0 1 2, .neg false 3 3, .addi true (.d 1) 5, .asl true 0 1 31, .ext true 0 3 0x20, .mpyr true 0 1 2, .norm 0 1, .lg2 0 1,
      .divs 0 1 2, .lda 1 2, .sha true 3 0x20, .sty 1 2 .inc, .cmp 1 2, .ldi (.p 1) 7, .mov .sr (.d 1), .jmp .al 0x1FFF, .loop 3 5,
      .f1 ⟨.ftap true 0, .nop, .ftap 0 0 .inc 0 0 .inc⟩, .f1 ⟨.mac true 0 1 2, .mpy false 0 3 4, .normal (.store 1 7 .dec) (.load 2 7 .byN)⟩].all
      (fun i => !up.waits 0 0 (up.core 0 0) i) = true := by decide

/-- Every operand that the statements about words and registers name meets their conditions: a well-formed instruction, a
word that decodes, a register that may be written, a pointer with and without a length. -/
theorem test_meets_words : dspWf (.add true 0 1 15) = true ∧ (decodeDsp 0x1800030000E9EF7C).isSome = true ∧
    regWritable .sr = true ∧ regWritable (.d 15) = true ∧ regOf 0x34 = some .sr ∧ regOf 0x3F = none ∧
    (Core.cleared.writeReg (.n 7) 0x18000).readReg 0 (.n 7) = 0xFFFF8000 ∧ (Core.cleared.writeReg .sr 0xFFFFFFFF).readReg 0 .sr = 0x1FF ∧
    ({ Core.cleared with n := Core.cleared.n.set 7 0xFFFF, p := Core.cleared.p.set 7 3 }).modPtr 7 (modOf 3) = 2 := by decide
/-- A cleared core is sound. -/
theorem cleared_sound : Core.cleared.Sound := by constructor <;> decide
/-- A command of a sound core at the front of the queue, after which every core is sound again. -/
theorem test_meets_CoresStaySound : dspOf (.add k0 true 0 1 2) = some (k0, .add true 0 1 2) ∧ up.CoresSound ∧
    (match step { up with pending := [.add k0 true 0 1 2] } with | .next u => u.pending == [] | _ => false) = true :=
  ⟨rfl, fun _ _ => cleared_sound, by decide⟩

theorem test_add_saturates : coreAfter (.add k0 true 0 1 2) (withCore (cd 0 0x7FFFFFFF 1 0))
    (fun c => c.getD 0 == 0x7FFFFFFF && c.fV && c.fSV && !c.fC && !c.fN && c.pc == 1) = true := by decide
theorem test_add_wraps : coreAfter (.add k0 false 0 1 2) (withCore (cd 0 0xFFFFFFFF 1 0))
    (fun c => c.getD 0 == 0 && c.fZ && c.fC && !c.fV && !c.fSV) = true := by decide
theorem test_sub_borrows : coreAfter (.sub k0 false 1 1 2) (withCore (cd 0 1 2 0)) (fun c => c.getD 1 == 0xFFFFFFFF && c.fC && c.fN && !c.fV) = true := by decide
theorem test_neg_min : coreAfter (.neg k0 true 0 1) (withCore (cd 0 0x80000000 0 0)) (fun c => c.getD 0 == 0x7FFFFFFF && c.fV && c.fSV) = true := by decide
theorem test_abs_min : coreAfter (.abs k0 false 0 1) (withCore (cd 0 0x80000000 0 0)) (fun c => c.getD 0 == 0x80000000 && c.fV && !c.fSV) = true := by decide
theorem test_addi_word : coreAfter (.addi k0 false (.p 1) 0x1FFFF) (withCore { cd 0 0 0 0 with p := Core.cleared.p.set 1 2 })
    (fun c => c.getP 1 == 1 && !c.fC) = true := by decide
theorem test_min_max : coreAfter (.min k0 0 1 2) (withCore (cd 9 0x80000000 1 0)) (fun c => c.getD 0 == 0x80000000 && c.fN) = true ∧
    coreAfter (.max k0 0 1 2) (withCore (cd 9 0x80000000 1 0)) (fun c => c.getD 0 == 1 && !c.fN) = true := by decide
theorem test_logic : coreAfter (.and k0 0 1 2) (withCore (cd 0 12 10 0)) (fun c => c.getD 0 == 8) = true ∧
    coreAfter (.or k0 0 1 2) (withCore (cd 0 12 10 0)) (fun c => c.getD 0 == 14) = true ∧
    coreAfter (.xor k0 0 1 2) (withCore (cd 0 12 10 0)) (fun c => c.getD 0 == 6) = true ∧
    coreAfter (.not k0 0 1) (withCore (cd 0 0xFFFFFFFF 0 0)) (fun c => c.getD 0 == 0 && c.fZ) = true := by decide
theorem test_immediates : coreAfter (.andi k0 1 6) (withCore (cd 0 12 0 0)) (fun c => c.getD 1 == 4) = true ∧
    coreAfter (.ori k0 1 3) (withCore (cd 0 12 0 0)) (fun c => c.getD 1 == 15) = true ∧
    coreAfter (.xori k0 1 12) (withCore (cd 0 12 0 0)) (fun c => c.getD 1 == 0 && c.fZ) = true ∧
    coreAfter (.ldi k0 (.n 2) 0x1FFFE) (withCore (cd 0 0 0 0)) (fun c => c.readReg 0 (.n 2) == 0xFFFFFFFE) = true ∧
    coreAfter (.cmpi k0 1 0x7FFFFFFF) (withCore (cd 0 0x80000000 0 0)) (fun c => c.fV && !c.fN && !c.fC && !c.fZ && c.getD 1 == 0x80000000) = true := by decide
theorem test_cmp : coreAfter (.cmp k0 1 2) (withCore (cd 0 3 3 0)) (fun c => c.fZ && !c.fC && !c.fV) = true := by decide
theorem test_shifts : coreAfter (.asl k0 true 0 1 1) (withCore (cd 0 0xC0000001 0 0)) (fun c => c.getD 0 == 0x80000002 && c.fC && !c.fV) = true ∧
    coreAfter (.asr k0 0 1 1) (withCore (cd 0 0xFFFFFFFF 0 0)) (fun c => c.getD 0 == 0xFFFFFFFF && c.fC) = true ∧
    coreAfter (.asrr k0 0 1 1) (withCore (cd 0 3 0 0)) (fun c => c.getD 0 == 2) = true ∧
    coreAfter (.lsl k0 0 1 31) (withCore (cd 0 3 0 0)) (fun c => c.getD 0 == 0x80000000 && c.fC && c.fN) = true ∧
    coreAfter (.lsr k0 0 1 1) (withCore (cd 0 0x80000001 0 0)) (fun c => c.getD 0 == 0x40000000 && c.fC) = true ∧
    coreAfter (.ash k0 true 0 1 2) (withCore (cd 0 5 0x3F 0)) (fun c => c.getD 0 == 2) = true := by decide
/-- R175, R220: −1 × −1 rounds beyond the range. -/
theorem test_mpyr_one : coreAfter (.mpyr k0 true 0 1 2) (withCore (cd 0 0x80000000 0x80000000 0)) (fun c => c.getD 0 == 0x7FFFFFFF && c.fV && c.fSV) = true := by decide
theorem test_mpyri : coreAfter (.mpyri k0 false 1 0x40000000) (withCore (cd 0 5 0 0)) (fun c => c.getD 1 == 2 && !c.fV) = true := by decide
theorem test_acc_moves : coreAfter (.lda k0 1 1) (withCore (cd 0 0x80000000 0 0)) (fun c => guardOf (c.getA 1) == 0xFF && highOf (c.getA 1) == 0x80000000) = true ∧
    coreAfter (.ldia k0 2 1) (withCore (cd 0 0 0 0)) (fun c => (c.getA 2).toInt == 2 ^ 32) = true ∧
    coreAfter (.ldag k0 0 1) (withCore (cd 0 0x1FF 0 0)) (fun c => guardOf (c.getA 0) == 0xFF && highOf (c.getA 0) == 0) = true ∧
    coreAfter (.ldah k0 0 1) (withCore (cd 0 7 0 0)) (fun c => highOf (c.getA 0) == 7 && lowOf (c.getA 0) == 0) = true ∧
    coreAfter (.ldal k0 0 1) (withCore (cd 0 7 0 0)) (fun c => lowOf (c.getA 0) == 7 && highOf (c.getA 0) == 0) = true := by decide
/-- A core whose accumulator 1 is −1 in all 72 bits. -/
def ca : Core := { cd 0 0 0 0 with a := Core.cleared.a.set 1 0xFFFFFFFFFFFFFFFFFF }
theorem test_acc_reads : coreAfter (.stag k0 0 1) (withCore ca) (fun c => c.getD 0 == 0xFFFFFFFF) = true ∧
    coreAfter (.stah k0 0 1) (withCore ca) (fun c => c.getD 0 == 0xFFFFFFFF) = true ∧ coreAfter (.stal k0 0 1) (withCore ca) (fun c => c.getD 0 == 0xFFFFFFFF) = true ∧
    coreAfter (.clra k0 1) (withCore ca) (fun c => c.getA 1 == 0) = true ∧ coreAfter (.ext k0 true 0 1 0) (withCore ca) (fun c => c.getD 0 == 0 && c.fZ) = true ∧
    coreAfter (.norm k0 0 1) (withCore ca) (fun c => c.getD 0 == 31) = true ∧
    coreAfter (.sha k0 true 1 0x1F) (withCore ca) (fun c => (c.getA 1).toInt == -(2 ^ 31) && !c.flag 5) = true := by decide
theorem test_lg2_ex2 : coreAfter (.lg2 k0 0 1) (withCore (cd 0 0x40000000 0 0)) (fun c => (c.getD 0).toInt == -(2 ^ 26) && !c.fV) = true ∧
    coreAfter (.lg2 k0 0 1) (withCore (cd 0 0 0 0)) (fun c => c.getD 0 == 0x80000000 && c.fV) = true ∧
    coreAfter (.ex2 k0 true 0 1) (withCore (cd 0 0xFC000000 0 0)) (fun c => c.getD 0 == 0x40000000 && !c.fV) = true ∧
    coreAfter (.ex2 k0 true 0 1) (withCore (cd 0 0 0 0)) (fun c => c.getD 0 == 0x7FFFFFFF && c.fV && c.fSV) = true := by decide
/-- R220: one step of a division: 2 × 5 − 3 is 7, and the quotient takes a 1. -/
theorem test_divs : coreAfter (.divs k0 0 1 2) (withCore (cd 5 3 4 0)) (fun c => c.getD 0 == 7 && c.getD 2 == 9 && c.fC) = true := by decide
theorem test_mov : coreAfter (.mov k0 (.d 0) .cyc) (withCore (cd 9 0 0 0)) (fun c => c.getD 0 == 1) = true ∧
    coreAfter (.mov k0 .sr (.d 1)) (withCore (cd 0 0xFFFF 0 0)) (fun c => c.sr == 0x1FF) = true := by decide

/-- No other slot and no moves. -/
def alone : Beside := ⟨.nop, .normal .none .none⟩
theorem test_slots : coreAfter (.mac k0 0 false 1 1 2 alone) (withCore (cd 0 0x80000000 0x80000000 0)) (fun c => (c.getA 1).toInt == 2 ^ 63 - 1 && !c.flag 5) = true ∧
    coreAfter (.msu k0 1 false 1 1 2 alone) (withCore (cd 0 2 3 0)) (fun c => (c.getA 1).toInt == -12) = true ∧
    coreAfter (.mpy k0 0 false 1 1 2 alone) (withCore (cd 0 2 3 0)) (fun c => (c.getA 1).toInt == 12) = true ∧
    coreAfter (.mpyn k0 1 false 1 1 2 alone) (withCore (cd 0 2 3 0)) (fun c => (c.getA 1).toInt == -12) = true ∧
    coreAfter (.macr k0 0 false 1 1 2 alone) (withCore (cd 0 0x40000000 3 0)) (fun c => highOf (c.getA 1) == 2 && lowOf (c.getA 1) == 0) = true ∧
    coreAfter (.slotNop k0 0 alone) (withCore ca) (fun c => (c.getA 1).toInt == -1 && c.pc == 1) = true := by decide
/-- R214: MPY in slot 0 and MAC in slot 1 leave the sum of both products. -/
theorem test_slot_order : coreAfter (.mac k0 1 false 0 1 2 ⟨.mpy false 0 1 1, .normal .none .none⟩) (withCore (cd 0 2 3 0)) (fun c => (c.getA 0).toInt == 20) = true := by decide
theorem test_slot_accs : coreAfter (.adda k0 0 false 0 1 alone) (withCore ca) (fun c => (c.getA 0).toInt == -1) = true ∧
    coreAfter (.suba k0 1 false 0 1 alone) (withCore ca) (fun c => (c.getA 0).toInt == 1) = true ∧
    coreAfter (.mova k0 0 3 1 alone) (withCore ca) (fun c => (c.getA 3).toInt == -1) = true ∧
    coreAfter (.clr k0 1 1 alone) (withCore ca) (fun c => c.getA 1 == 0) = true := by decide
/-- A core with words at X 5 and Y 6, and pointers 1 and 2 at them. -/
def cm : Core := { cd 0x11 0 0 0 with x := [(5, 3)], y := [(6, 4)], p := (Core.cleared.p.set 1 5).set 2 6 }
theorem test_moves : coreAfter (.xLoad k0 3 1 .inc .nop .nop .none) (withCore cm) (fun c => c.getD 3 == 3 && c.getP 1 == 6) = true ∧
    coreAfter (.xStore k0 0 1 .dec .nop .nop .none) (withCore cm) (fun c => c.readX 5 == 0x11 && c.getP 1 == 4) = true ∧
    coreAfter (.yLoad k0 3 2 .keep .nop .nop .none) (withCore cm) (fun c => c.getD 3 == 4 && c.getP 2 == 6) = true ∧
    coreAfter (.sty k0 2 0 .inc) (withCore cm) (fun c => c.readY 6 == 0x11 && c.getP 2 == 7) = true := by decide
/-- R216, R217: a tap multiplies, adds, and puts the X word one place on. -/
theorem test_tap : coreAfter (.ftap k0 0 false 0 ⟨.nop, .ftap 1 0 .inc 2 0 .inc⟩) (withCore cm)
    (fun c => (c.getA 0).toInt == 24 && c.readX 6 == 3 && c.readX 5 == 3 && c.getP 1 == 6 && c.getP 2 == 7) = true := by decide
theorem test_pointer_wraps : (stepPtr 7 4 4 1).toNat = 4 ∧ (stepPtr 4 4 4 (-1)).toNat = 7 ∧ (stepPtr 0xFFFF 0 9 1).toNat = 0 := by decide
theorem test_branches : coreAfter (.jmp k0 .eq 9) (withCore (cd 0 0 0 0)) (fun c => c.pc == 1 && c.now == 1) = true ∧
    coreAfter (.jmp k0 .ne 9) (withCore (cd 0 0 0 0)) (fun c => c.pc == 9 && c.now == 3) = true ∧
    coreAfter (.call k0 .al 9) (withCore (cd 0 0 0 0)) (fun c => c.pc == 9 && c.ret == [1]) = true ∧
    coreAfter (.ret k0 .al) (withCore { cd 0 0 0 0 with ret := [7, 8] }) (fun c => c.pc == 7 && c.ret == [8]) = true ∧
    coreAfter (.leave k0 .al) (withCore { cd 0 0 0 0 with loops := [(0, 4)], sr := 0x200 }) (fun c => c.pc == 5 && c.loops == [] && c.sr == 0) = true := by decide
theorem test_loops : coreAfter (.loop k0 3 2) (withCore (cd 0 0 0 0)) (fun c => c.pc == 1 && c.loops == [(1, 2)] && c.lc.get 0 == 3 && c.sr == 0x200) = true ∧
    coreAfter (.loop k0 0 2) (withCore (cd 0 0 0 0)) (fun c => c.pc == 3 && c.loops == []) = true ∧
    coreAfter (.loopv k0 1 2) (withCore (cd 0 0x10001 0 0)) (fun c => c.pc == 1 && c.lc.get 0 == 1) = true := by decide
theorem test_loop_end : coreAfter (.nop k0 0) (withCore { cd 0 0 0 0 with loops := [(1, 2)], sr := 0x200, pc := 2, lc := Core.cleared.lc.set 0 2 })
      (fun c => c.pc == 1 && c.lc.get 0 == 1 && c.loops == [(1, 2)]) = true ∧
    coreAfter (.nop k0 0) (withCore { cd 0 0 0 0 with loops := [(1, 2)], sr := 0x200, pc := 2, lc := Core.cleared.lc.set 0 1 })
      (fun c => c.pc == 3 && c.loops == [] && c.sr == 0) = true := by decide
theorem test_end_idle : coreAfter (.endJob k0) (withCore (cd 1 2 3 4)) (fun c => c.pc == 0 && c.getD 1 == 2) = true := by decide
/-- A job at position 0 of core 0, and a cluster that holds it. -/
def job0 : Job := ⟨0, 3, false, false, false, none, 0, 16, 0, 0, 0, 32, 0, 0, [], [], [], []⟩
def image0 : Image := ⟨0, 1, 16, 5, 0, [⟨0, 0, [], 0, 0, [], [], [job0]⟩]⟩
def loaded : State := up.setCluster 0 { Cluster.cleared with image := some image0 }
/-- Core 0 runs the job. -/
def running (c : Core) : State := loaded.setCore 0 0 { c with run := some 0 }
theorem test_end : (running cm).jobAt 0 0 0 = some job0 ∧ ((running cm).core 0 0).run = some 0 ∧
    !(running cm).waits 0 0 ((running cm).core 0 0) .endJob ∧ (pairWords cm.contextWords).take 3 = [0x00050000, 6, 0] ∧
    (pairWords cm.contextWords).length = 16 := by decide
/-- R189, R190: each cause of an exception halts the job. -/
def halts (i : Instr) (c : Core) (code : Nat) : Bool :=
  after i (running c) (fun u => (u.core 0 0).run == none && (u.core 0 0).halted == [0] && u.nat (El.jobState 0 0 0) == 2 &&
    u.nat (El.jobException 0 0 0) == code && u.nat (El.jobExcPc 0 0 0) == c.pc.toNat && u.nat (El.coreExceptions 0 0) == 1 &&
    (u.cluster 0).auditNext == some 0)
theorem test_exceptions : halts (.nop k0 0xC000000000000000) { cd 0 0 0 0 with pc := 7 } 1 = true ∧
    halts (.loop k0 3 2) { cd 0 0 0 0 with loops := [(1, 9), (1, 9), (1, 9), (1, 9)] } 2 = true ∧
    halts (.call k0 .al 9) { cd 0 0 0 0 with ret := List.replicate 16 3 } 3 = true ∧ halts (.ret k0 .al) (cd 0 0 0 0) 3 = true ∧
    halts (.nop k0 0) { cd 0 0 0 0 with pc := 8191 } 4 = true := by decide
/-- R181: a load from a locked word waits; the word beside it does not. -/
def locking : State := (up.setCluster 0 { Cluster.cleared with dma := [(0, some ⟨0, ⟨.x, 5, 0, .store, 0, 0, 1, 1⟩, 0, false⟩)] }).setCore 0 0 cm
theorem test_locked_waits : locking.waits 0 0 (locking.core 0 0) (.f1 ⟨.nop, .nop, .normal (.load 3 1 .inc) .none⟩) = true ∧
    coreAfter (.xLoad k0 3 1 .inc .nop .nop .none) locking (fun c => c.getD 3 == 0 && c.getP 1 == 5) = true ∧
    coreAfter (.yLoad k0 3 2 .keep .nop .nop .none) locking (fun c => c.getD 3 == 4) = true := by decide

/-! ### Writes of elements -/

/-- A session asks. -/
def me : Who := ⟨.session 1, 7, 3⟩
/-- Every domain is up, session 1 of the service role stands, and the engine is in a mode. -/
def base (mode : Nat) (l : List (Nat × Nat)) : State :=
  let s := at_ ((El.mode, mode) :: (List.range 20).map (fun d => (El.pdState d, 2)) ++ l)
  { s with bop := { s.bop with sessions := [(1, some ⟨0, 0, 0, 4, [], 6, [], 0, [], 0⟩)] } }
/-- The engine in CONFIGURE. -/
def conf (l : List (Nat × Nat)) : State := base 4 l
/-- The same state of the smallest variant. -/
def small (s : State) : State := { s with variant := .ivm7408 }
/-- Every write of a list is taken from session 1. -/
def takesAll (s : State) (l : List (Nat × Val)) : Bool := l.all (fun e => takes (s.advance 0) me e.1 e.2)
/-- What holds when a write has been judged and applied, before its answer leaves. -/
def wrote (s : State) (a : Nat) (v : Val) (p : State → Bool) : Bool := p ((s.advance 0).operate me (writeRec me a v)).2
/-- A clear is taken, and counters that stood at 5 stand at 0 after it. -/
def clears (a : Nat) (l : List Nat) : Bool :=
  let s := conf (l.map (fun c => (c, 5)))
  takesAll s [(a, .int 1)] && l.all (fun c => s.nat c == 5) && wrote s a (.int 1) (fun u => l.all (fun c => u.nat c == 0))

theorem test_meets_CountersClear : clears El.schedClear [El.lagMax, El.lateRounds, El.repeatedSmp, El.shedRounds, El.catchups] = true ∧
    clears El.dispClear [El.dispPendingMax, El.dispLate, El.dispRefusedPast, El.dispWithdrawn, El.dispMoved, El.envDiscarded] = true ∧
    clears (El.clClear 7) (clusterCounters 7) = true ∧ clears El.disagreeClear [El.disagreeCount] = true ∧
    takesAll (conf []) [(El.logClear, .int 1)] = true ∧
    clears El.bopClear [El.bopTagFails, El.bopStale, El.bopBad, El.bopBusy, El.bopForeign] = true ∧
    clears (El.rxClear 511) (rxCounters 511) = true ∧
    clears (El.txClear 511) [El.txPacketsA 511, El.txPacketsB 511] = true ∧
    clears El.twClear [El.twTakeovers, El.twMismatches] = true := by decide +kernel
theorem test_meets_UnitCountersClear : clears (El.spClear 23) [El.spSlips 23, El.spErrors 23] = true ∧
    clears (El.agClear 31) [El.agLocks 31, El.agUnlocks 31] = true ∧
    clears (El.portClear 2) (portCounters 2) = true ∧
    wrote (conf [(El.txrThreshold 2 63, 9)]) (El.txrThresholdReset 2 63) (.int 1) (fun u => u.nat (El.txrThreshold 2 63) == 256) = true ∧
    takesAll (conf [(El.txrThreshold 2 63, 9)]) [(El.txrThresholdReset 2 63, .int 1), (El.thClear, .int 1)] = true ∧
    clears (El.lkClear 3) [El.lkCrcErr 3, El.lkLate 3, El.lkTunnelDrops 3] = true ∧
    clears El.dramClear ((List.range 4).flatMap dcCounters) = true ∧
    clears El.sramClear [El.bistRegions, El.sramCe, El.fabDecodeErr, El.fabDenied] = true := by decide +kernel
theorem test_meets_AudioWritesApply : (conf []).roundsRun = false ∧ takesAll (conf []) [(El.srcSignal 2047, .int 1), (El.dstTarget 0, .int 0),
      (El.dstPass 0, .int 1), (El.xpGain 2047 511, .int (-5)), (El.stProgram false 0, .int 0x102), (El.stOutPh false 511, .int 3),
      (El.stOutPh true 0, .int 3), (El.ldRun 63, .int 1), (El.ldRun 63, .int 0), (El.ldRun 63, .int 2), (El.mClear 0x9FF, .int 1),
      (El.soClear, .int 1), (addrOf 0 32 0, .int 4095), (addrOf 0x1F 63 0, .int 100), (addrOf 0x10 0 5, .int 1)] = true ∧
    wrote (conf []) (El.xpGain 2047 511) (.int (-5)) (fun u => u.int (El.xpGain 2047 511) == -5 && Tab.get 0 u.mix.inEffect (El.xpGain 2047 511) == -5) = true ∧
    wrote (small (conf [])) (El.stProgram false 0) (.int 0x102) (fun u => u.nat (El.stProgram false 0) == 0x102) = true ∧
    wrote (conf []) (El.stOutPh false 511) (.int 3) (fun u => u.nat (El.srcSignal 3) == sigStrip false 511) = true ∧
    wrote (conf [(El.ldRun 63, 1), (El.ldTime 63, 9)]) (El.ldRun 63) (.int 2) (fun u => u.nat (El.ldRun 63) == 0 && u.nat (El.ldTime 63) == 0) = true ∧
    wrote (conf [(El.mClips 0x9FF, 4)]) (El.mClear 0x9FF) (.int 1) (fun u => u.nat (El.mClips 0x9FF) == 0 && u.int (El.mHold 0x9FF) == minusInf) = true ∧
    wrote (conf [(El.rdInUseMax, 4)]) El.soClear (.int 1) (fun u => u.nat El.rdInUseMax == 0) = true := by decide +kernel
/-- A write waits as a committed change, and its element still reads as before. -/
def waitsHere (s : State) (a : Nat) (v : Val) : Bool :=
  let b := s.advance 0
  let q := b.shapeOf [] none a v
  let eff := b.clearSample [q] b.effective (isDirect a)
  takes b me a v && isDelayed a && (areaOf a != 0x1D || v.toNat == 1) &&
    (match reserveAll b.mix.resv b.roundB eff b.disp.nextId [q] with | .ok _ => true | .error _ => false) &&
    wrote s a v (fun u => u.disp.changes.length == 1 && u.disp.changes.all (fun c => c.eff == eff && c.committed) && u.val a == s.val a)
/-- Rounds of 16 samples run in SOLO. -/
def solo (l : List (Nat × Nat)) : State := base 5 ((El.anchorState, 1) :: l)
/-- The bytes of 32-bit words. -/
def leWords (l : List Nat) : List Byte := l.flatMap (leBytes 4)
/-- An image of one empty section for cluster c, as R229 and R230 lay it out. -/
def imageOf (c : Nat) : List Byte :=
  let w (crc : Nat) : List Byte := leWords [0x31474D49, 1, 56, crc, c + 256 * 3 + 65536 * 16 + 2 ^ 24, 100, 0, 0, 0, 0, 0, 0, 0, 0]
  w (crc32c (w 0))
/-- The image is staged for cluster 1. -/
def staged1 : State := ((small (solo [])).setV (El.imgData 1) (.bytes (imageOf 1))).setN (El.imgState 1) 1
theorem test_meets_WritesWait : (solo []).roundsRun = true ∧ (List.all [(El.srcSignal 2047, .int 1), (El.dstTarget 0, .int 0),
      (El.dstPass 0, .int 1), (El.xpGain 2047 511, .int (-5)), (El.stOutPh false 511, .int 3),
      (El.ldRun 63, .int 1), (El.ldRun 63, .int 0), (El.ldRun 63, .int 2), (El.mClear 0x9FF, .int 1), (El.soClear, .int 1),
      (El.pscOn 31, .int 1), (El.pscTest 31, .int 1), (El.pscClear 31, .int 1), (addrOf 0x1F 63 0, .int 100)]
      (fun e => waitsHere (solo []) e.1 e.2)) = true ∧
    waitsHere ((solo []).setPscCh 31 { (solo []).pscCh 31 with shut := 2 }) (El.pscUnlatch 31) (.int 1) = true ∧
    waitsHere staged1 (El.imgActivate 1) (.int 1) = true := by decide +kernel

/-- A channel of the power stage that protection holds. -/
def pscShut (n : Nat) : State := (conf []).setPscCh n { (conf []).pscCh n with shut := 2 }
theorem test_meets_PowerStageWrites : (conf []).roundsRun = false ∧ (conf []).followsPsc = false ∧
    takesAll (conf []) [(El.pscOn 31, .int 1), (El.pscOn 31, .int 0), (El.pscClear 31, .int 1)] = true ∧
    takesAll (pscShut 31) [(El.pscOn 31, .int 0), (El.pscUnlatch 31, .int 1)] = true ∧
    wrote (conf []) (El.pscOn 31) (.int 1) (fun u => u.nat (El.pscOn 31) == 1) = true ∧
    wrote (conf [(El.pscOn 31, 1), (El.pscState 31, 3)]) (El.pscOn 31) (.int 0) (fun u => u.nat (El.pscOn 31) == 0 && u.nat (El.pscState 31) == 0) = true ∧
    wrote (pscShut 31) (El.pscOn 31) (.int 0) (fun u => u.nat (El.pscState 31) == 5 && (u.pscCh 31).shut == 2) = true ∧
    wrote (pscShut 31) (El.pscUnlatch 31) (.int 1) (fun u => u.nat (El.pscState 31) == 0 && (u.pscCh 31).shut == 0) = true ∧
    clears (El.pscClear 31) [El.pscCutCycles 31, El.pscShutdowns 31] = true := by decide +kernel

/-- Serial port 23 as a TDM master of 8 slots, and ring 15 on port 0. -/
def port23 : List (Nat × Nat) := [(El.spFormat 23, 2), (El.spClocking 23, 1), (El.spFrameLen 23, 512), (El.spSlots 23, 8), (El.spDomain 23, 0)]
theorem test_meets_SerialWritesApply : takesAll (conf port23) [(El.spEnable 23, .int 1), (El.spEnable 23, .int 0), (addrOf 0x08 23 0x0A, .int 5),
      (addrOf 0x08 23 0x0B, .int 5), (addrOf 0x08 23 0x0D, .int 5), (addrOf 0x08 23 0x0E, .int 5), (El.sapStartArm, .int 1), (El.sapStartArm, .int 0),
      (El.ringRun 15, .int 0), (El.ringRun 15, .int 1), (El.ringRun 15, .int 2), (El.agBandwidth 31, .int 50), (El.agSource 31, .int 0xFFFF)] = true ∧
    takesAll (solo port23) [(El.spApplyAt 23, .int 5)] = true ∧
    wrote (conf port23) (El.spEnable 23) (.int 1) (fun u => u.nat (El.spState 23) == 3) = true ∧
    wrote (conf []) (addrOf 0x08 23 0x0A) (.int 5) (fun u => u.nat (addrOf 0x08 23 0x0A) == 5 && (u.sapPort 23).writes.length == 1) = true ∧
    wrote (conf []) El.sapStartArm (.int 1) (fun u => u.nat El.sapStartState == 1) = true ∧
    wrote (conf [(El.sapStartState, 1)]) El.sapStartArm (.int 0) (fun u => u.nat El.sapStartState == 0) = true ∧
    wrote (conf [(El.ringWr 15, 9), (El.ringRd 15, 8)]) (El.ringRun 15) (.int 2) (fun u => u.nat (El.ringRun 15) == 2 && u.nat (El.ringWr 15) == 0 && u.nat (El.ringRd 15) == 0) = true ∧
    wrote (solo [(El.agState 31, 2)]) (El.agBandwidth 31) (.int 50) (fun u => u.sap.asrcReset.contains 31) = true := by decide +kernel
theorem test_meets_StreamWritesApply : takesAll (conf [(El.portEnable 0, 1)]) [(El.rxEnable 511, .int 0), (El.rxEnable 511, .int 1),
      (El.txEnable 511, .int 0), (El.txEnable 511, .int 1)] = true ∧
    wrote (conf []) (El.rxEnable 511) (.int 1) (fun u => u.nat (El.rxEnable 511) == 0) = true ∧
    wrote (conf [(El.portEnable 0, 1)]) (El.rxEnable 511) (.int 1) (fun u => u.nat (El.rxState 511) == 1) = true ∧
    wrote (solo [(El.portEnable 0, 1)]) (El.txEnable 511) (.int 1) (fun u => u.nat (El.txState 511) == 1) = true ∧
    wrote (conf [(El.txEnable 511, 1), (El.txWireRate 511, 9)]) (El.txEnable 511) (.int 0) (fun u => u.nat (El.txWireRate 511) == 0) = true := by decide +kernel
theorem test_meets_SystemWritesApply : takesAll (conf []) [(El.keyRole 31, .int 2), (El.timeSet, .int (3 * 2 ^ 48 + 5)), (El.ptpProfile, .int 2),
      (El.refPrio 7, .int 1), (El.dramEngineSegs, .int 4), (El.pdOn 19, .int 1), (El.twRank, .int 1)] = true ∧
    takesAll (conf [(El.pdState 9, 0)]) [(El.pdOn 9, .int 1)] = true ∧ takesAll (solo [(El.pdState 9, 0)]) [(El.pdOn 9, .int 1)] = true ∧
    takesAll (base 8 [(El.twRole, 2)]) [(El.twResync, .int 1)] = true ∧
    (conf [(El.pdState 9, 0)]).upWaits 9 = false ∧ (conf [(El.pdState 9, 0)]).sys.pdWait = [] ∧
    wrote (conf []) (El.keyRole 0) (.int 2) (fun u => u.session 1 == none) = true ∧
    wrote (conf []) El.timeSet (.int (3 * 2 ^ 48 + 5)) (fun u => u.time.clk == (5 * 10 ^ 9 + 3) * 65536) = true ∧
    wrote (conf []) El.ptpProfile (.int 2) (fun u => u.nat El.ptpProfile == 2) = true ∧
    wrote (conf []) El.dramEngineSegs (.int 4) (fun u => u.nat El.dramRetain == engineMask 4) = true ∧
    wrote (conf [(El.pdState 9, 0)]) (El.pdOn 9) (.int 1) (fun u => u.nat (El.pdState 9) == 1) = true ∧
    wrote (solo [(El.pdState 9, 0)]) (El.pdOn 9) (.int 1) (fun u => u.nat (El.pdState 9) == 0 && u.sys.pdWait == [(9, true)]) = true ∧
    wrote (base 8 [(El.twRole, 6)]) El.twResync (.int 1) (fun u => u.twin.resyncStep == 1) = true := by decide +kernel
/-- A change that is accepted and not yet committed, in slot 4. -/
def change1 : Change := ⟨5, 5, .recall, 10000, [], some 4, none, none, none, 0, 0, true, false, false, spi, 0⟩
def withChange : State := { solo [] with disp := { (solo []).disp with changes := [change1] } }
/-- The image is staged for cluster 1 and no rounds run. -/
def staged1c : State := ((small (conf [])).setV (El.imgData 1) (.bytes (imageOf 1))).setN (El.imgState 1) 1
theorem test_meets_ClusterWritesApply : takesAll (solo [(El.clAuditEnable 7, 1)]) [(El.coreRetire 7 7, .int 1), (El.clAuditEnable 7, .int 0),
      (El.clAuditEnable 7, .int 1), (El.jobClear 7 7 63, .int 1)] = true ∧ takesAll (base 10 []) [(El.coreRestore 7 7, .int 1)] = true ∧
    staged1c.roundsRun = false ∧ (staged1c.staged 1).isSome = true ∧ takesAll staged1c [(El.imgActivate 1, .int 1)] = true ∧
    (withChange.inSlot 4).map (·.committed) = some false ∧ takesAll withChange [(El.pendCancel 4, .int 1)] = true ∧
    wrote (solo [(El.clAuditEnable 7, 1)]) (El.coreRetire 7 7) (.int 1) (fun u => (u.cluster 7).forced == some 7) = true ∧
    wrote { base 10 [] with flash := { (base 10 []).flash with repair := [.core 7 7] } } (El.coreRestore 7 7) (.int 1) (fun u => u.flash.repair == []) = true ∧
    wrote (solo []) (El.clAuditEnable 7) (.int 0) (fun u => u.nat (El.clReliefState 7) == 0) = true ∧
    wrote (conf []) (El.clAuditEnable 7) (.int 0) (fun u => u.nat (El.clReliefState 7) == 1) = true ∧
    wrote staged1c (El.imgActivate 1) (.int 1) (fun u => u.nat (El.imgState 1) == 2 && (u.cluster 1).image == staged1c.staged 1) = true ∧
    wrote withChange (El.pendCancel 4) (.int 1) (fun u => u.disp.changes == [] && u.disp.freed == [4] && u.nat El.dispWithdrawn == 1) = true := by decide +kernel
theorem test_meets_ModeRequestsGo : takesAll (small (conf [])) [(El.modeRequest, .int 1), (El.modeRequest, .int 5), (El.modeRequest, .int 10), (El.resetRequest, .int 1)] = true ∧
    takesAll (small (solo [])) [(El.modeRequest, .int 4), (El.resetRequest, .int 1)] = true ∧ (small (conf [])).on El.twEnable = false ∧
    takesAll (small (conf [(El.twEnable, 1)])) [(El.modeRequest, .int 5)] = true ∧
    wrote (small (conf [])) El.modeRequest (.int 1) (fun u => u.mode == 1 && u.bop.sessions == []) = true ∧
    wrote (small (conf [])) El.modeRequest (.int 5) (fun u => u.mode == 5) = true ∧
    wrote (small (conf [(El.twEnable, 1)])) El.modeRequest (.int 5) (fun u => u.mode == 8 && u.nat El.twRole == 1) = true ∧
    wrote (small (conf [])) El.modeRequest (.int 10) (fun u => u.mode == 10) = true ∧
    wrote (small (conf [])) El.resetRequest (.int 1) (fun u => u.mode == 2 && u.nat El.resetCause == 3 && u.nat El.modePrev == 4) = true := by decide +kernel
/-- An owner hash stands. -/
def owned : State := { base 10 [] with flash := { (base 10 []).flash with ownerHash := some (List.replicate 48 1) } }
theorem test_meets_FlashCommandsAct : takesAll (conf []) [(El.settingsSave, .int 1), (El.settingsFactory, .int 1)] = true ∧
    takesAll (base 10 []) [(El.secDebugOff, .int 1)] = true ∧
    takesAll (conf [(El.updState, 2)]) [(El.updVerify, .int 1)] = true ∧ takesAll (conf [(El.updState, 4)]) [(El.updActivate, .int 1)] = true ∧
    takesAll (solo [(El.updState, 4)]) [(El.updActivate, .int 1)] = true ∧ takesAll (conf [(El.updState, 5)]) [(El.updConfirm, .int 1)] = true ∧
    takesAll (conf [(El.updState, 3)]) [(El.updAbort, .int 1)] = true ∧ takesAll owned [(El.secOwnerReq, .int 1)] = true ∧
    wrote (conf [(addrOf 0 32 0, 7)]) El.settingsSave (.int 1) (fun u => u.flash.settings.map (·.vals) == [(conf [(addrOf 0 32 0, 7)]).settings]) = true ∧
    wrote (conf [(El.updState, 2)]) El.updVerify (.int 1) (fun u => u.nat El.updState == 3) = true ∧
    wrote (conf [(El.updState, 4)]) El.updActivate (.int 1) (fun u => u.mode == 9 && u.sys.actStep == 2 && u.sys.actFrom == 4) = true ∧
    wrote (solo [(El.updState, 4)]) El.updActivate (.int 1) (fun u => u.mode == 5 && u.sys.actStep == 1) = true ∧
    wrote (conf [(El.updState, 3)]) El.updAbort (.int 1) (fun u => u.nat El.updState == 0) = true ∧
    wrote owned El.secOwnerReq (.int 1) (fun u => u.flash.ownerReq) = true ∧
    wrote (base 10 []) El.secDebugOff (.int 1) (fun u => u.flash.debugOff) = true := by decide +kernel

/-! ### Chunks, messages, records -/

/-- A record of an operation is heeded, as a test. -/
def heeds (s : State) (op : Nat) (w : Who) (r : Rec) : Bool :=
  s.sourceOn w.src && (s.pickRequest w (fun q => q.todo.head? == some { r with op := op })).isNone &&
    !s.forActive { w with opId := r.opId } { r with op := op } && !malformed { r with op := op }
/-- What `heeds` tests is what the statements assume. -/
theorem heeds_sound (s : State) (op : Nat) (w : Who) (r : Rec) (h : heeds s op w r = true) : s.Heeds op w r := by
  simp only [heeds, Bool.and_eq_true, Option.isNone_iff_eq_none, Bool.not_eq_true'] at h
  exact ⟨h.1.1.1, h.1.1.2, h.1.2, h.2⟩
/-- A chunk is taken, as a test. -/
def takesPart (s : State) (w : Who) (a : Nat) (k : Chunk) : Bool :=
  let b := s.advance 0
  heeds b opWrite w (chunkRec w a k) && decide (a < 2 ^ 32) && typeOf a == 14 && decide (k.off < 2 ^ 32) && decide (k.total < 2 ^ 32) &&
    b.writeHead w.src a 14 == .ok && (match (b.putChunk w a k.off k.total k.data).1 with | .ok _ => true | .error _ => false)
/-- A value arrives as one chunk, or as two. -/
def whole (b : List Byte) : Chunk := ⟨0, b.length, b⟩
def firstHalf (b : List Byte) : Chunk := ⟨0, b.length, b.take 8⟩
/-- What holds after a chunk has been judged, before its answer leaves. -/
def wroteChunk (s : State) (a : Nat) (k : Chunk) (p : State → Bool) : Bool := p ((s.advance 0).operate me (chunkRec me a k)).2

/-- A scene of one crosspoint (R151). -/
def scene1 : List Byte :=
  let w (crc : Nat) : List Byte := leWords [0x314E4353, 1, 24, crc, El.xpGain 0 0, 7]
  w (crc32c (w 0))
/-- A firmware image of 512 bytes whose header is in order for the full device (R548). -/
def fw1 : List Byte := leBytes 4 0x49574631 ++ leBytes 2 1 ++ leBytes 2 0 ++ leBytes 4 512 ++ List.replicate 12 0 ++ [1] ++ List.replicate 487 0
/-- A read of the DRAM window: three bytes from 65,533 on. -/
def windowRead : Rec := ⟨opRead, 14, 3, 0, 0, BitVec.ofNat 32 El.dramWinData, leBytes 4 65533 ++ leBytes 2 3⟩
theorem test_meets_DomainWrites : [(El.sceneData 4095, scene1), (El.imgData 7, imageOf 7)].all (fun e =>
      takesPart (conf []) me e.1 (whole e.2) && takesPart (conf []) me e.1 (firstHalf e.2)) = true ∧
    takesPart (conf []) spi (El.keyValue 31) (whole (List.replicate 32 9)) = true ∧
    takesPart (base 10 [(El.dramWinAddr, 0)]) me El.dramWinData (whole [1, 2]) = true ∧ takesPart (base 10 []) me El.secOwnerHash (whole (List.replicate 48 1)) = true ∧
    takesPart (conf []) me El.updData (whole fw1) = true ∧ takesPart (conf []) me El.updData (firstHalf fw1) = true ∧
    (heeds (conf []) opRead me windowRead && (conf []).readHead me.src El.dramWinData 14 == .ok && decide (3 ≤ (conf []).chunkRoom) &&
      decide (65536 ≤ (conf []).mappedEnd)) = true ∧
    wroteChunk (conf []) (El.sceneData 4095) (whole scene1) (fun u => u.nat (El.sceneLength 4095) == 24 && u.val (El.sceneData 4095) == .bytes scene1) = true ∧
    wroteChunk (conf []) (El.imgData 7) (whole (imageOf 7)) (fun u => u.nat (El.imgState 7) == 1 && u.val (El.imgData 7) == .bytes (imageOf 7)) = true ∧
    wroteChunk (conf []) (El.imgData 7) (firstHalf (imageOf 7)) (fun u => u.nat (El.imgState 7) == 0 && u.bop.asms.map (·.data) == [(imageOf 7).take 8]) = true ∧
    wroteChunk (base 10 []) El.dramWinData (whole [1, 2]) (fun u => u.dramRead 0 3 == [1, 2, 0]) = true := by decide +kernel

theorem tagged_length (k s m : List Byte) : (tagged k s m).length = m.length + 16 := by simp [tagged]
theorem slice_append (m x : List Byte) (i n : Nat) (h : i + n ≤ m.length) : slice (m ++ x) i n = slice m i n := by
  rw [slice, slice, List.drop_append_of_le_length (by omega), List.take_append_of_le_length (by simp; omega)]
theorem field_tagged (k s m : List Byte) (i n : Nat) (h : i + n ≤ m.length) : field (tagged k s m) i n = field m i n := by
  rw [field, tagged, slice_append _ _ _ _ h, field]
/-- A message under its tag has a good tag. -/
theorem tagGood_tagged (k s m : List Byte) : tagGood k s (tagged k s m) = true := by
  simp [tagGood, tagged_length, show (tagged k s m).take m.length = m by simp [tagged]]
/-- A request of session 1 with `seq` 9: a READ of `mode`. -/
def ask1 : Rec := ⟨opRead, 0, 3, 0, 0, BitVec.ofNat 32 El.mode, []⟩
def body1 : List Byte := messageBody 0 1 0xFFFF 9 [ask1]
/-- BOP is heard on the management port, and session 1 has a key. -/
def heard : State := let s := conf [(El.bopPorts, 1), (El.keyState 0, 1), (El.keyRole 0, 4), (El.sessTimeout, 30)]
  { s with bop := { s.bop with keys := [(0, List.replicate 32 5)] } }
theorem test_meets_SessionsLive_request (m : List Byte) (h : m = tagged (List.replicate 32 5) [] body1) :
    frameOk m = true ∧ headOf m = ⟨0, 1, 0xFFFF, 9, 1, 12⟩ ∧ m.length ≤ heard.nat El.bopMaxMsg ∧
    tagGood (heard.key 0) [] m = true ∧ messageRecs m = some [ask1] := by
  subst h
  have hl : (tagged (List.replicate 32 5) [] body1).length = 44 := by rw [tagged_length]; decide
  have hd : headOf (tagged (List.replicate 32 5) [] body1) = headOf body1 := by
    simp only [headOf]; congr 1 <;> exact field_tagged _ _ _ _ _ (by decide)
  refine ⟨?_, by rw [hd]; decide, by rw [hl]; decide +kernel, ?_, ?_⟩
  · unfold frameOk
    rw [hl, field_tagged _ _ _ _ _ (by decide), field_tagged _ _ _ _ _ (by decide), field_tagged _ _ _ _ _ (by decide), field_tagged _ _ _ _ _ (by decide)]
    decide
  · have : heard.key 0 = List.replicate 32 5 := by decide +kernel
    rw [this]; exact tagGood_tagged _ _ _
  · unfold messageRecs
    have hs := slice_append body1 ((Config.hmac (List.replicate 32 5) ([] ++ body1)).toList.take 16) 16 12 (by decide)
    rw [hd]; show (if 255 < 1 then none else parseRecs 1 (slice (body1 ++ _) 16 12)) = _
    rw [hs]; decide
/-- A datagram to the UDP port of BOP. -/
def udp1 (m : List Byte) : Udp := ⟨heard.nat El.bopUdpPort, heard.nat El.bopDscp, false, m⟩
theorem test_meets_SessionsLive : heard.hears 0 = true ∧ heard.isBop 0 (udp1 [1, 2, 3]) = true ∧ frameOk [1, 2, 3] = false ∧ heard.slotUsed 0 = true ∧ heard.freeSession = some 2 ∧
    heard.mode = 4 ∧ heard.hostClosed = false ∧ heard.bop.queue.length = 0 ∧ (heard.session 1).map (·.hi) = some 6 ∧
    takesAll heard [(El.sessionClose, .int 1)] = true ∧
    (heard.advance (30 * 10 ^ 9)).nat El.sessTimeout * 10 ^ 9 ≤ (heard.advance (30 * 10 ^ 9)).time.tick ∧
    after (.bopMessage 0 0 9 (udp1 [1, 2, 3])) heard (fun u => u.nat El.bopBad == 1) = true ∧
    after (.sessionTimeout (30 * 10 ^ 9) 1) heard (fun u => u.session 1 == none && u.nat (El.sessState 0) == 0) = true := by decide +kernel

/-- Records of session 1: a READ, a WRITE, and ones that a check refuses. -/
def readRec : Rec := ⟨opRead, 0, 3, 0, 0, BitVec.ofNat 32 El.mode, []⟩
def labelRec (v : Nat) : Rec := ⟨opWrite, 3, 3, 0, 0, BitVec.ofNat 32 (addrOf 0 32 0), leBytes 2 v⟩
/-- What holds of the answer and the state when a record has been executed, before its answer leaves. -/
def answered (s : State) (op : Nat) (r : Rec) (p : State → Rec → Bool) : Bool :=
  let x := (s.advance 0).operate me { r with op := op }
  match x.1 with
  | some a => p x.2 a
  | none => false
theorem test_meets_ReadsAndWrites : heeds (conf []) opRead me readRec = true ∧ (conf []).readHead me.src El.mode 0 = .ok ∧
    answered (conf []) opRead readRec (fun _ a => a.body == [4]) = true ∧
    heeds (conf []) opRead me { readRec with addr := 0xFF000000 } = true ∧ (conf []).readHead me.src 0xFF000000 0 = .noObject ∧
    answered (conf []) opRead { readRec with addr := 0xFF000000 } (fun _ a => a.status == 2) = true ∧
    heeds (conf []) opWrite me (labelRec 4095) = true ∧ (conf []).writeHead me.src (addrOf 0 32 0) 3 = .ok ∧
    (conf []).writeTail me.src (addrOf 0 32 0) (decodeVal 3 (leBytes 2 4095)) = .ok ∧
    answered (conf []) opWrite (labelRec 4095) (fun u a => u.nat (addrOf 0 32 0) == 4095 && a.status == 0) = true ∧
    (conf []).writeHead me.src El.mode 2 = .denied ∧ heeds (conf []) opWrite me ⟨opWrite, 2, 3, 0, 0, BitVec.ofNat 32 El.mode, [1]⟩ = true ∧
    heeds (conf []) opWrite me (labelRec 4096) = true ∧ (conf []).writeTail me.src (addrOf 0 32 0) (decodeVal 3 (leBytes 2 4096)) = .outOfRange ∧
    answered (conf []) opWrite (labelRec 4096) (fun u a => u.nat (addrOf 0 32 0) == 0 && a.status == 4) = true := by decide +kernel
/-- A WRITE_AT of a crosspoint gain at sample 4,800. -/
def laterRec : Rec := ⟨opWriteAt, typeOf (El.xpGain 0 0), 3, 1, 0, BitVec.ofNat 32 (El.xpGain 0 0), leBytes 8 4800 ++ leBytes 4 7⟩
theorem test_meets_WriteAtWaits : let b := solo []; let a := El.xpGain 0 0; let v := decodeVal laterRec.typ (laterRec.body.drop (markBytes laterRec));
    (heeds b opWriteAt me laterRec && b.writeHead me.src a laterRec.typ == .ok && takesMark a && b.valueStatus me.src a v == .ok && b.stateStatus a v == .ok &&
      (match b.markOf laterRec 0 with | .ok n => n == some 4800 | .error _ => false) && b.roundsRun && decide (b.effective ≤ 4800) && !b.tooFar 4800 &&
      decide (b.pendingAts < 4096) && (!isDirect a || b.roundUp 4800 == 4800) && b.clearSample [b.shapeOf [] none a v] 4800 (isDirect a) == 4800 &&
      (match reserveAll b.mix.resv b.roundB 4800 b.disp.nextId [b.shapeOf [] none a v] with | .ok _ => true | .error _ => false)) = true ∧
    answered b opWriteAt laterRec (fun u r => r.body == leBytes 8 4800 ++ leBytes 8 4800 && u.disp.changes.map (·.eff) == [4800] && u.int a == b.int a) = true := by decide +kernel

/-! ### Subscriptions, envelopes, recalls, the service port and the fabric -/

/-- A SUBSCRIBE of kind 1 to `mode`, every 4 rounds, and a cancel of number 1. -/
def subRec : Rec := ⟨opSubscribe, 0, 3, 0, 0, BitVec.ofNat 32 El.mode, [1, 0, 4, 0, 1, 0, 0, 0, 0, 0, 0, 0]⟩
def cancelRec : Rec := { subRec with body := [1, 1, 4, 0, 0, 0, 0, 0, 0, 0, 1, 0] }
/-- Rounds run, round 5 has been issued, and subscription 1 of session 1 is due. -/
def subscribed : State := let s := solo [(El.pubPeriod 15, 4)]
  { s with
    bop := { s.bop with subs := [(1, some ⟨1, 1, El.mode, 1, 4, 0, 3, []⟩)] }
    rounds := { s.rounds with nextPulse := 6, last := some 5 } }
theorem test_meets_SubscriptionsRun : heeds (solo []) opSubscribe me subRec = true ∧ (solo []).subStatus subRec 1 4 1 = .ok ∧
    (solo []).freeSub = some 1 ∧
    answered (solo []) opSubscribe subRec (fun u a => a.body == [1, 0] && (u.sub 1).map (·.period) == some 4) = true ∧
    heeds subscribed opSubscribe me cancelRec = true ∧ (subscribed.sub 1).map (·.owner) = some 1 ∧
    answered subscribed opSubscribe cancelRec (fun u a => a.body == [1, 0] && u.sub 1 == none) = true ∧
    subscribed.anchored = true ∧ (subscribed.sub 1).map (·.kind) = some 1 ∧ (subscribed.sub 1).map (fun x => decide (x.due < 6)) = some true ∧
    subscribed.nat (El.pubPeriod 15) = 4 ∧ (subscribed.pub 15).since + 4 ≤ subscribed.roundIssued := by decide +kernel
/-- Envelope 0 of session 1 holds a write. -/
def enveloped (s : State) : State :=
  { s with disp := { s.disp with envs := [(0, some ⟨false, me.src, [⟨El.xpGain 0 0, .int 7, 0, 0⟩], 0⟩)] } }
def openRec : Rec := ⟨opOpen, 0, 3, 0, 0, 0, []⟩
def sealRec : Rec := ⟨opSeal, 0, 3, 0, 0, 0, [0]⟩
def dropRec : Rec := ⟨opDrop, 0, 3, 0, 0, 0, [0]⟩
theorem test_meets_EnvelopesLive : heeds (conf []) opOpen me openRec = true ∧ (conf []).nextEnvNum.isSome = true ∧
    answered (conf []) opOpen openRec (fun u a => a.status == 0 && u.openEnvs.length == 1) = true ∧
    heeds (enveloped (conf [])) opDrop me dropRec = true ∧
    answered (enveloped (conf [])) opDrop dropRec (fun u a => a.status == 0 && u.env 0 == none) = true ∧
    heeds (enveloped (conf [])) opSeal me sealRec = true ∧ (enveloped (conf [])).wholeStatus [(El.xpGain 0 0, .int 7)] none false = none ∧
    answered (enveloped (conf [])) opSeal sealRec (fun u a => a.body.take 1 == [0xFF] && u.env 0 == none && u.int (El.xpGain 0 0) == 7) = true ∧
    heeds (enveloped (solo [])) opSeal me sealRec = true ∧ (enveloped (solo [])).wholeStatus [(El.xpGain 0 0, .int 7)] none false = none ∧
    answered (enveloped (solo [])) opSeal sealRec (fun u a => a.body.take 1 == [0] && (u.env 0).map (·.sealed) == some true &&
      u.disp.changes.map (fun c => (c.slot, c.envelope)) == [(some 0, some 0)] && u.int (El.xpGain 0 0) == 0) = true ∧
    ((enveloped (conf [])).advance (10 ^ 10)).time.tick = 10 ^ 10 := by decide +kernel
/-- Scene 5 stands. -/
def scened (s : State) : State := s.setV (El.sceneData 5) (.bytes scene1)
def recallRec : Rec := ⟨opRecall, 0, 3, 0, 0, 0, [5, 0, 0xFF, 0xFF]⟩
theorem test_meets_RecallsWait : heeds (scened (conf [])) opRecall me recallRec = true ∧ overrideOk 0xFFFF = true ∧
    sceneWrites scene1 = [(El.xpGain 0 0, .int 7)] ∧ (scened (conf [])).wholeStatus [(El.xpGain 0 0, .int 7)] none false = none ∧
    answered (scened (conf [])) opRecall recallRec (fun u a => a.body.take 1 == [0xFF] && u.int (El.xpGain 0 0) == 7) = true ∧
    heeds (scened (solo [])) opRecall me recallRec = true ∧
    answered (scened (solo [])) opRecall recallRec (fun u a => a.body.take 1 == [0] && u.nat (El.sceneState 5) == 2 &&
      u.disp.changes.map (fun c => (c.slot, c.scene)) == [(some 0, some 5)] && u.int (El.xpGain 0 0) == 0) = true := by decide +kernel
theorem test_meets_ServiceAndFabric : (conf []).sourceOn .spi = true ∧ (conf []).readHead .spi El.mode 2 = .ok ∧ typeOf El.mode = 2 ∧
    after (.spiRead 0 (BitVec.ofNat 32 El.mode) 2 1 0) (conf []) (fun u => u.bop.spi == (0, [4])) = true ∧
    (conf []).writeHead .spi (addrOf 0 32 0) 3 = .ok ∧ (conf []).writeTail .spi (addrOf 0 32 0) (.int 4095) = .ok ∧
    after (.spiWrite 0 (BitVec.ofNat 32 (addrOf 0 32 0)) 3 2 0 [0xFF, 0x0F]) (conf []) (fun u => u.bop.spi == (0, []) && u.nat (addrOf 0 32 0) == 4095) = true ∧
    (base 2 []).domainUp 1 = true ∧ (base 2 []).mayWriteReg 0 0 = true ∧ (base 2 []).mem.remap = false ∧
    after (.ctlRemap 0 0 1) (base 2 []) (fun u => u.mem.remapBusy && !u.mem.remap) = true ∧
    (base 2 []).mayWriteReg 0 (0x1000 + 0x100 * 14 + 0x10 * 15 + 8) = true ∧
    after (.rgnWrite 0 0 14 15 2 0xFFFFFFFF) (base 2 []) (fun u => u.rgn 14 15 2 == (0xFFFFFFFF &&& rgnMask 2).toNat) = true := by decide +kernel

/-! ### Rounds, jobs, passes, changes, audits -/

/-- SOLO with round 5 issued at tick 1,000: it waits, or is being computed. -/
def waiting5 : State := let s := solo []
  { s with rounds := { s.rounds with nextPulse := 6, last := some 5, waiting := [5], nextRound := 5, startIdx := 80, pulseAt := [(5, 1000)] } }
def computing5 (phase passes : Nat) : State :=
  { waiting5 with rounds := { waiting5.rounds with current := some 5, waiting := [], phase := phase, passes := passes } }
/-- SOLO before its first pulse after round 0: a whole interval of 16 samples passes in 200 µs. -/
def early : State := let s := solo []; { s with rounds := { s.rounds with nextPulse := 1, last := some 0, interval := 16 } }
/-- A measured step waits for the boundary that round 5 is. -/
def stepping : State := { waiting5 with rounds := { waiting5.rounds with step := some ⟨2000⟩, pulseAt := [(5, 0)] } }
theorem test_meets_RoundsGoOn : (early.advance 200000).anchored = true ∧ early.domainUp 0x13 = true ∧ 16 ≤ (early.advance 200000).sampleNow ∧
    early.roundsRun = true ∧ early.rounds.waiting = [] ∧
    waiting5.courierWaits 5 = false ∧ (List.range 8).all (fun c => !waiting5.reliefHolds c 5) = true ∧ (waiting5.advance 2000).time.tick - 1000 < waiting5.lagLimit ∧
    after (.roundStart 2000) waiting5 (fun u => u.rounds.current == some 5 && u.rounds.waiting == [] && u.nat El.roundNow == 5 && u.nat El.timelineNow == 80) = true ∧
    waiting5.lagLimit ≤ (waiting5.advance 1000000).time.tick - 1000 ∧
    (computing5 0 0).jobsDone 5 false = true ∧ (computing5 0 0).jobsDone 5 true = true ∧
    after (.phaseComplete 2000 1) (computing5 0 0) (fun u => u.rounds.phase == 1) = true ∧
    after (.phaseComplete 2000 2) (computing5 1 1) (fun u => u.rounds.phase == 2) = true ∧
    after (.phaseComplete 2000 3) (computing5 2 1) (fun u => u.rounds.phase == 3) = true ∧
    after (.phaseComplete 2000 4) (computing5 3 2) (fun u => u.rounds.phase == 0 && u.rounds.current == none) = true ∧
    stepping.anchored = true ∧ stepping.rounds.last = some 5 ∧ Tab.get 0 stepping.rounds.pulseAt 5 = stepping.time.tick ∧
    after (.reanchor 0) stepping (fun u => u.rounds.step == none && u.nat El.stepCount == 1 && u.rounds.startIdx == 80 + 0) = true ∧
    waiting5.tgtStatus (outKey (.psc 31)) = .ok ∧ early.domainUp (outDomain (.psc 31)) = true ∧ early.rounds.xfade.left = 0 ∧
    after (.outputPlay 100000 (.psc 31) ⟨5, []⟩) early (fun u => Tab.get 0 u.rounds.played (outKey (.psc 31)) == 6) = true := by decide +kernel

/-- Round 5 is being computed, and cluster 0 holds job 0, which may read and write the cluster store. -/
def job1 : Job := { job0 with ins := [⟨none, 0, 0⟩], outs := [⟨3, 0⟩], regions := [⟨false, 0, 4096, true, false⟩] }
def section1 : Section := ⟨0, 0, [], 256, 256, [], [], [job1]⟩
def working : State := (computing5 0 0).setCluster 0 { Cluster.cleared with image := some ⟨0, 3, 16, 100, 0, [section1]⟩ }
def withCore0 (s : State) (f : Core → Core) : State := s.setCore 0 0 (f (s.core 0 0))
def xfer1 : DmaXfer := ⟨.x, 0, 0, .store, 0, 0, 16, 1⟩
theorem test_meets_JobsAndTransfers : working.sectionOf 0 0 = some section1 ∧ working.jobAt 0 0 0 = some job1 ∧
    (withCore0 working (fun c => { c with ready := [0] })).mayStart 0 0 0 section1 job1 = true ∧
    after (.jobStart 0 0 0 0) (withCore0 working (fun c => { c with ready := [0] })) (fun u => u.nat (El.jobState 0 0 0) == 1 &&
      (u.core 0 0).run == some 0 && (u.core 0 0).pc == 16) = true ∧
    working.clusterRuns 0 working.workRound = true ∧ working.phaseOpen false = true ∧ working.inAudit 0 0 = false ∧ working.openRound = true ∧
    after (.trayInputWrite 0 0 0 0) working (fun u => (u.core 0 0).ready == [0]) = true ∧
    after (.trayOutputRead 0 0 0 0) (withCore0 working (fun c => { c with halted := [0] })) (fun u => Tab.get [] u.mix.sig (sigJob 3) == List.replicate 16 0) = true ∧
    after (.trayOutputRead 0 0 0 0) (withCore0 working (fun c => { c with ended := [0], x := [(outTrayBase 256 1, 9)] }))
      (fun u => Tab.get [] u.mix.sig (sigJob 3) == 9 :: List.replicate 15 0) = true ∧
    ownsChannel 0 1 = true ∧ xferAllowed job1 xfer1 = true ∧
    after (.dmaTransfer 0 k0 1 xfer1) (withCore0 working (fun c => { c with run := some 0 })) (fun u => Tab.get none (u.cluster 0).dma 1 == some ⟨0, xfer1, 0, false⟩) = true ∧
    after (.dmaComplete 0 0 1) (working.setCluster 0 { working.cluster 0 with dma := [(1, some ⟨0, xfer1, 0, false⟩)] }) (fun u => (u.cluster 0).dma == []) = true := by decide +kernel
/-- A gain ramp of crosspoint (0, 0) from 0 to 8 that has reached its length. -/
def ramped : State := let s := computing5 1 0
  { s with mix := { s.mix with
      xramps := [(El.xpGain 0 0, { XRamp.rest with moving := true, start := 10, len := 32 })], incoming := [(El.xpGain 0 0, 8)] } }
/-- A ramp of `st_fader` of strip 4, and a morph of its EQ, that have ended. -/
def stripRamped : State := (computing5 0 0).setStrip false 4 { StripRun.fresh with ramps := [(0x40, [⟨10, 32, 0, 0, 5, true⟩])], morphs := [(2, [⟨10, 32, [], false⟩])] }
/-- Pass A of the smallest variant has taken every source. -/
def allTaken : State := let s := computing5 1 0
  { s with variant := .ivm7408, mix := { s.mix with addedA := List.range 512 } }
theorem test_meets_MixGoesOn : 2047 < (computing5 1 0).cap (computing5 1 0).variant.sources ∧ (computing5 1 0).sourceReady false 2047 = true ∧
    after (.sourceAdd 0 false 2047) (computing5 1 0) (fun u => u.mix.addedA == [2047]) = true ∧ (computing5 1 1).sourceReady true 2047 = true ∧
    (ramped.xramp (El.xpGain 0 0)).moving = true ∧ (ramped.xramp (El.xpGain 0 0)).start + (ramped.xramp (El.xpGain 0 0)).len < ramped.computedTo ∧
    after (.rampEnd 0 0 0) ramped (fun u => !(u.xramp (El.xpGain 0 0)).moving && Tab.get 0 u.mix.inEffect (El.xpGain 0 0) == 8) = true ∧
    gainKeys 0x40 = [0x40] ∧ 10 + 32 < stripRamped.computedTo ∧
    after (.stripRampEnd 0 false 4 0x40) stripRamped (fun u => (Tab.get [] (u.strip false 4).ramps 0x40).map (·.moving) == [false]) = true ∧
    after (.morphEnd 0 false 4 .eq) stripRamped (fun u => ((u.strip false 4).morphsOf 2).map (·.ended) == [true]) = true := by decide +kernel
theorem test_meets_MixGoesOn_pass : (allTaken.domainUp 0x0A && allTaken.passReady 5 false && decide (allTaken.rounds.passes = 0)) = true ∧
    after (.passComplete 0 false) allTaken (fun u => u.rounds.passes == 1) = true := by decide +kernel

/-- A change of one write at sample 96, which is in a slot or not, armed or not, committed or not. -/
def change5 (kind : ChangeKind) (slot : Option Nat) (armed committed : Bool) (a v len : Nat) : Change :=
  ⟨5, 5, kind, 96, [⟨a, .int v, len, 0⟩], slot, none, none, none, 0, 1, armed, committed, false, spi, 0⟩
def holding (s : State) (c : Change) : State := { s with disp := { s.disp with changes := [c] } }
/-- Round 6 is being computed, and its first sample is 96. -/
def computing6 : State := let s := computing5 0 0
  { s with rounds := { s.rounds with current := some 6, nextRound := 6, last := some 6, nextPulse := 7, startIdx := 96 } }
def lossy : State := (solo []).setStrip false 1023 { StripRun.fresh with backupAt := some 96 }
/-- An accepted activation of the image staged for cluster 7. -/
def activating : State :=
  let s : State := holding (((computing6).setV (El.imgData 7) (.bytes (imageOf 7))).setN (El.imgState 7) 1) (change5 .activate none false true (El.imgActivate 7) 1 0)
  s
def loading7 : State := computing6.setCluster 7 { Cluster.cleared with loading := true, loadUntil := 6 }
theorem test_meets_ChangesTakeEffect : (holding computing6 (change5 .recall (some 4) false false (El.xpGain 0 0) 7 0)).mayArm (change5 .recall (some 4) false false (El.xpGain 0 0) 7 0) = true ∧
    after (.pendingArm 0 5) (holding computing6 (change5 .recall (some 4) false false (El.xpGain 0 0) 7 0)) (fun u => u.disp.changes.map (·.armed) == [true]) = true ∧
    (change5 .recall (some 4) true false (El.xpGain 0 0) 7 0).pending = true ∧
    (holding computing6 (change5 .recall (some 4) true false (El.xpGain 0 0) 7 0)).commitStatus (change5 .recall (some 4) true false (El.xpGain 0 0) 7 0) = .ok ∧
    after (.commitPoint 0 5) (holding computing6 (change5 .recall (some 4) true false (El.xpGain 0 0) 7 0)) (fun u => u.disp.changes.map (·.committed) == [true] && u.nat (El.pendState 4) == 3) = true ∧
    (holding computing6 (change5 .recall (some 4) true false (El.dstTarget 0) 0x70000000 0)).commitStatus (change5 .recall (some 4) true false (El.dstTarget 0) 0x70000000 0) ≠ .ok ∧
    after (.commitPoint 0 5) (holding computing6 (change5 .recall (some 4) true false (El.dstTarget 0) 0x70000000 0)) (fun u => u.disp.changes == []) = true ∧
    computing6.changeDue 6 (change5 .write none true true (El.xpGain 0 0) 7 64) = true ∧ computing6.shedWrite ⟨El.xpGain 0 0, .int 7, 64, 0⟩ = false ∧ computing6.rounds.phase = 0 ∧
    after (.changeApply 0 5) (holding computing6 (change5 .write none true true (El.xpGain 0 0) 7 64)) (fun u => u.disp.changes == [] && u.int (El.xpGain 0 0) == 7 &&
      (u.xramp (El.xpGain 0 0)).moving && (u.xramp (El.xpGain 0 0)).len == 64) = true ∧
    after (.changeApply 0 5) (holding computing6 (change5 .write none true true (El.xpGain 0 0) 7 0)) (fun u => Tab.get 0 u.mix.inEffect (El.xpGain 0 0) == 7) = true ∧
    after (.changeApply 0 5) (holding computing6 (change5 .write none true true (El.srcSignal 9) 1 0)) (fun u => u.nat (El.srcSignal 9) == 1) = true ∧
    computing6.pscStateOk (El.pscTest 31) (.int 1) = .ok ∧
    after (.changeApply 0 5) (holding computing6 (change5 .write none true true (El.pscTest 31) 1 0)) (fun u => (u.pscCh 31).step == 6) = true ∧
    (lossy.strip false 1023).onBackup = false ∧ after (.backupSwitch 0 1023) lossy (fun u => (u.strip false 1023).onBackup) = true ∧
    (activating.activation 7).isSome = true ∧ (activating.staged 7).isSome = true ∧ 96 ≤ activating.firstSample activating.workRound ∧
    (loading7.cluster 7).loadUntil ≤ loading7.workRound ∧ after (.imageLoadDone 0 7) loading7 (fun u => !(u.cluster 7).loading) = true := by decide +kernel
/-- Cluster 7 is audited: core 7 was mirrored, its audit round is complete, and the relief core has no job of it left to do. -/
def auditing : State := let s := solo [(El.clAuditEnable 7, 1)]
  let s1 : State := { s with rounds := { s.rounds with nextRound := 4 } }
  s1.setCluster 7 { Cluster.cleared with auditing := true, auditAt := 1, auditCore := 7, auditRound := some 3, audited := some Core.cleared }
def retiring7 : State := (solo []).setCluster 7 { Cluster.cleared with retiring := some (7, 63) }
def goingDown : State := let s := conf []; { s with sys := { s.sys with pdWait := [(9 + 32, false)] } }
theorem test_meets_AuditsAndDomains : (solo [(El.clAuditEnable 7, 1)]).auditsRun 7 = true ∧
    after (.auditMirror 0 7) (solo [(El.clAuditEnable 7, 1)]) (fun u => (u.cluster 7).auditing && u.nat (El.clAuditCore 7) == 0) = true ∧
    (auditing.cluster 7).audited ≠ none ∧ auditing.reliefDone 7 = true ∧ auditing.firstDiffers 7 = none ∧ 262144 + (auditing.cluster 7).replayTop ≤ 262144 ∧
    after (.auditRound 0 7 262144 none) auditing (fun u => (u.cluster 7).auditCore == 0 && u.nat (El.coreAuditsPassed 7 7) == 1 && u.nat (El.clAudits 7) == 1) = true ∧
    after (.auditRound 0 7 0 (some 63)) auditing (fun u => (u.cluster 7).retiring == some (7, 63)) = true ∧
    retiring7.clusterUp 7 = true ∧ retiring7.rounds.current = none ∧
    after (.reliefTakeover 0 7) retiring7 (fun u => u.nat (El.coreState 7 7) == 1 && u.nat (El.coreCarries 7 8) == 7 && u.flash.repair == [.core 7 7]) = true ∧
    after (.reliefSelfTest 0 7 false) (solo [(El.clAuditEnable 7, 1)]) (fun u => u.nat (El.clReliefState 7) == 3) = true ∧
    (conf [(El.pdState 19, 1)]).needsUp 19 = true ∧ after (.domainPowerUp 0 19) (conf [(El.pdState 19, 1)]) (fun u => u.nat (El.pdState 19) == 2) = true ∧
    goingDown.needersDown 9 = true ∧ after (.domainPowerDown 0 9) goingDown (fun u => u.nat (El.pdState 9) == 0) = true := by decide +kernel

/-! ### Serial ports, network ports and streams -/

def goodFrame : SapFrame := ⟨true, 4800000, [], [], [], none⟩
def badFrame : SapFrame := { goodFrame with good := false }
/-- Port 23 is an enabled slave. -/
def slave23 (x : SapPort) (l : List (Nat × Nat)) : State := (solo ([(El.spEnable 23, 1), (El.spFormat 23, 2), (El.spClocking 23, 0), (El.spDomain 23, 0)] ++ l)).setSapPort 23 x
def port0 : SapPort := (State.reset).sapPort 23
theorem test_meets_SerialGoesOn_slave : (slave23 port0 []).portOn 23 = true ∧ (slave23 port0 []).isSlave 23 = true ∧
    after (.sapFrameIn 0 23 goodFrame) (slave23 { port0 with goodFrames := 15 } []) (fun u => (u.sapPort 23).locked) = true ∧
    after (.sapFrameIn 0 23 goodFrame) (slave23 { port0 with goodFrames := 14 } []) (fun u => !(u.sapPort 23).locked && (u.sapPort 23).goodFrames == 15) = true ∧
    after (.sapFrameIn 0 23 badFrame) (slave23 { port0 with locked := true } []) (fun u => !(u.sapPort 23).locked && u.nat (El.spState 23) == 4 && u.nat (El.spSlips 23) == 1) = true ∧
    after (.sapMissingFrame 0 23) (slave23 { port0 with locked := true } []) (fun u => !(u.sapPort 23).locked && u.nat (El.spSlips 23) == 1) = true := by decide +kernel
/-- Port 23 is a master that carries data, with output slot 7 open and its gate at rest. -/
def master23 : State := ((solo (port23 ++ [(El.spEnable 23, 1)])).setSapPort 23 { port0 with txMask := 0x80, txOn := 0x80, gates := [(39, ⟨32, true, 0, false, 0⟩)] })
/-- A gate of port 0 that has waited as long as it may. -/
def gating : State := (solo [(El.spZcTimeout 0, 1)]).setSapPort 0 { port0 with gates := [(63, ⟨0, true, 200, false, 0⟩)] }
/-- The start trigger is armed for ports 0 and 23. -/
def armed (l : List (Nat × Nat)) : State := solo ([(El.sapStartState, 1), (El.sapStartPorts, 2 ^ 23 + 1)] ++ l)
def tracking : State := solo [(El.agState 31, 1)]
theorem test_meets_SerialGoesOn : master23.portData 23 = true ∧ master23.anchored = true ∧ (master23.sapPort 23).writes = [] ∧ (master23.sapPort 23).cut = [] ∧
    (master23.sapPort 23).gate 39 = ⟨32, true, 0, false, 0⟩ ∧ after (.sapFrameOut 0 23) master23 (fun u => (u.sapPort 23).driven == master23.drivenSlots 23 0x80) = true ∧
    (slave23 port0 []).portData 23 = false ∧ after (.sapFrameOut 0 23) (slave23 port0 []) (fun u => (u.sapPort 23).dout == []) = true ∧
    ((gating.sapPort 0).gate 63).pos ≠ ((gating.sapPort 0).gate 63).goal ∧ 0 < gating.gateWait 0 ∧ gating.gateWait 0 ≤ 200 ∧
    after (.gateTimeout 0 0 true 31) gating (fun u => ((u.sapPort 0).gate 63).moving) = true ∧
    (armed [(El.sapStartSrc, 1)]).sap.edgeAt = none ∧ after (.startInEdge ⟨0, 100⟩) (armed [(El.sapStartSrc, 1)]) (fun u => u.sap.edgeAt == some (armed []).smpClk) = true ∧
    (armed []).fireSample = some 0 ∧ 0 ≤ (armed []).sampleNow ∧
    after (.startTriggerFire 0) (armed []) (fun u => u.nat El.sapStartState == 2 && u.nat (El.spEnable 0) == 1 && u.nat (El.spEnable 23) == 1) = true ∧
    tracking.asrcFollows = false ∧ Tab.get 0 tracking.sap.asrcSince 31 + 20000000 ≤ (tracking.advance 20000000).time.tick := by decide +kernel

/-- A frame of 64 bytes for the engine's management host. -/
def frame1 : Frame := ⟨broadcastMac, 0x10, 64, true, none, 0, .neighbour⟩
/-- Ports A and B have addresses of their own. -/
def withMacs (s : State) : State :=
  { s with regs := Tab.ins (El.portMac 0) (.bytes [2, 0, 0, 0, 0, 1]) (Tab.ins (El.portMac 1) (.bytes [2, 0, 0, 0, 0, 2]) s.regs) }
/-- The network domains are up, ports A, B and M run with their links up. -/
def net1 (l : List (Nat × Nat)) : State := withMacs (solo ([(El.portEnable 0, 1), (El.portEnable 1, 1), (El.portEnable 2, 1), (El.portLink 0, 1), (El.portLink 1, 1), (El.portLink 2, 1)] ++ l))
def queued (x : TxItem) : State := (net1 []).setNetPort 0 { (net1 []).netPort 0 with tx := [(1, [x])] }
def slow2 (b : Bool) (l : List (Nat × Nat)) : State := (net1 l).setNetPort 2 { (net1 []).netPort 2 with slowed := b }
def neighbour1 : TxItem := .bop 9 0 (List.replicate 100 0)
theorem test_meets_NetGoesOn_ports : (net1 []).netUp 2 = true ∧ (net1 []).netUp 0 = true ∧
    after (.frameReceive 0 2 { frame1 with len := 63 }) (net1 []) (fun u => u.nat (El.portRunts 2) == 1) = true ∧
    after (.frameReceive 0 2 { frame1 with len := 9217 }) (net1 []) (fun u => u.nat (El.portOversize 2) == 1) = true ∧
    after (.frameReceive 0 2 { frame1 with fcsOk := false }) (net1 []) (fun u => u.nat (El.portFcsErr 2) == 1) = true ∧
    (net1 []).vlanOk 2 (some 7) = false ∧ (net1 []).vlanOk 2 none = true ∧ (net1 []).addressed 2 frame1 = true ∧ (net1 []).rxRing 2 .neighbour = some 2 ∧
    after (.frameReceive 0 2 frame1) (net1 []) (fun u => u.nat (El.portRxFrames 2) == 1 && Tab.get 0 (u.netPort 2).rx 2 == 1) = true ∧
    (net1 [(El.netMode, 1)]).switches 0 = true ∧ (net1 [(El.netMode, 1)]).forwards 0 frame1 = true ∧
    after (.frameReceive 0 0 frame1) (net1 [(El.netMode, 1)]) (fun u => u.nat El.swForwarded == 1 && u.learnedOn 0x10 == some 0 &&
      Tab.get [] (u.netPort 1).tx ((net1 []).forwardRing frame1) == [.forward frame1 ((net1 [(El.netMode, 1)]).ingress 0)]) = true ∧
    ((queued neighbour1).countCredit 0).nextRing 0 = some 1 ∧
    after (.frameTransmit 0 0 false) (queued neighbour1) (fun u => (u.netPort 0).sent == some neighbour1) = true ∧
    (net1 [(El.txrThreshold 0 1, 64)]).nat (El.txrThreshold 0 1) < neighbour1.bytes ∧
    after (.addressAging 0 0x10) (net1 []) (fun u => u.net.learned == []) = true ∧
    (net1 [(El.portEco 2, 1), (El.portRateNow 2, 1000)]).on (El.ptpEnable 2) = false ∧
    after (.portMSlowDown 60000000000) (net1 [(El.portEco 2, 1), (El.portRateNow 2, 1000)]) (fun u => u.nat (El.portLink 2) == 2 && (u.netPort 2).slowed) = true ∧
    after (.portMRestore 0) (slow2 true []) (fun u => u.nat (El.portLink 2) == 2 && !(u.netPort 2).slowed) = true ∧
    (net1 []).nat (El.portPhyAddr 2) = 0 ∧ after (.phyLinkChange 0 0 (some 100)) (net1 []) (fun u => u.nat (El.portRateNow 2) == 100) = true ∧
    after (.netPortLinkChange 0 1 false) (net1 []) (fun u => u.nat (El.portLink 1) == 0) = true := by decide +kernel

/-- Receive stream 511 and transmit stream 511 run on leg A. -/
def streams : State := net1 [(El.rxEnable 511, 1), (El.txEnable 511, 1), (El.rxPortA 511, 5004)]
def packet1 : Packet := ⟨List.replicate 16 0, 5004, [], 0, 0, 1, 0, true, 2 * 3 * streams.rxP 511, [[some 5, some 6]]⟩
theorem test_meets_NetGoesOn_streams : streams.on (El.rxEnable 511) = true ∧ bitOf (streams.nat (El.rxLegs 511)) 0 = true ∧
    streams.rxMatches 0 511 { packet1 with dst := (streams.val (El.rxDstA 511)).toBytes } = true ∧
    streams.rxChecks 511 { packet1 with udpOk := false } = false ∧ streams.rxChecks 511 packet1 = true ∧ streams.nat (El.rxDomain 511) = 0 ∧
    after (.streamPacketReceive 0 0 511 { packet1 with dst := (streams.val (El.rxDstA 511)).toBytes, udpOk := false }) streams (fun u => u.nat (El.rxOther 511) == 1) = true ∧
    after (.streamPacketReceive 0 0 511 { packet1 with dst := (streams.val (El.rxDstA 511)).toBytes }) streams (fun u => u.nat (El.rxPacketsA 511) == 1 && u.nat (El.rxState 511) == 2) = true ∧
    (streams.setV (El.portIp4 1) (.bytes [10, 0, 0, 1])).answers 1 (.arp 0x0A000001) = true ∧
    after (.arpNdIcmp 0 1 (.arp 0x0A000001)) (streams.setV (El.portIp4 1) (.bytes [10, 0, 0, 1])) (fun u => Tab.get [] (u.netPort 1).tx 2 == [.neighbour (.arp 0x0A000001)]) = true ∧
    streams.nextPacket 511 = 0 ∧ streams.txP 511 - 1 ≤ (streams.advance 2000000).sampleNow ∧ streams.drives = true ∧
    after (.streamPacketSend 2000000 511 0) streams (fun u => u.nextPacket 511 == 1 && u.nat (El.txPacketsA 511) == 1 && (Tab.get [] (u.netPort 0).tx 4).length == 1) = true ∧
    (base 7 [(El.anchorState, 1), (El.txEnable 511, 1)]).drives = false ∧ (base 7 [(El.anchorState, 1), (El.txEnable 511, 1)]).roundsRun = true ∧
    after (.streamPacketSend 2000000 511 0) (base 7 [(El.anchorState, 1), (El.txEnable 511, 1)]) (fun u => u.nextPacket 511 == 1 && u.nat (El.txState 511) == 2) = true := by decide +kernel

/-! ### PTP, references and clocks -/

def master1 : PtpMaster := ⟨9, 9, 6, 0x21, 0x4E5D, 128, 128, 0⟩
/-- PTP runs on port 2 in a state, behind a master. -/
def ptp2 (state profile : Nat) : State :=
  (net1 [(El.ptpEnable 2, 1), (El.ptpState 2, state), (El.ptpProfile, profile)]).setPtpPort 2 { PtpPort.fresh with master := some master1, foreign := [(master1, 0)] }
/-- The header of a message of that master, one-step or two-step. -/
def head1 : PtpHead := ⟨(ptp2 9 0).nat El.ptpDomain, 9, 1, 0⟩
/-- Port 2 has sent a request of sequence 1, or waits for the follow-up of a two-step answer. -/
def asked2 (profile : Nat) (answer : Option (Int × Int)) : State := let s := ptp2 9 profile
  s.setPtpPort 2 { s.ptpPort 2 with reqAt := some 0, reqSeq := 1, answer := answer }
theorem test_meets_PtpGoesOn : (ptp2 9 0).fromMaster 2 head1 = true ∧ (ptp2 9 0).ptpHears 2 head1 = true ∧ (ptp2 9 0).ptpOn 2 = true ∧
    after (.sync 0 2 head1 0 false) (ptp2 9 0) (fun u => (u.ptpPort 2).offsets.length == 1 && u.nat (El.ptpState 2) == 9) = true ∧
    after (.sync 0 2 head1 0 true) (ptp2 9 0) (fun u => ((u.ptpPort 2).pending).map (·.1) == some 1) = true ∧
    after (.followUp 0 2 head1 0) ((ptp2 9 0).setPtpPort 2 { (ptp2 9 0).ptpPort 2 with pending := some (1, 3 * 65536) })
      (fun u => (u.ptpPort 2).offsets == [3 * 65536] && (u.ptpPort 2).pending == none) = true ∧
    after (.announce 0 2 ⟨head1, { master1 with gmId := 5 }⟩) (ptp2 9 0) (fun u => (u.ptpPort 2).foreign.contains ({ master1 with gmId := 5 }, 0) && u.nat (El.ptpLosses 2) == 1) = true ∧
    (ptp2 6 0).nat (El.ptpState 2) = 6 ∧ (ptp2 6 0).ptpHears 2 head1 = true ∧ (ptp2 6 2).ptpHears 2 head1 = true ∧
    after (.delayReq 0 2 head1) (ptp2 6 0) (fun u => (Tab.get [] (u.netPort 2).tx 0).length == 1) = true ∧
    after (.pdelayReq 0 2 head1) (ptp2 6 2) (fun u => (Tab.get [] (u.netPort 2).tx 0).length == 1) = true ∧
    (let id := (asked2 0 none).ptpId 2
     (asked2 0 none).answersReq 2 head1 id = true ∧ (asked2 2 none).answersReq 2 head1 id = true ∧ (asked2 0 none).fromMaster 2 head1 = true ∧
     after (.delayResp 0 2 ⟨head1, id, 0⟩) (asked2 0 none) (fun u => (u.ptpPort 2).reqAt == none) = true ∧
     after (.pdelayResp 0 2 ⟨head1, id, 0, false, false⟩) (asked2 2 none) (fun u => (u.ptpPort 2).reqAt == none) = true ∧
     after (.pdelayResp 0 2 ⟨head1, id, 3, true, false⟩) (asked2 2 none) (fun u => ((u.ptpPort 2).answer).map (·.2) == some (3 * 65536)) = true ∧
     after (.pdelayResp 0 2 ⟨head1, id, 0, false, true⟩) (asked2 2 (some (5, 3))) (fun u => (u.ptpPort 2).delay == 4 && (u.ptpPort 2).reqAt == none) = true) ∧
    [PtpSend.sync, .announce].all (fun m => (ptp2 6 0).ptpMay 2 m) = true ∧ (ptp2 9 0).ptpMay 2 .delayReq = true ∧ (ptp2 9 2).ptpMay 2 .pdelayReq = true ∧
    [PtpSend.sync, .announce].all (fun m => after (.ptpMessageSend 0 2 m) (ptp2 6 0) (fun u => (Tab.get [] (u.netPort 2).tx 0).length == 1)) = true ∧
    after (.ptpMessageSend 0 2 .delayReq) (ptp2 9 0) (fun u => (Tab.get [] (u.netPort 2).tx 0).length == 1) = true ∧
    after (.ptpMessageSend 0 2 .pdelayReq) (ptp2 9 2) (fun u => (Tab.get [] (u.netPort 2).tx 0).length == 1) = true ∧
    ((ptp2 9 0).advance (10 ^ 12)).time.tick = 10 ^ 12 ∧ (ptp2 9 0).nat (El.ptpAnnounceTo 2) * logNs ((ptp2 9 0).int (El.ptpLogAnnounce 2)) ≤ 10 ^ 12 ∧
    3 * logNs ((ptp2 9 0).int (El.ptpLogSync 2)) ≤ 10 ^ 12 ∧
    after (.announceTimeout (10 ^ 12) 2) (ptp2 9 0) (fun u => u.nat (El.ptpLosses 2) == 1) = true ∧
    after (.syncTimeout (10 ^ 12) 2) (ptp2 9 0) (fun u => u.nat (El.ptpState 2) == 8 && u.nat (El.ptpLosses 2) == 1) = true := by decide +kernel
/-- Reference 4 in a state, and the priority table with 4 first and 0x30 second. -/
def ref4 (state : Nat) (l : List (Nat × Nat)) : State := solo ([(El.hrefState 4, state), (El.refPrio 0, 4), (El.refPrio 1, 0x30)] ++ l)
def ptpGood : State := (net1 [(El.ptpEnable 0, 1), (El.ptpState 0, 9), (El.ptpGmClass 0, 6), (El.ptpGmAcc 0, 0x20), (El.ptpGmVar 0, 1)]).setPtpPort 0 { PtpPort.fresh with goodSince := some 0 }
def reverting : State := let s := ref4 2 [(El.refSelected, 0x30), (El.refRevertive, 1)]
  { s with refs := { s.refs with prioSince := [(4, 1)] } }
def locking10 : State := let s := solo [(El.timeState, 1)]; { s with refs := { s.refs with lockSince := some 0 } }
theorem test_meets_ReferencesGoOn : isHref 0x27 = true ∧ (ref4 0 []).refStatus 4 = .ok ∧ (ref4 0 []).hrefUsable 4 = true ∧ isHref 1 = true ∧
    after (.refEdge 0 ⟨4, ((ref4 0 []).nat (El.hrefEdge 4) == 1)⟩) (ref4 0 []) (fun u => (u.href 4).edges.length == 1) = true ∧
    3 * ((ref4 2 []).hrefPeriod 4).1 ≤ 2 * (3 * 10 ^ 9) * ((ref4 2 []).hrefPeriod 4).2 ∧
    after (.refMissingPeriod (3 * 10 ^ 9) 4) (ref4 2 []) (fun u => (u.href 4).missing == 1) = true ∧
    after (.refMeasureWindow (10 ^ 9) 4 100000000) (ref4 2 []) (fun u => u.nat (El.hrefState 4) == 3) = true ∧
    after (.refMeasureWindow (10 ^ 11) 4 (-1)) ((ref4 1 []).setHref 4 { Href.fresh with goodSince := some 0 }) (fun u => u.nat (El.hrefState 4) == 2) = true ∧
    isPtpRef 0x30 = true ∧ ptpGood.ptpMeets 0 = true ∧ (ptpGood.ptpPort 0).qualified = false ∧
    after (.classQQualify (2 * 10 ^ 9) 0x30) ptpGood (fun u => u.qualified 0x30) = true ∧ isCoachRef 0x43 = true ∧
    (reverting.advance (10 ^ 12)).mayRevert 0 = true ∧ after (.refRevert (10 ^ 12) 0) reverting (fun u => u.nat El.refSelected == 4 && u.nat El.refSwitches == 1) = true ∧
    after (.dpllLock (10 ^ 10)) locking10 (fun u => u.nat El.timeState == 2) = true ∧
    (solo [(El.poEnable 4, 1)]).pulseDue 4 true = true ∧ after (.pulseOutputEdge 5 4 true) (solo [(El.poEnable 4, 1)]) (fun u => (u.pulse 4).high) = true := by decide +kernel

/-- The engine in a mode with every clock good, in SAFE_HOLD where `x` says so. -/
def clocks (mode : Nat) (x : Option Safe) (l : List (Nat × Nat)) : State := let s := base mode ([(El.clkState, 0x3FF)] ++ l)
  { s with refs := { s.refs with safe := x } }
def booting (fails : Nat) : State := let s := clocks 2 none []; { s with refs := { s.refs with clockFails := fails } }
/-- DVFS at a point with lag, or with headroom since tick 0. -/
def dvfs (point iface lag : Nat) : State := solo [(El.dvfsPoint, point), (El.dvfsIf, iface), (El.lagNow, lag)]
def settling : State := let s := dvfs 1 0 0; { s with refs := { s.refs with raise := some (2, 500) } }
theorem test_meets_ClocksGoOn : (clocks 4 none [(El.pdState 15, 0)]).clockUsed .casPll = false ∧
    after (.clockFailure 0 .casPll) (clocks 4 none [(El.pdState 15, 0)]) (fun u => !bitOf (u.nat El.clkState) (clockBit .casPll) && u.mode == 4) = true ∧
    (clocks 4 none []).clockUsed .casPll = true ∧ (clocks 4 none []).disp.changes = [] ∧ (booting 2).clockUsed .pll0 = true ∧ (booting 2).mode = 2 ∧
    after (.clockFailure 0 .pll0) (booting 2) (fun u => u.refs.clockFails == 3 && u.nat El.bootStatus == (booting 2).startCode .pll0) = true ∧
    (let s := clocks 3 (some ⟨1, 0, 4, 0, false, 0⟩) []
     clockSources.all (fun c => let q := s.setClk (s.goodBits .pll0) true; !q.clockUsed c || q.clockGood c) &&
       after (.clockReturn 0 .pll0) s (fun u => u.mode == 4 && u.refs.safe == none) &&
       after (.clockReturn 0 .pll0) (clocks 3 (some ⟨1, 0, 4, 4, false, 0⟩) []) (fun u => u.mode == 3 && u.refs.safe == some ⟨1, 0, 4, 4, true, 0⟩) &&
       after (.referenceWaitExpiry (5 * 10 ^ 9)) (clocks 3 (some ⟨1, 0, 4, 4, true, 0⟩) []) (fun u => u.mode == 4)) = true ∧
    after (.xoJudgement 0 true) (booting 0) (fun u => bitOf (u.nat El.clkState) 0) = true ∧
    after (.xoJudgement 0 false) (booting 2) (fun u => u.nat El.bootStatus == 0x31) = true ∧
    (clocks 4 none []).clockGood .xo = true ∧ after (.audrefJudgement 0 true) (clocks 4 none []) (fun u => bitOf (u.nat El.clkState) 1) = true ∧
    after (.pllLock 0 .casPll) (clocks 4 none [(El.clkState, 1)]) (fun u => bitOf (u.nat El.clkState) (clockBit .casPll) && u.mode == 4) = true ∧
    after (.sgmiiClockFailure 0) (net1 []) (fun u => u.nat (El.portLink 2) == 0) = true ∧
    (dvfs 1 0 1).refs.raise = none ∧ (dvfs 1 0 1).needsPoint3 = false ∧ 0 < (dvfs 1 0 1).clustersUp ∧ 1 < (dvfs 1 0 1).nat El.dvfsMax ∧
    after (.dvfsRaise 0 false) (dvfs 1 0 1) (fun u => (u.refs.raise).map (·.1) == some 2) = true ∧
    after (.dvfsRaise 0 false) (dvfs 1 1 1) (fun u => u.nat El.dvfsState == 2 && u.nat El.dvfsErrors == 1) = true ∧
    (dvfs 2 0 0).nat El.dvfsMin < 2 ∧ (dvfs 2 0 0).pathsFit 1 = true ∧ after (.dvfsLower (10 ^ 9) true) (dvfs 2 0 0) (fun u => u.nat El.dvfsPoint == 1) = true ∧
    after (.dvfsLower (10 ^ 9) false) (dvfs 2 1 0) (fun u => u.nat El.dvfsState == 2) = true ∧
    500 ≤ (settling.advance 500).time.tick ∧ settling.refs.raise = some (2, 500) := by decide +kernel

/-! ### Coach links, the courier and the twin -/

/-- Coach link 3 in a state, in a round of the base state. -/
def link3 (k : Link) (l : List (Nat × Nat)) : State := (let s := solo ([(El.lkEnable 3, 1), (El.lkState 3, 3), (El.engineNumber, 2)] ++ l)
  ({ s with rounds := { s.rounds with current := some 6, nextRound := 6, nextPulse := 7 } } : State)).setLink 3 k
def linkUp : Link := { Link.fresh with blockLock := true, matched := 16 }
def section9 : TimeSection := ⟨9, 0, 3, 16, 0, true, false, 0, 0, 1000, 3000, 5000, 0, 7000⟩
theorem test_meets_CoachLinksGoOn : (link3 linkUp []).linkOn 3 = true ∧
    after (.blockLock 0 3 false) (link3 linkUp []) (fun u => u.nat (El.lkState 3) == 1 && !(u.link 3).blockLock) = true ∧
    (link3 linkUp []).refusalOf section9 = 0 ∧ (link3 linkUp []).refusalOf { section9 with engine := 2 } = 1 ∧ (link3 linkUp []).sectionFits section9 = true ∧
    after (.timeSectionTimeout (10 ^ 9) 3) (link3 linkUp []) (fun u => u.nat (El.lkState 3) == 1) = true ∧ (link3 linkUp []).roundsNs 3 ≤ 10 ^ 9 ∧
    (link3 linkUp []).isCourier 3 = false ∧ (link3 linkUp []).inStep 3 = true ∧ (link3 linkUp []).chosen 3 = true ∧
    after (.sumsSection 0 3 5 [] [(255, [1, 2])]) (link3 linkUp []) (fun u => u.partOf 5 3 255 == [1, 2]) = true ∧
    0 < (link3 linkUp []).roundB ∧ after (.sumsSection 0 3 5 [0] [(255, [1, 2])]) (link3 linkUp []) (fun u => u.nat (El.lkCrcErr 3) == 1 && u.partOf 5 3 255 == []) = true ∧
    after (.channelsSection 0 3 4 4095 [0] [[7]]) (link3 linkUp []) (fun u => u.nat (El.lkCrcErr 3) == 1 && u.rounds.inTrays == []) = true ∧
    (link3 linkUp []).smpClk + 2000 * 65536 ≤ (link3 linkUp []).clkOf ((4 + 3) * (link3 linkUp []).roundB) ∧ (link3 linkUp []).pairLinks 3 = [3] ∧
    after (.channelsSection 0 3 4 4095 [] [[7]]) (link3 linkUp []) (fun u => Tab.get [] (Tab.get [] u.rounds.inTrays 7) (sigCoach (4096 * 3 + 4095)) == [7]) = true ∧
    after (.channelsSection (10 ^ 9) 3 4 4095 [] [[7]]) (link3 linkUp []) (fun u => u.nat (El.lkLate 3) == 1) = true ∧
    after (.tunnelSection 0 3 [0] [[1, 2]]) (link3 linkUp []) (fun u => u.nat (El.lkCrcErr 3) == 1) = true ∧
    3 < (link3 linkUp []).mode ∧ after (.sectionSend 0 3) (link3 { linkUp with ready := [0] } []) (fun u => (u.link 3).sending == some 0 && (u.link 3).ready == []) = true ∧
    tunnelBytes [1, 2] ≤ 16384 ∧ after (.sectionSend 0 3) (link3 { linkUp with tunnel := [[1, 2]] } []) (fun u => (u.link 3).sending == some 4) = true ∧
    (link3 linkUp [(El.twEnable, 1)]).isCourier 3 = true ∧ (link3 linkUp []).nat (El.lkState 3) ≠ 4 ∧ itemBytes (.digest 5 9) ≤ 4088 := by decide +kernel
/-- Round 6 waits for the part of bus 511 that link 3 sent in round 4. -/
def awaiting : State := let s := link3 linkUp []
  { s with mix := { s.mix with inSums := [(4, [(512 * 3 + 511, [1])])] } }
theorem test_meets_CoachLinksGoOn_waits : awaiting.rounds.current = some 6 ∧ awaiting.awaited (awaiting.lineUp 6 - 1) 511 = [3] ∧
    after (.sumWaitExpiry (10 ^ 9) 511) awaiting (fun u => u.mix.sumGone == [511] && u.nat (El.dbMissing 511) == 1) = true ∧
    (link3 linkUp [(El.lkFarQuality 3, 1)]).coachMeets 3 = true ∧
    after (.classQQualify (2 * 10 ^ 9) 0x43) (let s := link3 linkUp [(El.lkFarQuality 3, 1)]; { s with refs := { s.refs with coachSince := [(3, some 0)] } }) (fun u => u.qualified 0x43) = true := by decide +kernel
/-- One of a twin in a mode and role, with the courier link up. -/
def twin (mode role : Nat) (f : Twin → Twin) (l : List (Nat × Nat)) : State :=
  let s := (base mode ([(El.twEnable, 1), (El.twRole, role), (El.lkEnable 3, 1), (El.anchorState, 1), (El.engineNumber, 1)] ++ l)).setLink 3 { linkUp with ready := [1] }
  { s with twin := f s.twin, rounds := { s.rounds with nextPulse := 6, last := some 5 } }
theorem test_meets_CourierGoesOn : (twin 7 3 id []).courierOn = true ∧ ((twin 7 3 id []).link 3).blockLock = true ∧ (twin 7 3 id []).twinned = true ∧ (twin 7 3 id []).linkOn 3 = true ∧
    after (.courierSection 0 ⟨[], [.digest 5 9]⟩) (twin 7 3 id []) (fun u => Tab.get 0 u.twin.partnerDigests 5 == 10) = true ∧
    (twin 7 3 id []).nat (El.lkState 3) ≠ 4 ∧ after (.courierSection 0 ⟨[0], [.digest 5 9]⟩) (twin 7 3 id []) (fun u => u.nat (El.lkCrcErr 3) == 1) = true ∧
    after (.courierBulkSection 0 [] [1, 2]) (twin 7 3 id []) (fun u => u.twin.bulk == [1, 2]) = true ∧
    (twin 8 1 id []).nat El.twRefusal = 0 ∧
    (twin 8 1 id [(El.twPartnerEngine, 9)]).claim = 1 + 256 * (twin 8 1 id []).nat El.twHealth + 4096 * (twin 8 1 id []).nat El.twRank ∧
    (twin 7 3 id []).compares = true ∧ (twin 7 3 (fun x => { x with digests := [(5, 10)] }) []).compares = true ∧
    after (.digest 0 5 9) (twin 7 3 (fun x => { x with digests := [(5, 10)], run := 3 }) []) (fun u => u.twin.run == 0) = true ∧
    after (.digest 0 5 8) (twin 6 4 (fun x => { x with digests := [(5, 10)], run := 3 }) []) (fun u => u.twin.run == 4 && u.nat El.twMismatches == 1) = true ∧
    (twin 7 3 id [(El.twFailRounds, 3)]).asrcFollows = true ∧ after (.asrcPositions 0 5 [(31, 9, 2)]) (twin 7 3 id [(El.twFailRounds, 3)]) (fun u => u.twin.asrcRound == 6 && u.nat (El.agState 31) == 2 && Tab.get 0 u.sap.asrcPos 31 == 9) = true ∧
    after (.identity 0 0 0 0 0 0 9 0) (twin 8 1 id []) (fun u => u.nat El.twPartnerEngine == 9) = true ∧
    isTwinned El.twRank = false ∧ isTwinned (El.xpGain 0 0) = true ∧ isTwinned El.roundSize = true ∧ isDelayed El.roundSize = false ∧
    after (.change 0 9 4800 5 [(El.xpGain 0 0, .int 7)]) (twin 7 3 id []) (fun u => u.disp.changes.map (fun c => (c.eff, c.fid)) == [(4800, 5)]) = true ∧
    ((twin 6 4 id []).operate ⟨.peer 5 4, 0, 3⟩ readRec).1.map (·.body) = some [6] ∧
    ({ twin 7 3 id [] with bop := { (twin 7 3 id []).bop with forwarded := [(5, me, readRec)] } } : State).bop.forwarded.find? (fun q => q.1 = 5) = some (5, me, readRec) := by decide +kernel
/-- A claim line on which nobody else pulls. -/
def idle : ClaimLine := ⟨false, false, []⟩
def window5 (won handed driving : Bool) (x : Twin) : Twin := { x with window := some 5, won := won, handed := handed, driving := driving, watchdog := true }
/-- A SHADOW whose next round 6 waits for the ACTIVE's items. -/
def shadow6 : State := let s := twin 7 3 id [(El.twFailRounds, 3)]
  { s with rounds := { s.rounds with nextRound := 6, nextPulse := 7, waiting := [6] } }
/-- What an engine at rest would send its partner. -/
def snap1 : Machine.Snapshot := (twin 6 4 id []).freeze
theorem test_meets_TwinGoesOn : after (.hbPulse ⟨0, 40⟩) (twin 7 3 id []) (fun u => u.twin.silentPair == 0 && bitOf (u.nat El.twPaths) 1) = true ∧
    (twin 8 2 (fun x => { x with silentCourier := 200, silentPair := 200 }) [(El.twFailRounds, 3)]).silent 1 = true ∧
    after (.pathSilent 0 1) (twin 8 2 (fun x => { x with silentCourier := 200, silentPair := 200, resyncStep := 2 }) [(El.twFailRounds, 3)]) (fun u => u.twin.resyncStep == 0) = true ∧
    shadow6.courierWaits 6 = true ∧ shadow6.rounds.nextRound = 6 ∧ after (.courierWaitExpiry (10 ^ 9) 6) shadow6 (fun u => u.nat El.twRole == 5) = true ∧
    (twin 7 3 (fun x => { x with watchdog := true }) []).rounds.first < 6 ∧ (twin 7 3 (fun x => { x with watchdog := true }) []).arbitrates = true ∧
    after (.claimWindow 0 idle) (twin 7 3 (fun x => { x with watchdog := true }) [(El.twRank, 1)]) (fun u => u.twin.window == some 5 && u.twin.won) = true ∧
    after (.claimWindow 0 { idle with others := List.replicate 19 true }) (twin 7 3 (fun x => { x with watchdog := true }) []) (fun u => !u.twin.won && u.twin.present) = true ∧
    after (.claimWindow 0 idle) (twin 7 3 (fun x => { x with watchdog := true, silentCourier := 200, silentPair := 200 }) [(El.twFailRounds, 3)]) (fun u => u.twin.won && !u.twin.present) = true ∧
    after (.claimWindow 0 { idle with others := List.replicate 19 true }) (twin 7 3 (fun x => { x with watchdog := true, silentCourier := 200, silentPair := 200 }) [(El.twFailRounds, 3)]) (fun u => u.nat El.twRole == 5) = true ∧
    (twin 7 3 id []).handSample 5 ≤ ((twin 7 3 id []).advance (10 ^ 7)).sampleNow ∧
    after (.handover (10 ^ 7)) (twin 7 3 (window5 true false false) []) (fun u => u.mode == 6 && u.twin.handed) = true ∧
    after (.handover (10 ^ 7)) (twin 6 4 (window5 false false true) []) (fun u => u.mode == 7 && !u.twin.driving) = true ∧
    after (.handover (10 ^ 7)) (twin 6 4 (window5 true false true) []) (fun u => u.mode == 6 && u.twin.handed) = true ∧
    after (.driverEnable (10 ^ 7)) (twin 6 4 (window5 true true false) []) (fun u => u.twin.driving && u.drives) = true ∧
    ((twin 8 1 id []).advance (10 ^ 11)).time.tick = 10 ^ 11 ∧ (twin 8 1 id []).nat El.twAloneWait * 1000000 ≤ 10 ^ 11 ∧
    after (.aloneWaitExpiry (10 ^ 11)) (twin 8 1 id []) (fun u => u.mode == 6) = true ∧
    (twin 7 3 (fun x => { x with penaltyAt := [(4, 1)] }) []).penaltyHeld 4 = true ∧
    after (.penaltyExpiry (10 ^ 10) 4) (twin 7 3 (fun x => { x with penaltyAt := [(4, 1)] }) []) (fun u => !u.penaltyHeld 4) = true ∧
    after (.resyncSettingsReceived 0 []) (twin 8 2 (fun x => { x with resyncStep := 1 }) []) (fun u => u.twin.resyncStep == 2) = true ∧
    after (.snapshot 0) (twin 6 4 (fun x => { x with partnerRole := 2 }) []) (fun u => u.twin.frozen.isSome && (u.link 3).ready.contains 5) = true ∧
    after (.snapshotReceived 0 snap1) (twin 8 2 (fun x => { x with resyncStep := 2 }) []) (fun u => u.twin.resyncStep == 3 && u.nat El.twResyncProgress == 100) = true ∧
    after (.replayDone 0) (twin 8 2 (fun x => { x with resyncStep := 3 }) []) (fun u => u.twin.resyncStep == 4) = true ∧
    after (.resyncVerifyDone 0) (twin 8 2 (fun x => { x with resyncStep := 4, verified := 64 }) []) (fun u => u.mode == 7 && u.nat El.twRole == 3) = true := by decide +kernel

/-! ### Memory, power stages, resets, update -/

def req1 (cls : DramClass) (data : Option (List Byte)) (wait : Bool) (ecc : Nat) : DramReq := ⟨cls, 64, data, 3, false, wait, ecc, none⟩
/-- Controller 0 with something held, waiting or redirected. -/
def chan0 (f : Chan → Chan) (mode : Nat) : State := let s := base mode []
  { s with mem := { s.mem with chans := [(0, f (s.chan 0))] } }
def held1 : HeldReq := ⟨4, 0, req1 .first none true 0, false⟩
theorem test_meets_MemoryGoesOn_dram : ((conf []).placeOf 64).map (·.1) = some 0 ∧ (conf []).chanRuns 0 = true ∧ ((conf []).chan 0).held = [] ∧
    after (.dramRequest 0 (req1 .first none true 0)) (conf []) (fun u => (u.chan 0).held.map (·.promoted) == [false]) = true ∧
    after (.dramRequest 0 (req1 .first (some [1, 2, 3]) false 0)) (conf []) (fun u => u.dramRead 63 5 == [0, 1, 2, 3, 0]) = true ∧
    after (.dramRequest 0 (req1 .second none false 1)) (conf []) (fun u => u.mem.dramOut == ([0, 0, 0], false)) = true ∧
    classLimit .first = some 2000 ∧ after (.promotion 2001 0 4) (chan0 (fun c => { c with held := [held1] }) 4) (fun u => (u.chan 0).held.map (·.promoted) == [true] && u.nat (El.dcPromoted 0) == 1) = true ∧
    after (.refresh 0 0 15) (conf []) (fun u => Tab.get 0 (u.chan 0).refreshed 15 == 1) = true ∧
    ((conf []).advance (10 ^ 12)).readsDue 0 = true ∧ after (.retrain (10 ^ 12) 0) (conf []) (fun u => u.nat (El.dcRetrains 0) == 1) = true ∧
    after (.retrain (10 ^ 12) 0) (chan0 (fun c => { c with held := [{ held1 with promoted := true }] }) 4) (fun u => (u.chan 0).toCorrect && u.nat (El.dcRetrains 0) == 0) = true ∧
    after (.rowRedirect 0 0 9) (chan0 (fun c => { c with waiting := [9] }) 4) (fun u => (u.chan 0).entries == [9] && u.flash.repair == [.row 0 9]) = true ∧
    after (.rowRedirect 0 0 9) (let s := chan0 (fun c => { c with waiting := [9] }) 5; s.setN El.anchorState 1) (fun u => (u.chan 0).copied == [9] && u.flash.repair == []) = true ∧
    after (.postPackageRepair 0 0 9 true) (chan0 (fun c => { c with entries := [9] }) 10) (fun u => (u.chan 0).entries == [] && u.nat (El.dcRepaired 0) == 1) = true ∧
    after (.postPackageRepair 0 0 9 false) (chan0 (fun c => { c with entries := [9] }) 10) (fun u => (u.chan 0).forGood == [9]) = true ∧
    after (.patrolScrub 0 0 64 1) (conf []) (fun u => u.nat (El.dcCe 0) == 1 && Tab.get 0 (u.chan 0).scrubbed 1 == 1) = true ∧
    after (.patrolScrub 0 0 64 2) (conf []) (fun u => u.nat (El.dcUe 0) == 1 && u.penaltyHeld 1) = true ∧
    after (.patrolScrub 5 0 64 2) (chan0 (fun c => { c with scrubbed := [(1, 1)] }) 4) (fun u => u.nat (El.dcUe 0) == 0) = true := by decide +kernel
/-- R454: a block of the window that cannot be corrected. -/
theorem test_meets_DomainWrites_lost : ((chan0 (fun c => { c with bad := [(65536, 9)] }) 10).lostIn 65534 3).isSome = true ∧
    (((chan0 id 10).placeOf 65534).isSome && heeds (chan0 id 10) opRead me { windowRead with body := leBytes 4 65534 ++ leBytes 2 1 }) = true := by decide +kernel
/-- Island 19 is tested; an access by the interconnect's masters 12 and 13, and one of a core's code. -/
def tested (mode : Nat) (spares : List (Nat × Nat × Nat)) : State := let s := base mode [(El.bistEnable, 1)]
  { s with mem := { s.mem with spares := spares } }
def burst1 (m a n : Nat) (w : Option (List Byte)) : Burst := ⟨m, a, n, w, false⟩
def opened (l : List (Nat × Word)) (mode : Nat) : State := let s := base mode []
  { s with mem := { s.mem with rgn := l } }
/-- The windows are being swapped, and an access to one of them waits. -/
def swapping : State := let s := conf []; { s with mem := { s.mem with remapBusy := true } }
theorem test_meets_MemoryGoesOn_swap : (burstRange (burst1 13 0x1000 1 none)).any inWindow = true ∧ swapping.domainUp 1 = true ∧
    after (.crossbarAccess 0 (burst1 13 0x1000 1 none)) swapping (fun u => u.mem.heldBursts == [burst1 13 0x1000 1 none]) = true ∧
    after (.remapSwap 0) swapping (fun u => u.mem.remap && !u.mem.remapBusy) = true := by decide +kernel
theorem test_meets_MemoryGoesOn_bist : (tested 4 []).on El.bistEnable = true ∧ (tested 4 []).domainUp 19 = true ∧ (tested 4 []).testSkips 19 0 = false ∧
    after (.bistRegion 0 19 0 7 0) (tested 4 []) (fun u => u.nat El.bistRegions == 1) = true ∧
    after (.bistRegion 0 19 0 7 1) (tested 4 [(65536 * 19, 3, 1)]) (fun u => u.nat El.bistRepairs == 1 && u.flash.repair == [.sram 19 0 7 1]) = true ∧
    after (.bistRegion 0 19 0 7 2) (tested 4 [(65536 * 19, 3, 1)]) (fun u => u.nat El.bistRepairs == 1) = true ∧
    after (.bistRegion 0 19 0 7 1) (tested 4 [(65536 * 19, 4, 1)]) (fun u => u.nat El.bistUnrepaired == 1 && u.penaltyHeld 1) = true ∧
    after (.bistRegion 0 19 0 7 3) (tested 4 []) (fun u => u.nat El.sramCe == 1) = true ∧
    (tested 5 []).mode = 5 ∧
    (burstRange (burst1 13 0x90000000 1 none)).all (fun a => (conf []).target a == .none) = true ∧
    after (.crossbarAccess 0 (burst1 13 0x90000000 1 none)) (conf []) (fun u => u.nat El.fabDecodeErr == 1 && u.mem.xbarOut.1 == 1) = true ∧
    (burstRange (burst1 13 0x20000000 1 none)).all (fun a => (conf []).target a == .sram a) = true ∧
    (conf []).burstAllowed (burst1 13 0x20000000 1 (some (List.replicate 16 7))) = false ∧
    after (.crossbarAccess 0 (burst1 13 0x20000000 1 (some (List.replicate 16 7)))) (conf []) (fun u => u.nat El.fabDenied == 1 && u.mem.xbarOut.1 == 2) = true ∧
    (opened [(0, 0x20000), (1, 0x20000), (2, 7)] 4).burstAllowed (burst1 0 0x20000000 1 (some (List.replicate 16 7))) = true ∧
    after (.crossbarAccess 0 (burst1 0 0x20000000 1 (some (List.replicate 16 7)))) (opened [(0, 0x20000), (1, 0x20000), (2, 7)] 4) (fun u => u.mem.xbarOut == (0, []) && u.busByte 0x2000000F == 7 && Tab.get 0 u.mem.sram 0x20000010 == 0) = true ∧
    after (.crossbarAccess 0 (burst1 0 0x20000000 1 none)) (opened [(0, 0x20000), (1, 0x20000), (2, 7)] 4) (fun u => u.mem.xbarOut == (0, List.replicate 16 0)) = true := by decide +kernel
/-- Channel 31 of the power stages, driven in SOLO. -/
def psc31 (f : PscCh → PscCh) (l : List (Nat × Nat)) : State := (solo ([(El.pgFsw 3, 600000)] ++ l)).setPscCh 31 (f ((solo []).pscCh 31))
/-- Channel 31 in a step of a lead test that measured v / i ohms. -/
def lead31 (step : Nat) (v i : Int) : State := psc31 (fun x => { x with step := step, loop := { PscLoop.fresh with vPos := v, iPos := i } })
  [(El.pscRMin 31, 2000), (El.pscRMax 31, 4000)]
theorem test_meets_PowerStagesGoOn : (psc31 (fun x => { x with step := 5 }) []).pscSwitches 31 = true ∧
    (psc31 (fun x => { x with step := 5 }) []).pscBlanked 31 = false ∧ ((psc31 (fun x => { x with step := 5 }) []).pscCh 31).cutPeriod = none ∧
    after (.overCurrent 0 31) (psc31 (fun x => { x with step := 5, cutPeriod := some ((psc31 id []).pscPeriod 31) }) []) (fun u => u.nat (El.pscCutCycles 31) == 0) = true ∧
    after (.overCurrent 0 31) (psc31 (fun x => { x with step := 5 }) []) (fun u => (u.pscCh 31).cuts == [0] && u.nat (El.pscCutCycles 31) == 1) = true ∧
    after (.overCurrent 900000 31) (psc31 (fun x => { x with step := 5, cuts := (List.range 32).map (· * 2000) }) []) (fun u => (u.pscCh 31).shut == 1 && u.nat (El.pscState 31) == 4) = true ∧
    after (.overCurrent 900000 31) (psc31 (fun x => { x with step := 5, cuts := (List.range 32).map (· * 2000), retryRun := true, failed := 5 }) []) (fun u => (u.pscCh 31).shut == 2 && u.nat (El.pscState 31) == 5) = true ∧
    after (.senseClockReturn 0 31) (psc31 (fun x => { x with step := 1 }) [(El.pscTestOnStart 31, 1)]) (fun u => (u.pscCh 31).step == 2) = true ∧
    ((lead31 2 4 1).pscCh 31).loop.measured 0 false = 4000 ∧ ((lead31 2 4 0).pscCh 31).loop.measured 7 false = 7 ∧
    after (.leadTestDone 50000000 31 0 false) (lead31 2 4 1) (fun u => (u.pscCh 31).step == 3 && u.nat (El.pscMeasR 31) == 4000) = true ∧
    after (.leadTestDone 50000000 31 0 false) (lead31 2 4001 1000) (fun u => (u.pscCh 31).shut == 1) = true ∧
    after (.leadTestDone 50000000 31 0 false) (lead31 6 70 1) (fun u => (u.pscCh 31).step == 0 && u.nat (El.pscMeasR 31) == 65535) = true ∧
    64 * 1000000000 ≤ 106667 * (psc31 id []).nat (El.pgFsw 3) ∧
    after (.bootstrapCharge 106667 31) (psc31 (fun x => { x with step := 3 }) []) (fun u => (u.pscCh 31).step == 4) = true ∧
    (psc31 id []).softNs 31 ≤ 10 ^ 9 ∧ after (.softStartEnd (10 ^ 9) 31) (psc31 (fun x => { x with step := 4 }) [(El.pscOn 31, 1)]) (fun u => (u.pscCh 31).step == 5 && u.nat (El.pscState 31) == 3) = true ∧
    (psc31 id []).followsPsc = true ∧ (psc31 id []).roundsRun = true ∧ 0 ≤ (psc31 id []).firstSample (psc31 id []).roundIssued ∧
    after (.retryEpisodeEnd (10 ^ 10) 31) (psc31 (fun x => { x with runSince := some 0, retryRun := true, failed := 3 }) []) (fun u => !(u.pscCh 31).retryRun && (u.pscCh 31).failed == 0) = true := by decide +kernel
/-- The AO supply is off; the part sleeps; FAULT stands. -/
def unpowered : State := let s := base 0 []; { s with sys := { s.sys with powered := false } }
def fault11 : State := base 11 [(El.faultAutoReset, 5)]
theorem test_meets_ResetsGoOn : unpowered.sys.powered = false ∧ after (.powerOn 0) unpowered (fun u => u.mode == 2 && u.nat El.resetCause == 1) = true ∧
    after (.powerFail 0) (conf []) (fun u => u.mode == 0 && !u.sys.powered) = true ∧
    after (.resetPin ⟨0, 10000⟩) (conf []) (fun u => u.mode == 2 && u.nat El.resetCause == 2) = true ∧
    after (.debugReset 0) (conf [(El.dbgState, 1)]) (fun u => u.nat El.resetCause == 4) = true ∧
    after (.controlWatchdog 0) (conf []) (fun u => u.nat El.resetCause == 6) = true ∧
    after (.faultAutoReset (5 * 10 ^ 9)) fault11 (fun u => u.nat El.resetCause == 7) = true ∧
    after (.wake ⟨0, 10000⟩) (base 1 []) (fun u => u.nat El.resetCause == 5) = true ∧ after (.resetPin ⟨0, 10000⟩) (base 1 []) (fun u => u.nat El.resetCause == 5) = true ∧
    (base 2 []).nat El.bootStatus = 0 ∧ (base 2 []).romChosen = false ∧ (base 2 [(El.bootFallback, 1)]).romChosen = true ∧ (base 2 []).flash.romPlan.2.1 = [0, 1] ∧
    (base 2 []).sys.flashReset ≤ ((base 2 []).advance 10000).time.tick ∧ [8, 8, 8, 8].take (base 2 []).variant.dramChannels = List.replicate (base 2 []).variant.dramChannels 8 ∧
    after (.bootComplete ⟨10000, [8, 8, 8, 8], true, none⟩) (base 2 []) (fun u => u.nat El.bootStatus == 0x21) = true ∧
    after (.overTemperature 0 (-5)) (conf []) (fun u => u.mode == 4 && u.int El.dieTemp == -5) = true ∧ (conf []).int El.thFault < 30000 ∧
    after (.supplyFault 0 ⟨9, 33000⟩) (conf []) (fun u => u.mode == 4 && Tab.get none u.sys.rails 9 == some 33000) = true ∧
    (let s := conf []; ({ s with sys := { s.sys with rails := [(9, some 1)] } } : State).railOk 9) = false ∧ (conf []).sys.powered = true ∧
    (base 10 []).mode = 10 := by decide +kernel
/-- ACTIVATING entered from a mode, at a step, with slot 1 as it is given. -/
def activated (actFrom step : Nat) (slot : Slot) (l : List (Nat × Nat)) : State := let s := base 9 l
  { s with sys := { s.sys with actFrom := actFrom, actStep := step }, flash := { s.flash with slotB := slot } }
theorem test_meets_UpdateGoesOn : (conf []).on El.settingsAutosave = true ∧
    after (.settingsAutosave 7) (let s := conf []; { s with sys := { s.sys with autosaveAt := some 7, settingsDirty := true } }) (fun u => !u.sys.settingsDirty && u.flash.settings.length == 1) = true ∧
    after (.updateVerifyDone ⟨0, true⟩) (conf [(El.updState, 3)]) (fun u => u.nat El.updState == 6 && u.nat El.updFail == 1) = true ∧
    (activated 5 1 .empty [(El.anchorState, 1)]).anchored = true ∧ (activated 5 1 .empty [(El.anchorState, 1)]).activationRamp ≤ ((activated 5 1 .empty [(El.anchorState, 1)]).advance (10 ^ 8)).sampleNow ∧
    after (.activationRampDownEnd (10 ^ 8)) (activated 5 1 .empty [(El.anchorState, 1)]) (fun u => u.sys.actStep == 2) = true ∧
    (activated 5 2 .empty []).slotFail true ((activated 5 2 .empty []).flash.slot (activated 5 2 .empty []).otherSlot) = 1 ∧
    (activated 5 2 .delivered []).slotFail true .delivered = 0 ∧ (activated 5 2 .delivered []).slotFail false .delivered = 8 ∧
    after (.activationRestart ⟨0, true⟩) (activated 4 2 .empty []) (fun u => u.mode == 2 && u.nat El.bootFallback == 1) = true ∧
    after (.activationResume 0) (activated 4 3 .delivered []) (fun u => u.mode == 4) = true ∧ (conf []).tapOn = true ∧ (conf []).nat El.dbgState = 0 ∧
    (conf []).flash.debugOff = false ∧ after (.jtagToken 0 [] 1) (conf []) (fun u => u.sys.challenge == []) = true := by decide +kernel

end Sys2Proof.Tests
end

section
/-! SUPPORT. Moves to, from and within accumulators (R176, R183): the parts of an accumulator word, what an accumulate
leaves in the core, and what the instructions that load, read and shift an accumulator answer. -/

namespace Sys2Proof.Machine

/-! ### Accumulator words (R168, R176) -/

@[simp] theorem lowOf_accParts (g : BitVec 8) (h l : Word) : lowOf (accParts g h l) = l :=
  BitVec.extractLsb'_append_eq_right

@[simp] theorem highOf_accParts (g : BitVec 8) (h l : Word) : highOf (accParts g h l) = h :=
  (BitVec.extractLsb'_append_eq_of_le (by decide)).trans BitVec.extractLsb'_append_eq_right

/-- A word that is loaded as a whole keeps its value, 32 places up: `guard` is its sign and `low` is 0. -/
theorem toInt_accOfWord (v : Word) : (accOfWord v).toInt = v.toInt * 2 ^ 32 := by
  have hsign : (v.signExtend 40).toInt = v.toInt := BitVec.toInt_signExtend_of_le (by decide)
  calc (accOfWord v).toInt = 2 ^ 32 * (v.signExtend 40).toInt + ((0 : BitVec 32).toNat : Int) := BitVec.toInt_append
    _ = v.toInt * 2 ^ 32 := by rw [hsign]; exact (Int.add_zero _).trans (Int.mul_comm _ _)

/-! ### Cores that agree in their data -/

theorem Core.SameData.getD {m c' : Core} (h : m.SameData c') (r : DReg) : c'.getD r = m.getD r :=
  congrArg (·.get r) h.d

theorem Core.SameData.getA {m c' : Core} (h : m.SameData c') (n : Acc) : c'.getA n = m.getA n :=
  congrArg (·.get n) h.a

/-! ### An accumulate (R183) -/

@[simp] theorem Core.markOverflow_getA (c : Core) (n : Acc) : c.markOverflow.getA n = c.getA n := by
  unfold Core.markOverflow
  split
  · rfl
  · split <;> rfl

@[simp] theorem Core.markOverflow_flag (c : Core) (i : Nat) : c.markOverflow.flag i = c.flag i := by
  unfold Core.markOverflow
  split
  · rfl
  · split <;> rfl

theorem Core.getA_accumulate_same (c : Core) (sat : Bool) (n : Acc) (z : Int) :
    (c.accumulate sat n z).getA n = clip72 sat z := by
  have hset : (c.setA n (clip72 sat z)).getA n = clip72 sat z := c.getA_setA_same n _
  unfold Core.accumulate
  split
  · exact (Core.markOverflow_getA _ n).trans hset
  · exact hset

/-- `GVn` is sticky: an accumulate sets it when it overflows, and leaves it as it was when not. -/
theorem Core.flag_accumulate_gv (c : Core) (sat : Bool) (n : Acc) (z : Int) :
    (c.accumulate sat n z).flag (4 + n.val) = (c.flag (4 + n.val) || out72 z) := by
  unfold Core.accumulate
  cases hout : out72 z with
  | true => simp [Core.raiseGV, Core.flag_setFlag _ _ _ _ (show 4 + n.val < 16 by omega)]
  | false => exact (Bool.or_false _).symm

/-! ### Instructions on accumulators -/

theorem Core.run1_clra (c : Core) (an : Acc) :
    c.run1 (.clra an) = c.complete [] [(.a an, .alu)] 0 (fun k => k.setA an 0) := rfl

theorem Core.run1_sha (c : Core) (sat : Bool) (an : Acc) (sh : BitVec 6) :
    c.run1 (.sha sat an sh) =
      c.complete [(.a an, .accRead)] [(.a an, .alu)] 0 (fun k => k.accumulate sat an (shaValue (k.getA an) sh)) := rfl

/-- What an instruction answers that completes and puts `v` in accumulator `an`: it sets no flag and marks no overflow. -/
theorem CoreAnswers.of_setA {i : Instr} {s : State} {k : CoreId} {d : DspInsn} {uses : List (Res × Use)}
    {makes : List (Res × Prod)} {eff : Core → Core} {an : Acc} {v : BitVec 72} {p : Core → Prop}
    (he : exec i s = .next (s.runDsp k d)) (hr : s.ready k d) (hi : (s.core k.c k.j).Inside)
    (hc : (s.core k.c k.j).run1 d = (s.core k.c k.j).complete uses makes 0 eff)
    (hv : ∀ n, eff ((s.core k.c k.j).spend n) = ((s.core k.c k.j).spend n).setA an v)
    (hp : ∀ c', c'.getA an = v ∧ c'.overflowed = (s.core k.c k.j).overflowed ∧ (s.core k.c k.j).Keeps c' { a := [an] } → p c') :
    CoreAnswers i s k p := by
  refine .of_complete he hr hi hc (w := { a := [an] }) (fun n => ?_) (fun n c' hs hk => ?_)
  · rw [hv]
    exact (Core.EffKeeps.refl _ _ (by simp)).setA an v (by simp)
  · rw [hv] at hs
    exact hp c' ⟨(hs.getA an).trans (Core.getA_setA_same _ an v), hs.overflowed, hk⟩

/-- The same for an operation that loads an accumulator. -/
theorem CoreAnswers.of_load {i : Instr} {s : State} {k : CoreId} {d : DspInsn} {uses : List (Res × Use)}
    {eff : Core → Core} {an : Acc} {v : BitVec 72} {p : Core → Prop}
    (he : exec i s = .next (s.runDsp k d)) (hr : s.ready k d) (hi : (s.core k.c k.j).Inside)
    (hc : (s.core k.c k.j).run1 d = (s.core k.c k.j).toAcc an uses eff)
    (hv : ∀ n, eff ((s.core k.c k.j).spend n) = ((s.core k.c k.j).spend n).setA an v)
    (hp : ∀ c', c'.getA an = v ∧ c'.overflowed = (s.core k.c k.j).overflowed ∧ (s.core k.c k.j).Keeps c' { a := [an] } → p c') :
    CoreAnswers i s k p :=
  .of_setA he hr hi hc hv hp

/-- What an instruction answers that delivers the part `v` of an accumulator to data register `rd`: it sets no flag. -/
theorem CoreAnswers.of_part {i : Instr} {s : State} {k : CoreId} {d : DspInsn} {an : Acc} {rd : DReg} {eff : Core → Core} {v : Word}
    (he : exec i s = .next (s.runDsp k d)) (hr : s.ready k d) (hi : (s.core k.c k.j).Inside)
    (hc : (s.core k.c k.j).run1 d = (s.core k.c k.j).fromAcc an rd eff)
    (hv : ∀ n, eff ((s.core k.c k.j).spend n) = ((s.core k.c k.j).spend n).setD rd v) :
    CoreAnswers i s k (fun c' => c'.getD rd = v ∧ (s.core k.c k.j).Keeps c' { d := [rd] }) := by
  refine .of_fromAcc he hr hi hc (w := { d := [rd] }) (fun n => ?_) (fun n c' hs hk => ?_)
  · rw [hv]
    exact (Core.EffKeeps.refl _ _ (by simp)).setD rd v (by simp)
  · rw [hv] at hs
    exact ⟨(hs.getD rd).trans (Core.getD_setD_same _ rd v), hk⟩

/-- SHA is an accumulate of the shifted value (R183, R218). -/
theorem CoreAnswers.sha {s : State} {k : CoreId} {sat : Bool} {an : Acc} {sh : BitVec 6}
    (hr : s.ready k (.sha sat an sh)) (hi : (s.core k.c k.j).Inside) :
    CoreAnswers (.sha k sat an sh) s k (fun c' =>
      let z := shaValue ((s.core k.c k.j).getA an) sh
      c'.getA an = clip72 sat z ∧ c'.flag (4 + an.val) = ((s.core k.c k.j).flag (4 + an.val) || out72 z) ∧
        (s.core k.c k.j).Keeps c' { a := [an], sr := [4 + an.val] }) := by
  have hgv : 4 + an.val < 9 := by omega
  refine .of_complete rfl hr hi (Core.run1_sha _ _ _ _) (w := { a := [an], sr := [4 + an.val] }) (fun n => ?_) (fun n c' hs hk => ⟨?_, ?_, hk⟩)
  · exact (Core.EffKeeps.refl _ _ (by simpa using hgv)).accumulate sat an _ (by simp) (by simp)
  · exact (hs.getA an).trans (Core.getA_accumulate_same _ sat an _)
  · exact (hs.sr _ hgv).trans (Core.flag_accumulate_gv _ sat an _)

/-! ### The statement -/

/-- Settles O8: each load is one write of the accumulator, each read one write of a data register, and SHA one accumulate. -/
theorem accumulatorMoves : Obligations.AccumulatorMoves := by
  unfold Obligations.AccumulatorMoves
  intro s k sat rd ra an sh imm c old gives gets hi
  refine ⟨fun hr => ?lda, fun hr => ?ldia, fun hr => ?ldag, fun hr => ?ldah, fun hr => ?ldal, fun hr => ?clra, fun hr => ?stag,
    fun hr => ?stah, fun hr => ?stal, fun hr => ?sha⟩
  case lda => exact .of_load rfl hr hi rfl (fun _ => rfl) fun c' h => ⟨h, h.1 ▸ toInt_accOfWord _⟩
  case ldia => exact .of_load rfl hr hi rfl (fun _ => rfl) fun c' h => ⟨h, h.1 ▸ toInt_accOfWord _⟩
  case ldag =>
    exact .of_load rfl hr hi rfl (fun _ => rfl) fun c' h => ⟨h, h.1 ▸ highOf_accParts _ _ _, h.1 ▸ lowOf_accParts _ _ _⟩
  case ldah => exact .of_load rfl hr hi rfl (fun _ => rfl) fun c' h => ⟨h, h.1 ▸ highOf_accParts _ _ _⟩
  case ldal => exact .of_load rfl hr hi rfl (fun _ => rfl) fun c' h => ⟨h, h.1 ▸ lowOf_accParts _ _ _⟩
  case clra => exact .of_setA rfl hr hi (Core.run1_clra _ _) (fun _ => rfl) fun c' h => h
  case stag => exact .of_part rfl hr hi rfl fun _ => rfl
  case stah => exact .of_part rfl hr hi rfl fun _ => rfl
  case stal => exact .of_part rfl hr hi rfl fun _ => rfl
  case sha => exact .sha hr hi

end Sys2Proof.Machine
end

section
/-! SUPPORT. Registers by number and through a write (R168, R210): `regOf` inverts `regCode`, what a written register reads
back, and that a write leaves the other registers. -/

namespace Sys2Proof.Machine

/-! ### Register numbers (R210) -/

theorem regOf_regCode (r : Reg) : regOf (regCode r) = some r := by
  cases r with
  | d i => revert i; decide
  | p i => revert i; decide
  | n i => revert i; decide
  | l i => revert i; decide
  | b i => revert i; decide
  | lc i => revert i; decide
  | sr => rfl
  | cyc => rfl
  | job => rfl

/-- Each range of R210 numbers its registers from its first number on, so the number comes back from the register. -/
theorem regCode_of_regOf {n : Nat} {r : Reg} (h : regOf n = some r) : regCode r = n := by
  unfold regOf at h
  split_ifs at h <;> obtain rfl := Option.some.inj h <;> simp only [regCode, Fin.val_ofNat] <;> omega

theorem regOf_eq_some_iff (n : Nat) (r : Reg) : regOf n = some r ↔ n = regCode r :=
  ⟨fun h => (regCode_of_regOf h).symm, fun h => h ▸ regOf_regCode r⟩

theorem regWritable_eq_false_iff (r : Reg) : regWritable r = false ↔ r = .cyc ∨ r = .job := by
  cases r <;> simp [regWritable]

/-! ### Reading a register after a write (R168, R210) -/

/-- SR takes the bits below `LD` from the value, and keeps `LD` and the reserved bits. -/
theorem Core.writeSR_sr_setWidth (c : Core) (v : Word) :
    (c.writeSR (v.setWidth 16)).sr.setWidth 32 = (v &&& 0x1FF#32) ||| (c.sr.setWidth 32 &&& 0xFE00#32) := by
  have hnew : (v.setWidth 16 &&& srWritable).setWidth 32 = v &&& 0x1FF#32 := by
    have hmod (x : Nat) : x &&& 0x1FF = x % 512 := Nat.and_two_pow_sub_one_eq_mod x 9
    refine BitVec.setWidth_and.trans (BitVec.eq_of_toNat_eq ?_)
    calc ((v.setWidth 16).setWidth 32 &&& 0x1FF#32).toNat
        = ((v.setWidth 16).setWidth 32).toNat % 512 := (BitVec.toNat_and _ _).trans (hmod _)
      _ = v.toNat % 512 := by rw [BitVec.toNat_setWidth, BitVec.toNat_setWidth]; omega
      _ = (v &&& 0x1FF#32).toNat := ((BitVec.toNat_and _ _).trans (hmod _)).symm
  have hold : (c.sr &&& ~~~srWritable).setWidth 32 = c.sr.setWidth 32 &&& 0xFE00#32 := BitVec.setWidth_and
  calc (c.writeSR (v.setWidth 16)).sr.setWidth 32
      = (v.setWidth 16 &&& srWritable).setWidth 32 ||| (c.sr &&& ~~~srWritable).setWidth 32 := BitVec.setWidth_or
    _ = (v &&& 0x1FF#32) ||| (c.sr.setWidth 32 &&& 0xFE00#32) := by rw [hnew, hold]

/-- A write of one register leaves what every other register reads. -/
theorem Core.readReg_writeReg_ne (c : Core) (r q : Reg) (v cyc : Word) (h : q ≠ r) :
    (c.writeReg r v).readReg cyc q = c.readReg cyc q := by
  cases r with
  | d i => cases q with
    | d j => exact c.getD_setD_ne i j v (fun e => h (congrArg Reg.d e))
    | _ => rfl
  | p i => cases q with
    | p j => exact congrArg (BitVec.setWidth 32) (c.getP_setP_ne i j _ (fun e => h (congrArg Reg.p e)))
    | _ => rfl
  | n i => cases q with
    | n j => exact congrArg (BitVec.signExtend 32) (Vector.get_set_ne c.n i j _ (fun e => h (congrArg Reg.n e)))
    | _ => rfl
  | l i => cases q with
    | l j => exact congrArg (BitVec.setWidth 32) (Vector.get_set_ne c.l i j _ (fun e => h (congrArg Reg.l e)))
    | _ => rfl
  | b i => cases q with
    | b j => exact congrArg (BitVec.setWidth 32) (Vector.get_set_ne c.b i j _ (fun e => h (congrArg Reg.b e)))
    | _ => rfl
  | lc i => cases q with
    | lc j => exact congrArg (BitVec.setWidth 32) (Vector.get_set_ne c.lc i j _ (fun e => h (congrArg Reg.lc e)))
    | _ => rfl
  | sr => cases q with
    | sr => exact absurd rfl h
    | _ => rfl
  | cyc => rfl
  | job => rfl

/-! ### The statement -/

/-- Settles O10: `regOf` inverts `regCode`, and each register is one field, or one place of a vector, that a write sets. -/
theorem registerWrites : Obligations.RegisterWrites := by
  unfold Obligations.RegisterWrites
  intro c r q v cyc
  refine ⟨fun n => ?number, regWritable_eq_false_iff r, fun hw => ?same, fun _ hq => c.readReg_writeReg_ne r q v cyc hq⟩
  case number => cases r <;> exact regOf_eq_some_iff n _
  case same =>
    cases r with
    | d i => exact c.getD_setD_same i v
    | p i => exact congrArg (BitVec.setWidth 32) (c.getP_setP_same i _)
    | n i => exact congrArg (BitVec.signExtend 32) (Vector.get_set_same c.n i _)
    | l i => exact congrArg (BitVec.setWidth 32) (Vector.get_set_same c.l i _)
    | b i => exact congrArg (BitVec.setWidth 32) (Vector.get_set_same c.b i _)
    | lc i => exact congrArg (BitVec.setWidth 32) (Vector.get_set_same c.lc i _)
    | sr => exact c.writeSR_sr_setWidth v
    | cyc => exact absurd hw (by decide)
    | job => exact absurd hw (by decide)

end Sys2Proof.Machine
end

section
/-! SUPPORT. Pointer arithmetic (R172, R211): the value of a pointer after a linear and after a circular step. -/

namespace Sys2Proof.Machine

theorem toNat_stepPtr_linear (p b : BitVec 16) (n : Int) : ((stepPtr p 0 b n).toNat : Int) = (p.toNat + n) % 65536 := by
  rw [stepPtr, if_pos rfl, BitVec.toNat_ofInt]
  exact Int.toNat_of_nonneg (Int.emod_nonneg _ (by decide))

/-- A circular step lands on the place `q` from `b` on; the sum wraps at 16 bits. -/
theorem toNat_stepPtr_circular {p l b : BitVec 16} {n : Int} {q : Nat} (hl : l ≠ 0)
    (hq : (q : Int) = ((p.toNat : Int) - b.toNat + n) % (min l.toNat 32768 : Nat)) :
    (stepPtr p l b n).toNat = (b.toNat + q) % 65536 := by
  rw [stepPtr, if_neg hl, BitVec.toNat_ofInt, ← hq]
  omega

/-- The place of a circular line that a step leads to. -/
theorem exists_circular_place {l : BitVec 16} (hl : l ≠ 0) (z : Int) :
    ∃ q : Nat, q < min l.toNat 32768 ∧ (q : Int) = z % (min l.toNat 32768 : Nat) := by
  have hpos : 0 < l.toNat := Nat.pos_of_ne_zero fun h => hl (BitVec.eq_of_toNat_eq h)
  have hlen : (0 : Int) < (min l.toNat 32768 : Nat) := by omega
  obtain ⟨q, hq⟩ := Int.eq_ofNat_of_zero_le (Int.emod_nonneg z hlen.ne')
  have hlt := Int.emod_lt_of_pos z hlen
  exact ⟨q, by omega, hq.symm⟩

/-- Settles O16: the codes give their steps by definition, and a step is one remainder, by 65,536 or by the length of the line. -/
theorem pointersMove : Obligations.PointersMove := by
  unfold Obligations.PointersMove
  intro c i p l b n
  refine ⟨⟨rfl, rfl, rfl, rfl⟩, fun hl => ?linear, fun hl => ?circular⟩
  case linear => exact hl ▸ toNat_stepPtr_linear p b n
  case circular =>
    obtain ⟨q, hlt, hq⟩ := exists_circular_place hl ((p.toNat : Int) - b.toNat + n)
    exact ⟨q, hlt, hq, toNat_stepPtr_circular hl hq⟩

end Sys2Proof.Machine
end
